-- ==== Sys2Proof/Word.lean ====
section
/-! DEFINITION. The plainest types of the model: bytes, words, and the sparse table that holds everything the manual
repeats over an index. -/
namespace Sys2Proof

/-- A byte, as the manual's frames and memories hold it. -/
abbrev Byte := BitVec 8

/-- A 32-bit register word (R7). -/
abbrev Word := BitVec 32

/-- A 64-bit Preoth value (R36) or a 64-bit register value (R7). -/
abbrev Quad := BitVec 64

/-- Sparse data by key: a list of (key, value) pairs in one canonical form, keys strictly rising and no entry equal to
what an unlisted key reads as. -/
abbrev Tab (α : Type) := List (Nat × α)

end Sys2Proof
end

