-- ==== Sys2Proof/Syntax.lean ====
section
/-! DEFINITION. The commands of the BN7144-E: one constructor for each row of spec/opcode_table.json. A command is one
thing that happens to the block: an access through a command port, an instruction that a context issues, a frame, a
PLOAM message or an edge that arrives, a time that passes. What the outside world decides (the bytes of a frame, a
measured voltage, whether a self-test passed) is an operand. -/
namespace Sys2Proof

/-- A general register number of a Preoth machine (R36). -/
abbrev GReg := BitVec 5

/-- Who executes a Preoth instruction: one of the 1,024 contexts (R23) or one of the 145 gate sequencers (R104). -/
inductive Agent where
  | ctx (c : Nat)
  | gate (p : Nat)
deriving DecidableEq, Repr

/-- Where a register access, a write or a command comes from (R527, R581). -/
inductive Src where
  | hw
  | serial
  | host
  | proxy
  | ctx (c : Nat)
deriving DecidableEq, Repr

/-- The four memory spaces of R41. -/
inductive MemSpace where
  | l | s | h | k
deriving DecidableEq, Repr

/-- What the check bits of a word read from L or S show (R49): no error, one that is corrected, or one that is not. -/
inductive EccErr where
  | clean | single | double
deriving DecidableEq, Repr

/-- The access sizes of the M format (R58). -/
inductive MemSize where
  | b8 | b16 | b32 | b64
deriving DecidableEq, Repr

/-- How a boot stage ends (R117, R118). -/
inductive BootResult where
  | ok
  | memFail (dom : BitVec 4) (blk : BitVec 8)
  | entropyFail
  | hbmFail (stack : Bool)
  | calibBad
deriving DecidableEq, Repr


/-- What arrives at a port's MAC merge sublayer (R353, R372): an express frame, destination address to FCS; the first fragment of a preemptable frame, or all
of it, with its frame count; a continuation fragment with its frame count and fragment count; each with its FCS or mCRC; an SMD that is not valid; a verify
frame or its response. -/
inductive RxFrame where
  | express (bytes : List Byte)
  | start (count : BitVec 2) (bytes : List Byte)
  | cont (count frag : BitVec 2) (bytes : List Byte)
  | badSmd
  | verify
  | respond
deriving DecidableEq, Repr

/-- What happens around a received frame that the device does not decide: the cipher lane it is assigned to, whether the two
pipelines disagree on it, what is added to its stamp in 1/256 ns, and whether cut-through forwarding had begun when a check failed. -/
structure RxEnv where
  lane : Nat
  mismatch : Bool
  fine : Int
  begun : Bool
deriving DecidableEq, Repr

/-- What happens around a frame that is sent: the cipher lane, the keystream block at which its pipelines disagree, what the check bits of the data read show, what is added to its stamp in
1/256 ns, and, as the bytes of the frame that have been sent by then: when an express frame of the port becomes ready to start, when the transmit
store runs dry, and when a close edge of its class is applied. -/
structure TxEnv where
  lane : Nat
  mismatch : Option Nat
  dataErr : EccErr
  fine : Int
  preempt : Option Nat
  underrun : Option Nat
  closed : Option Nat
deriving DecidableEq, Repr

/-- An XGEM frame of a downstream FS payload (R152): idle, one whose header HEC fails, or a fragment: its port ID, key index, whether
it is the last of its SDU, the place in the frame of its header's first bit, parity included, and its payload. -/
inductive Xgem where
  | idle
  | bad
  | frag (port : Nat) (key : BitVec 2) (last : Bool) (bit : Nat) (bytes : List Byte)
deriving DecidableEq, Repr

/-- An allocation structure of a bandwidth map (R230): whether its HEC holds, its alloc-ID, its start in the upstream frame in 1/256 ns,
its profile index, the bytes it has for XGEM frames, the bytes of all it grants, its flags, and whether it continues the burst of the
structure before it. -/
structure AllocGrant where
  hecOk : Bool
  allocId : Nat
  start : Nat
  profile : Nat
  room : Nat
  wire : Nat
  dbru : Bool
  ploamu : Bool
  cont : Bool
deriving DecidableEq, Repr

/-- A downstream PHY frame position (R146, R149): whether PSync matches, the superframe counter where its HEC checks or corrects,
whether the operation control structure's HEC fails, what is added to its stamp in 1/256 ns, codewords decoded, bits corrected and
uncorrectable codewords, and what it carries; the cipher lane, and whether its pipelines disagree on the first SDU they decrypt. -/
structure DsFrame where
  psync : Bool
  sfc : Option (BitVec 51)
  ocsBad : Bool
  fine : Int
  cw : Nat
  corr : Nat
  uncorr : Nat
  map : List AllocGrant
  ploam : List (List Byte)
  xgem : List Xgem
  lane : Nat
  mismatch : Bool
deriving DecidableEq, Repr

/-- The commands, in the order of the opcode table. -/
inductive Instr where
  /-- REGISTER_WRITE (R10). -/
  | registerWrite (src : Src) (addr v : Word)
  /-- CLEAR_ON_READ_READ (R10). -/
  | clearOnReadRead (src : Src) (addr : Word)
  /-- COUNTER_LOW_WORD_READ (R9). -/
  | counterLowWordRead (src : Src) (addr : Word)
  /-- RESULT_SLOT_STATUS_READ (R543). -/
  | resultSlotStatusRead (src : Src) (addr : Word)
  /-- INPUT_VALID (R569). -/
  | inputValid (hold : Bool) (ser : BitVec 3)
  /-- POWER_REMOVAL (R569). -/
  | powerRemoval
  /-- BOOT_STAGE_COMPLETE (R113). -/
  | bootStageComplete (r : BootResult)
  /-- BOOT_GO (R119). -/
  | bootGo (src : Src) (v : Word)
  /-- WARM_RESET_REQUEST (R123). -/
  | warmResetRequest (src : Src) (v : Word)
  /-- COLD_RESET_REQUEST (R123). -/
  | coldResetRequest (src : Src) (v : Word)
  /-- PCIE_RESET (R124). -/
  | pcieReset
  /-- HOST_LINK_CHANGE (R554). -/
  | hostLinkChange (up : Bool) (speed width : BitVec 3)
  /-- WATCHDOG_FEED (R125). -/
  | watchdogFeed (src : Src) (v : Word)
  /-- KETTLE_WATCHDOG_EXPIRED (R125). -/
  | kettleWatchdogExpired
  /-- SITE_VENDOR_WRITE (R133). -/
  | siteVendorWrite (src : Src) (v : Word)
  /-- SITE_SERIAL_WRITE (R133). -/
  | siteSerialWrite (src : Src) (v : Word)
  /-- SITE_LOCK_WRITE (R134). -/
  | siteLockWrite (src : Src) (v : Word)
  /-- ROOT_KEY_PROGRAM (R481). -/
  | rootKeyProgram (src : Src) (v : Word)
  /-- ROOT_KEY_PROGRAM_DONE (R136). -/
  | rootKeyProgramDone (ok : Bool)
  /-- ROOT_STAGING_TIMEOUT (R481). -/
  | rootStagingTimeout
  /-- OVEN_FIRST_STABLE (R260). -/
  | ovenFirstStable (dev : BitVec 16) (heater : BitVec 8)
  /-- OVEN_STABILITY_TIMEOUT (R260). -/
  | ovenStabilityTimeout (dev : BitVec 16) (heater : BitVec 8)
  /-- OVEN_BAND_CHANGE (R261). -/
  | ovenBandChange (inBand : Bool) (dev : BitVec 16) (heater : BitVec 8)
  /-- NOP (R61). -/
  | nop (a : Agent)
  /-- ADD (R61). -/
  | add (a : Agent) (rd ra rb : GReg)
  /-- SUB (R61). -/
  | sub (a : Agent) (rd ra rb : GReg)
  /-- AND (R61). -/
  | andR (a : Agent) (rd ra rb : GReg)
  /-- OR (R61). -/
  | orR (a : Agent) (rd ra rb : GReg)
  /-- XOR (R61). -/
  | xorR (a : Agent) (rd ra rb : GReg)
  /-- SHL (R61). -/
  | shl (a : Agent) (rd ra rb : GReg)
  /-- SHR (R61). -/
  | shr (a : Agent) (rd ra rb : GReg)
  /-- SAR (R61). -/
  | sar (a : Agent) (rd ra rb : GReg)
  /-- MUL (R61). -/
  | mul (a : Agent) (rd ra rb : GReg)
  /-- MULHU (R61). -/
  | mulhu (a : Agent) (rd ra rb : GReg)
  /-- DIVU (R61). -/
  | divu (a : Agent) (rd ra rb : GReg)
  /-- REMU (R61). -/
  | remu (a : Agent) (rd ra rb : GReg)
  /-- CMP (R38). -/
  | cmp (a : Agent) (ra rb : GReg)
  /-- SEL (R61). -/
  | sel (a : Agent) (rd ra rb : GReg) (cond : BitVec 4)
  /-- ADDI (R61). -/
  | addi (a : Agent) (rd ra : GReg) (imm : BitVec 16)
  /-- ANDI (R61). -/
  | andi (a : Agent) (rd ra : GReg) (imm : BitVec 16)
  /-- ORI (R61). -/
  | ori (a : Agent) (rd ra : GReg) (imm : BitVec 16)
  /-- XORI (R61). -/
  | xori (a : Agent) (rd ra : GReg) (imm : BitVec 16)
  /-- SHLI (R61). -/
  | shli (a : Agent) (rd ra : GReg) (n : BitVec 6)
  /-- SHRI (R61). -/
  | shri (a : Agent) (rd ra : GReg) (n : BitVec 6)
  /-- SARI (R61). -/
  | sari (a : Agent) (rd ra : GReg) (n : BitVec 6)
  /-- CMPI (R38). -/
  | cmpi (a : Agent) (ra : GReg) (imm : BitVec 16)
  /-- KSET (R61). -/
  | kset (a : Agent) (rd : GReg) (imm : BitVec 16)
  /-- KCAT (R61). -/
  | kcat (a : Agent) (rd : GReg) (imm : BitVec 16)
  /-- EXT (R61). -/
  | extZ (a : Agent) (rd ra : GReg) (lsb wm1 : BitVec 6)
  /-- EXTS (R61). -/
  | exts (a : Agent) (rd ra : GReg) (lsb wm1 : BitVec 6)
  /-- INS (R61). -/
  | insB (a : Agent) (rd ra : GReg) (lsb wm1 : BitVec 6)
  /-- CNT (R61). -/
  | cnt (a : Agent) (rd ra : GReg) (fn : BitVec 4)
  /-- BSWAP (R61). -/
  | bswap (a : Agent) (rd ra : GReg) (fn : BitVec 4)
  /-- RESERVED_OPCODE (R59). -/
  | reservedOpcode (a : Agent) (w : Word)
  /-- LD (R42). -/
  | ld (a : Agent) (rd ra : GReg) (sp : MemSpace) (sz : MemSize) (off : BitVec 12) (err : EccErr)
  /-- LDS (R42). -/
  | lds (a : Agent) (rd ra : GReg) (sp : MemSpace) (sz : MemSize) (off : BitVec 12) (err : EccErr)
  /-- ST (R47). -/
  | st (a : Agent) (rs ra : GReg) (sp : MemSpace) (sz : MemSize) (off : BitVec 12)
  /-- AADD (R46). -/
  | aadd (a : Agent) (rd ra : GReg) (sp : MemSpace) (sz : MemSize) (off : BitVec 12) (err : EccErr)
  /-- CAS (R46). -/
  | cas (a : Agent) (rd ra rb : GReg) (sp : MemSpace) (err : EccErr)
  /-- FENCE (R47). -/
  | fence (a : Agent)
  /-- MFS (R39). -/
  | mfs (a : Agent) (rd : GReg) (sr : BitVec 8)
  /-- MTS (R39). -/
  | mts (a : Agent) (sr : BitVec 8) (ra : GReg)
  /-- BEQ (R60). -/
  | beq (a : Agent) (ra rb : GReg) (off : BitVec 16)
  /-- BNE (R60). -/
  | bne (a : Agent) (ra rb : GReg) (off : BitVec 16)
  /-- BLT (R60). -/
  | blt (a : Agent) (ra rb : GReg) (off : BitVec 16)
  /-- BGE (R60). -/
  | bge (a : Agent) (ra rb : GReg) (off : BitVec 16)
  /-- BLTU (R60). -/
  | bltu (a : Agent) (ra rb : GReg) (off : BitVec 16)
  /-- BGEU (R60). -/
  | bgeu (a : Agent) (ra rb : GReg) (off : BitVec 16)
  /-- BC (R62). -/
  | bc (a : Agent) (cond : BitVec 4) (off : BitVec 16)
  /-- J (R60). -/
  | j (a : Agent) (off : BitVec 26)
  /-- CALL (R60). -/
  | call (a : Agent) (off : BitVec 26)
  /-- JR (R60). -/
  | jr (a : Agent) (ra : GReg)
  /-- JALR (R60). -/
  | jalr (a : Agent) (rd ra : GReg)
  /-- ERET (R67). -/
  | eret (a : Agent)
  /-- SEND (R84). -/
  | send (a : Agent) (rd ra rb : GReg) (len : BitVec 3)
  /-- RECV (R85). -/
  | recv (a : Agent) (rd ra rb : GReg)
  /-- TWAIT (R57). -/
  | twait (a : Agent) (ra : GReg)
  /-- TIME (R56). -/
  | timeNow (a : Agent) (rd : GReg)
  /-- CREG (R68). -/
  | creg (a : Agent) (rd ra : GReg)
  /-- CWR (R68). -/
  | cwr (a : Agent) (ra rb : GReg)
  /-- SYS (R64). -/
  | sysTrap (a : Agent) (imm : BitVec 16)
  /-- YIELD (R50). -/
  | yield (a : Agent)
  /-- HALT (R52). -/
  | halt (a : Agent)
  /-- STEPLIMIT_TRAP (R71). -/
  | steplimitTrap (c cost : Nat)
  /-- MEMORY_ACCESS_COMPLETE (R55). -/
  | memoryAccessComplete (a : Agent)
  /-- POSTED_STORE_COMPLETE (R47). -/
  | postedStoreComplete (a : Agent)
  /-- TWAIT_EXPIRY (R57). -/
  | twaitExpiry (a : Agent)
  /-- RECV_MESSAGE_TAKEN (R85). -/
  | recvMessageTaken (a : Agent)
  /-- RECV_DEADLINE (R87). -/
  | recvDeadline (a : Agent)
  /-- SEND_STATUS_RETURN (R84). -/
  | sendStatusReturn (c : Nat)
  /-- HCALL_COMPLETE (R95). -/
  | hcallComplete (a : Agent)
  /-- UNKNOWN_HCALL (R77). -/
  | unknownHcall (a : Agent) (rd ra : GReg) (n : BitVec 8)
  /-- PKT_NEXT (R96). -/
  | pktNext (a : Agent) (rd ra : GReg)
  /-- PACKET_DELIVERY (R96). -/
  | packetDelivery (e : Nat)
  /-- PKT_SEND (R98). -/
  | pktSend (a : Agent) (rd ra : GReg)
  /-- PKT_DROP (R100). -/
  | pktDrop (a : Agent) (rd ra : GReg)
  /-- PKT_RECIRC (R99). -/
  | pktRecirc (a : Agent) (rd ra : GReg)
  /-- PKT_DUP (R44). -/
  | pktDup (a : Agent) (rd ra : GReg)
  /-- PKT_EMIT (R101). -/
  | pktEmit (a : Agent) (rd ra : GReg)
  /-- LD_ALLOC (R420). -/
  | ldAlloc (a : Agent) (rd ra : GReg)
  /-- LD_FREE (R426). -/
  | ldFree (a : Agent) (rd ra : GReg)
  /-- SV_LOOKUP (R400). -/
  | svLookup (a : Agent) (rd ra : GReg)
  /-- SV_FLOWSTAT (R408). -/
  | svFlowstat (a : Agent) (rd ra : GReg)
  /-- TM_DEPTH (R459). -/
  | tmDepth (a : Agent) (rd ra : GReg)
  /-- TM_DELAY (R459). -/
  | tmDelay (a : Agent) (rd ra : GReg)
  /-- CX_UNWRAP (R487). -/
  | cxUnwrap (a : Agent) (rd ra : GReg)
  /-- CX_PNLEFT (R477). -/
  | cxPnleft (a : Agent) (rd ra : GReg)
  /-- TB_TIMER (R102). -/
  | tbTimer (a : Agent) (rd ra : GReg)
  /-- TB_CANCEL (R102). -/
  | tbCancel (a : Agent) (rd ra : GReg)
  /-- PW_VOTE (R497). -/
  | pwVote (a : Agent) (rd ra : GReg)
  /-- PW_UNVOTE (R497). -/
  | pwUnvote (a : Agent) (rd ra : GReg)
  /-- PW_NEXT (R102). -/
  | pwNext (a : Agent) (rd ra : GReg)
  /-- AUTH_NARROW (R79). -/
  | authNarrow (a : Agent) (rd ra : GReg)
  /-- EV_RAISE (R112). -/
  | evRaise (a : Agent) (rd ra : GReg)
  /-- GT_EDGE (R105). -/
  | gtEdge (a : Agent) (rd ra : GReg)
  /-- GT_FLUSH (R105). -/
  | gtFlush (a : Agent) (rd ra : GReg)
  /-- CONTEXT_START (R52). -/
  | contextStart (src : Src) (c : Nat)
  /-- CONTEXT_STOP (R52). -/
  | contextStop (src : Src) (c : Nat)
  /-- CONTEXT_RESET (R52). -/
  | contextReset (src : Src) (c : Nat)
  /-- ENGINE_SINGLE_STEP (R73). -/
  | engineSingleStep (src : Src) (e : Nat) (v : Word)
  /-- PR_MEM_DATA_ACCESS (R73). -/
  | prMemDataAccess (src : Src) (e : Nat) (w : Option Word)
  /-- PR_STM_DATA_ACCESS (R129). -/
  | prStmDataAccess (src : Src) (w : Option Word)
  /-- HOST_MESSAGE_GO (R89). -/
  | hostMessageGo (src : Src) (e : Nat) (v : Word)
  /-- MESSAGE_ARRIVE (R91). -/
  | messageArrive (n : Nat)
  /-- TIMER_EXPIRY (R102). -/
  | timerExpiry (c t : Nat)
  /-- PENDING_MESSAGE_RELEASE (R88). -/
  | pendingMessageRelease (n : Nat)
  /-- ENGINE_LOAD_GO (R129). -/
  | engineLoadGo (src : Src) (e : Nat) (v : Word)
  /-- ENGINE_LOAD_COMPLETE (R132). -/
  | engineLoadComplete (e : Nat)
  /-- GATE_START (R364). -/
  | gateStart (src : Src) (p : Nat) (v : Word)
  /-- GATE_STOP (R364). -/
  | gateStop (src : Src) (p : Nat) (v : Word)
  /-- GATE_RESET (R364). -/
  | gateReset (src : Src) (p : Nat) (v : Word)
  /-- GATE_LOAD_GO (R365). -/
  | gateLoadGo (src : Src) (p : Nat) (v : Word)
  /-- GATE_EDGE_APPLY (R359). -/
  | gateEdgeApply (p : Nat)
  /-- PORT_REROLE (R366). -/
  | portRerole (src : Src) (p : Nat) (v : Word)
  /-- DS_FRAME (R146). -/
  | dsFrame (ch : Nat) (f : DsFrame)
  /-- DS_FRAME_SYNC_LOST (R146). -/
  | dsFrameSyncLost (ch : Nat)
  /-- BOND_CHANNEL_JOINED (R167). -/
  | bondChannelJoined (ch : Nat)
  /-- DS_LOS_CHANGE (R175). -/
  | dsLosChange (ch : Nat) (los : Bool)
  /-- DS_SIGNAL_EVAL (R150). -/
  | dsSignalEval (ch : Nat)
  /-- REORDER_TIMEOUT (R160). -/
  | reorderTimeout (g : Nat)
  /-- DS_MODE_WRITE (R142). -/
  | dsModeWrite (src : Src) (v : Word)
  /-- DS_GROUP_CAP_WRITE (R165). -/
  | dsGroupCapWrite (src : Src) (g : Nat) (v : Word)
  /-- SNAPSHOT_ARM (R173). -/
  | snapshotArm (src : Src) (ch : Nat) (v : Word)
  /-- PLOAM_DELIVERY (R191). -/
  | ploamDelivery
  /-- BURST_PROFILE (R188). Here and in the messages below `mic` tells whether the message's MIC checks (R189). -/
  | burstProfile (mic : Bool) (m n rate : Nat) (fec : Bool) (guard : BitVec 8) (preamble : BitVec 10) (delim : BitVec 6)
  /-- ASSIGN_ONU_ID (R185). -/
  | assignOnuId (mic : Bool) (onu : BitVec 10) (vendor serial : Word)
  /-- RANGING_TIME (R198). -/
  | rangingTime (mic : Bool) (eqd : Nat)
  /-- DEACTIVATE_ONU_ID (R177). -/
  | deactivateOnuId (mic : Bool) (onu : Option (BitVec 10))
  /-- DISABLE_SERIAL_NUMBER (R211). -/
  | disableSerialNumber (mic : Bool) (vendor serial : Word)
  /-- ENABLE_SERIAL_NUMBER (R212). -/
  | enableSerialNumber (mic : Bool) (target : Option (Word × Word))
  /-- REQUEST_REGISTRATION (R187). -/
  | requestRegistration (mic : Bool)
  /-- ASSIGN_ALLOC_ID (R222). -/
  | assignAllocId (mic : Bool) (id : BitVec 14) (assign : Bool)
  /-- KEY_CONTROL (R475). -/
  | keyControl (mic : Bool) (idx : BitVec 2)
  /-- SLEEP_ALLOW (R509). -/
  | sleepAllow (mic : Bool) (mode : BitVec 2)
  /-- HELLO (R194). -/
  | hello (mic : Bool) (body : List Byte)
  /-- BONDSET (R194). -/
  | bondset (mic : Bool) (body : List Byte)
  /-- MEMBERACK (R195). -/
  | memberack (mic : Bool) (body : List Byte)
  /-- PAIRRANGE (R203). -/
  | pairrange (mic : Bool) (body : List Byte)
  /-- PAIRRESULT (R204). -/
  | pairresult (mic : Bool) (body : List Byte)
  /-- PREDICTSET (R246). -/
  | predictset (mic : Bool) (body : List Byte)
  /-- MEMBERSHIP_REPEAT (R195). -/
  | membershipRepeat
  /-- PAIR_REQUEST_PERIOD (R202). -/
  | pairRequestPeriod
  /-- PAIR_ARM_TIMEOUT (R203). -/
  | pairArmTimeout (n : BitVec 2) (m : BitVec 1)
  /-- ASYM_REFIT (R202). -/
  | asymRefit (src : Src) (v : Word)
  /-- ASYM_MODEL_WRITE (R209). -/
  | asymModelWrite (src : Src) (v : Word)
  /-- DISCOVERY_WINDOW (R184). -/
  | discoveryWindow (sfc start : Nat)
  /-- RANGING_GRANT (R177). -/
  | rangingGrant (m : BitVec 1) (sfc start : Nat)
  /-- TO1_EXPIRY (R177). -/
  | to1Expiry
  /-- TO2_EXPIRY (R177). -/
  | to2Expiry
  /-- ACTIVATION_DEACT (R177). -/
  | activationDeact (src : Src) (v : Word)
  /-- ESTOP_CLEAR (R212). -/
  | estopClear (src : Src) (v : Word)
  /-- WD_CLEAR0 (R215). -/
  | wdClear0 (src : Src) (v : Word) (dark : Bool)
  /-- WD_CLEAR1 (R215). -/
  | wdClear1 (src : Src) (v : Word) (dark : Bool)
  /-- BURST_WATCHDOG_TRIP (R214). -/
  | burstWatchdogTrip (m : BitVec 1) (light : Bool)
  /-- BURST_STAGING_START (R234). -/
  | burstStagingStart (m : Nat) (lane : Nat) (mismatch : Option Nat) (err : EccErr)
  /-- BURST_START (R234). -/
  | burstStart (m : Nat) (fine : Int) (dry : Option Nat)
  /-- BURST_END (R234). -/
  | burstEnd (m : Nat)
  /-- ALLOC_MAP_WRITE (R226). -/
  | allocMapWrite (src : Src) (a : Nat) (v : Word)
  /-- HOLD_DETECT_EXPIRY (R250). -/
  | holdDetectExpiry (a : Nat)
  /-- HOLD_MAX_EXPIRY (R250). -/
  | holdMaxExpiry (a : Nat)
  /-- HOLD_FORCE_START (R250). -/
  | holdForceStart (src : Src) (v : Word)
  /-- HOLD_FORCE_ABANDON (R250). -/
  | holdForceAbandon (src : Src) (v : Word)
  /-- TB_INCR_WRITE (R263). -/
  | tbIncrWrite (src : Src) (high : Bool) (v : Word)
  /-- TB_STEP_WRITE (R265). -/
  | tbStepWrite (src : Src) (high : Bool) (v : Word)
  /-- TIMEBASE_STEP_APPLY (R267). -/
  | timebaseStepApply
  /-- TB_REARM (R266). -/
  | tbRearm (src : Src) (v : Word)
  /-- TB_NS_READ (R264). -/
  | tbNsRead (src : Src)
  /-- PPS_OUT_NEXT_WRITE (R282). -/
  | ppsOutNextWrite (src : Src) (v : Word)
  /-- PPS_OUT_EDGE (R281). -/
  | ppsOutEdge
  /-- PPS_IN_EDGE (R285). -/
  | ppsInEdge (fine : Int)
  /-- PPS_IN_LOSS (R285). -/
  | ppsInLoss
  /-- TOD_OUT_SEND (R287). -/
  | todOutSend
  /-- TOD_IN_LINE (R288). -/
  | todInLine (line : List Byte) (framing : Bool) (lasted : Nat)
  /-- TOD_COMMIT (R294). -/
  | todCommit (src : Src) (v : Word)
  /-- HOLDOVER_MODEL_RESET (R312). -/
  | holdoverModelReset (src : Src) (v : Word)
  /-- BC_ID_WRITE (R307). -/
  | bcIdWrite (src : Src) (high : Bool) (v : Word)
  /-- LANE_CTRL_WRITE (R327). -/
  | laneCtrlWrite (src : Src) (p : Nat) (v : Word)
  /-- LANE_BLOCK_ALIGNED (R333). -/
  | laneBlockAligned (p : Nat) (bits : List Bool)
  /-- LANE_ALIGNMENT_LOSS (R333). -/
  | laneAlignmentLoss (p : Nat) (bits : List Bool)
  /-- LANE_PAGE_RECEIVE (R336). -/
  | lanePageReceive (p : Nat) (bits : List Bool) (n : Nat)
  /-- LANE_PAGE_SLOT (R337). -/
  | lanePageSlot (p : Nat)
  /-- LANE_NEG_TIMEOUT (R328). -/
  | laneNegTimeout (p : Nat)
  /-- LANE_REJECT_TIMEOUT (R328). -/
  | laneRejectTimeout (p : Nat)
  /-- LANE_UP (R328). -/
  | laneUp (p : Nat)
  /-- LANE_RETRY_TIMEOUT (R325). -/
  | laneRetryTimeout (p : Nat)
  /-- LANE_LINK_LOSS (R328). -/
  | laneLinkLoss (p : Nat)
  /-- CLIENT_LOS_CHANGE (R349). -/
  | clientLosChange (p : Nat) (los : Bool)
  /-- LANE_REF_UNLOCK (R322). -/
  | laneRefUnlock (g k : Nat) (locked : Bool)
  /-- LANE_TX_FAULT (R347). -/
  | laneTxFault (p : Nat)
  /-- TX_LPI_ENTER (R339). -/
  | txLpiEnter (p : Nat)
  /-- TX_LPI_WAKE (R339). -/
  | txLpiWake (p : Nat)
  /-- RX_LPI_CHANGE (R340). -/
  | rxLpiChange (p : Nat) (lpi : Bool)
  /-- PRBS_GEN_WRITE (R342). -/
  | prbsGenWrite (src : Src) (p : Nat) (v : Word)
  /-- PRBS_CHK_WRITE (R343). -/
  | prbsChkWrite (src : Src) (p : Nat) (v : Word)
  /-- PRBS_INJECT_ONE (R344). -/
  | prbsInjectOne (src : Src) (p : Nat) (v : Word)
  /-- PRBS_INJECT_HDR (R344). -/
  | prbsInjectHdr (src : Src) (p : Nat) (v : Word)
  /-- PRBS_CHECKER_LOCK (R343). -/
  | prbsCheckerLock (p : Nat) (bits : List Bool)
  /-- PRBS_CHECKER_LOSS (R343). -/
  | prbsCheckerLoss (p : Nat) (bits : List Bool)
  /-- CLIENT_FRAME_RECEIVE (R372). -/
  | clientFrameReceive (p : Nat) (f : RxFrame) (env : RxEnv)
  /-- MAC_TX_FRAME (R350). -/
  | macTxFrame (p : Nat) (env : TxEnv)
  /-- MAC_RESUME (R355). -/
  | macResume (p : Nat) (env : TxEnv)
  /-- PREEMPT_VERIFY_TIMER (R353). -/
  | preemptVerifyTimer (p : Nat)
  /-- SIEVE_PASS (R379). -/
  | sievePass (port pipe : Nat)
  /-- BACKBURNER_PROCESS (R407). -/
  | backburnerProcess
  /-- FRAG_WAIT_TIMEOUT (R405). -/
  | fragWaitTimeout (n : Nat)
  /-- FRAG_ENTRY_EXPIRY (R405). -/
  | fragEntryExpiry (n : Nat)
  /-- RULE_SET_SWAP (R393). -/
  | ruleSetSwap (src : Src) (v : Word)
  /-- RULE_SET_DRAINED (R395). -/
  | ruleSetDrained
  /-- SV_EM_WORD_WRITE (R391). -/
  | svEmWordWrite (src : Src) (k : Nat) (high : Bool) (v : Word)
  /-- SV_TR_WORD_WRITE (R395). -/
  | svTrWordWrite (src : Src) (set k : Nat) (high : Bool) (v : Word)
  /-- SV_ACT_WORD_WRITE (R397). -/
  | svActWordWrite (src : Src) (high : Bool) (v : Word)
  /-- WHISK_SEED_WRITE (R403). -/
  | whiskSeedWrite (src : Src) (high : Bool) (v : Word)
  /-- FLOWSTAT_HOST_READ (R408). -/
  | flowstatHostRead (src : Src) (pkts high : Bool)
  /-- LADLE_PREFETCH_REFILL (R422). -/
  | ladlePrefetchRefill (p st : Nat) (damaged : Bool) (err : EccErr)
  /-- LEDGER_REBUILD_DONE (R430). -/
  | ledgerRebuildDone (p st : Nat)
  /-- LD_PARTITION_WRITE (R413). -/
  | ldPartitionWrite (src : Src) (k : Nat) (v : Word)
  /-- LD_RESERVE_WRITE (R421). -/
  | ldReserveWrite (src : Src) (r p : Nat) (cap : Bool) (v : Word)
  /-- LEDGER_LOOKUP (R425). -/
  | ledgerLookup (src : Src) (high : Bool) (v : Word)
  /-- SCHEDULER_DEQUEUE (R442). -/
  | schedulerDequeue (p : Nat)
  /-- CAPTURE_WRITE (R461). -/
  | captureWrite (k : Nat)
  /-- SHAPER_SELECT (R451). -/
  | shaperSelect (src : Src) (v : Word)
  /-- SHAPER_COMMIT (R451). -/
  | shaperCommit (src : Src) (v : Word)
  /-- POLICER_SELECT (R454). -/
  | policerSelect (src : Src) (v : Word)
  /-- POLICER_COMMIT (R454). -/
  | policerCommit (src : Src) (v : Word)
  /-- LOAD_FORECAST (R460). -/
  | loadForecast
  /-- CIPHER_LANE_REVIVE (R467). -/
  | cipherLaneRevive (src : Src) (l : Nat) (v : Word)
  /-- CIPHER_REVIVE_DONE (R467). -/
  | cipherReviveDone (l : Nat) (pass : Bool)
  /-- PON_KEY_GENERATE (R475). -/
  | ponKeyGenerate (src : Src) (v : Word)
  /-- BLOB_SUBMIT (R487). -/
  | blobSubmit (src : Src) (v : Word)
  /-- UNWRAP_COMPLETE (R486). -/
  | unwrapComplete
  /-- SC_CLEAR (R478). -/
  | scClear (src : Src) (c : Nat) (v : Word)
  /-- SC_PN_WRITE (R478). -/
  | scPnWrite (src : Src) (c : Nat) (high : Bool) (v : Word)
  /-- KEK_CLEAR (R484). -/
  | kekClear (src : Src) (high : Bool) (v : Word)
  /-- DOMAIN_ENTRY_COMPLETE (R493). -/
  | domainEntryComplete (d : Nat)
  /-- DOMAIN_EXIT_COMPLETE (R493). -/
  | domainExitComplete (d : Nat) (restored : Bool)
  /-- DOMAIN_WAKE_TIME (R504). -/
  | domainWakeTime (d : Nat)
  /-- DOMAIN_DEADLINE_WAKE (R503). -/
  | domainDeadlineWake (d : Nat)
  /-- PICKER_MESSAGE (R504). -/
  | pickerMessage
  /-- VOTE_HOST_WRITE (R498). -/
  | voteHostWrite (src : Src) (v : Word)
  /-- VOTE_SERIAL_WRITE (R498). -/
  | voteSerialWrite (src : Src) (v : Word)
  /-- SAVE_DATA_ACCESS (R513). -/
  | saveDataAccess (src : Src) (w : Option Word)
  /-- BATTERY_ENTER (R516). -/
  | batteryEnter (vin : BitVec 16) (contact : Bool)
  /-- BATTERY_LEAVE (R516). -/
  | batteryLeave (vin : BitVec 16) (contact : Bool)
  /-- BATTERY_DELAY_EXPIRY (R517). -/
  | batteryDelayExpiry
  /-- INPUT_UNDERVOLTAGE (R517). -/
  | inputUndervoltage (vin : BitVec 16)
  /-- TIMEKEEP_REQUEST (R517). -/
  | timekeepRequest (src : Src) (v : Word)
  /-- TIMEKEEP_EXIT_REQUEST (R520). -/
  | timekeepExitRequest (src : Src) (v : Word)
  /-- TIMEKEEP_EXIT_COMPLETE (R520). -/
  | timekeepExitComplete
  /-- GOVERNOR_UPDATE (R522). -/
  | governorUpdate (floor : Nat) (tj : BitVec 16) (failDom : Nat)
  /-- SLEEP_LOWPOWER_END (R509). -/
  | sleepLowpowerEnd
  /-- SLEEP_AWARE_END (R509). -/
  | sleepAwareEnd
  /-- BAR0_REQUEST (R536). -/
  | bar0Request (addr : Word) (be : List (BitVec 4)) (ws : Option (List Word))
  /-- BAR2_REQUEST (R537). -/
  | bar2Request (off : BitVec 32) (n : Nat) (ws : Option (List Byte))
  /-- SERIAL_READ (R540). -/
  | serialRead (addr : Word) (n : BitVec 8) (crc : Byte)
  /-- SERIAL_READ_FIXED (R540). -/
  | serialReadFixed (addr : Word) (n : BitVec 8) (crc : Byte)
  /-- SERIAL_WRITE (R540). -/
  | serialWrite (addr : Word) (ws : List Word) (n : BitVec 8) (crc : Byte)
  /-- SERIAL_WRITE_FIXED (R540). -/
  | serialWriteFixed (addr : Word) (ws : List Word) (n : BitVec 8) (crc : Byte)
  /-- SERIAL_STATUS (R542). -/
  | serialStatus (cmd : Byte) (crc : Byte)
  /-- SERIAL_WRITE_PHASE_ABANDONED (R541). -/
  | serialWritePhaseAbandoned
  /-- PROXY_READ (R534). -/
  | proxyRead (src : Src) (v : Word)
  /-- PROXY_WRITE (R534). -/
  | proxyWrite (src : Src) (v : Word)
  /-- DELEGATION_WRITE (R532). -/
  | delegationWrite (src : Src) (v : Word)
  /-- RING_ENABLE_WRITE (R548). -/
  | ringEnableWrite (src : Src) (v : Word)
  /-- EVENT_WINDOW_CLOSE (R549). -/
  | eventWindowClose (ev obj : Nat) (rate : Bool)
  /-- LATCH_DRAIN (R550). -/
  | latchDrain
  /-- LATCH_POP (R550). -/
  | latchPop (src : Src) (v : Word)
  /-- MSIX_INTERVAL_EXPIRY (R552). -/
  | msixIntervalExpiry (vec : Nat)
  /-- MSIX_UNMASK (R552). -/
  | msixUnmask (src : Src) (vec : Nat) (v : Word)
  /-- OVER_TEMPERATURE (R557). -/
  | overTemperature (tj : BitVec 16)
  /-- THERMAL_TRIP (R558). -/
  | thermalTrip (dom : BitVec 4)
  /-- GATE_LOAD_COMPLETE (R365). -/
  | gateLoadComplete (p : Nat)
  /-- HOST_MESSAGE_DONE (R89). -/
  | hostMessageDone (e : Nat)
  /-- DESCRAMBLER_SYNC_LOSS (R334). -/
  | descramblerSyncLoss (p : Nat) (bits : List Bool)
  /-- FROZEN_GRACE_EXPIRY (R510). -/
  | frozenGraceExpiry (ch : Nat)
  /-- WARNING_CLEARED (R557). -/
  | warningCleared (tj : BitVec 16)
  /-- INPUT_VOLTAGE_RISE (R520). -/
  | inputVoltageRise (vin : BitVec 16)
deriving DecidableEq, Repr

end Sys2Proof
end

