-- ==== Sys2Proof/Decode.lean ====
section
/-! DEFINITION. The commands that a word spells by the bits of the opcode table. The table gives no row of this block any bits, so no word
spells a command. (The encoding of the instructions that the Preoth machines inside the block fetch is in Machine/Encoding.lean.) -/
namespace Sys2Proof

/-- The command that a word spells: none, because the opcode table gives no row a field. (log 3, DESIGN CHOICE) -/
def decodeTableWord (_nbits _w : Nat) : Option Instr := none

end Sys2Proof
end

