-- ==== Sys2Proof/Machine/Bytes.lean ====
section
/-! DEFINITION. Bytes and numbers: little-endian and big-endian packing, bit fields of numbers, and the checksums of the
standards the manual names (CRC-32 of IEEE 802.3, CRC-32C, the CRC-8 of R541, the Internet checksum). -/
namespace Sys2Proof.Machine

/-- Bits [lo + len − 1 : lo] of a number. -/
def bits (v lo len : Nat) : Nat := v / 2 ^ lo % 2 ^ len

/-- One bit of a number. -/
def bit (v lo : Nat) : Bool := v / 2 ^ lo % 2 == 1

/-- 1 for true, 0 for false. -/
def b2n (b : Bool) : Nat := if b then 1 else 0

/-- Replace a bit field of a number. -/
def putBits (v lo len x : Nat) : Nat :=
  v % 2 ^ lo + (x % 2 ^ len) * 2 ^ lo + v / 2 ^ (lo + len) * 2 ^ (lo + len)

/-- Add one to a count that saturates at all-ones of `len` bits. -/
def satAdd (len v n : Nat) : Nat := min (v + n) (2 ^ len - 1)

/-- A list of bytes as a number, first byte least significant (R40). -/
def leNat : List Byte → Nat
  | [] => 0
  | b :: r => b.toNat + 256 * leNat r

/-- The `n` low bytes of a number, least significant first. -/
def leBytes (v : Nat) : Nat → List Byte
  | 0 => []
  | n + 1 => BitVec.ofNat 8 v :: leBytes (v / 256) n

/-- A list of bytes as a number, first byte most significant (network order). -/
def beNat (l : List Byte) : Nat := l.foldl (fun a b => a * 256 + b.toNat) 0

/-- The `n` low bytes of a number, most significant first. -/
def beBytes (v n : Nat) : List Byte := (leBytes v n).reverse

/-- The signed reading of the low `w` bits. -/
def sgn (w v : Nat) : Int := if v % 2 ^ w < 2 ^ (w - 1) then (v % 2 ^ w : Nat) else (v % 2 ^ w : Nat) - (2 ^ w : Nat)

/-- The low `w` bits of an integer in two's complement. -/
def unsgn (w : Nat) (v : Int) : Nat := (v % (2 ^ w : Nat)).toNat

/-- One byte of a reflected CRC: `poly` is the reflected polynomial. -/
def crcBit (poly : Nat) (c : Nat) : Nat := if c % 2 = 1 then (c / 2) ^^^ poly else c / 2

/-- Eight shifts of a reflected CRC. -/
def crcByte (poly c : Nat) (b : Byte) : Nat :=
  let x := c ^^^ b.toNat
  crcBit poly (crcBit poly (crcBit poly (crcBit poly (crcBit poly (crcBit poly (crcBit poly (crcBit poly x)))))))

/-- CRC-32 of IEEE 802.3 of a byte string. -/
def crc32 (l : List Byte) : Nat := l.foldl (crcByte 0xEDB88320) 0xFFFFFFFF ^^^ 0xFFFFFFFF

/-- CRC-32C (Castagnoli) of a byte string. -/
def crc32c (l : List Byte) : Nat := l.foldl (crcByte 0x82F63B78) 0xFFFFFFFF ^^^ 0xFFFFFFFF

/-- One shift of the CRC-8 of R541, polynomial x⁸ + x² + x + 1. -/
def crc8Bit (c : Nat) : Nat := if c ≥ 128 then (c * 2) % 256 ^^^ 0x07 else c * 2

/-- The CRC-8 of R541: initial value 0. -/
def crc8 (l : List Byte) : Nat :=
  l.foldl (fun c b => (fun x => crc8Bit (crc8Bit (crc8Bit (crc8Bit (crc8Bit (crc8Bit (crc8Bit (crc8Bit x))))))))
    (c ^^^ b.toNat)) 0

/-- The ones-complement sum of 16-bit big-endian words, folded to 16 bits (RFC 1071, as RFC 1624 uses it). -/
def onesSum : List Byte → Nat
  | [] => 0
  | [a] => a.toNat * 256
  | a :: b :: r => let t := a.toNat * 256 + b.toNat + onesSum r; t % 65536 + t / 65536

/-- The Internet checksum of a byte string. -/
def inetSum (l : List Byte) : Nat := 65535 - onesSum l

/-- Replace the bytes from an offset on. -/
def patch (l : List Byte) (off : Nat) (b : List Byte) : List Byte :=
  l.take off ++ b.take (l.length - off) ++ l.drop (off + b.length)

/-- The first byte of a value's field in a big-endian header: the `n` bytes from `off` as a number. -/
def beAt (l : List Byte) (off n : Nat) : Nat := beNat ((l.drop off).take n)

end Sys2Proof.Machine
end

