-- ==== Sys2Proof/Config.lean ====
section
/-! DEFINITION. What the manual leaves to each terminal or to a standard it only names: constants without a body, so that
nothing can be proved about their values. -/
namespace Sys2Proof

/-- The instruction-memory word whose parity bit goes wrong at a tick, by the accumulator before it: the unit (an engine, or 128 + the port of a
gate sequencer) and the word; none at a tick where none does (R49). (log 15, DESIGN CHOICE) -/
opaque Config.upset : Nat → Option (Nat × Nat)

/-- The n-th value drawn from the entropy source (R185, R403, R475) or left open by the manual. (log 29, DESIGN CHOICE) -/
opaque Config.draw : Nat → Quad

/-- The calibrated nominal increment of the timebase, read from one-time memory at stage 2 (R113, R263). (log 79, DESIGN CHOICE) -/
opaque Config.incrNom : BitVec 48

/-- The nominal increment of the default coefficients, in use where the calibration check has failed (R118). (log 79, DESIGN CHOICE) -/
opaque Config.incrDefault : BitVec 48

/-- The next domain of stage 3 gets its power at a tick, by the accumulator before it (R113). (log 110, DESIGN CHOICE) -/
opaque Config.powersUp : Nat → Bool

/-- What the oven's sensor (bits 15 to 0) and heater (bits 23 to 16) show from a tick on, by the accumulator before it; none where they show
what they did (R260, R289). (log 41, DESIGN CHOICE) -/
opaque Config.oven : Nat → Option (BitVec 24)

/-- The level of the BOOT_HOLD contact at the n-th draw, sampled at a cold or a warm reset (R113, R121). (log 48, DESIGN CHOICE) -/
opaque Config.bootHold : Nat → Bool

/-- The level of CLK10_OUT within the last period before it realigns, where one half-period of 25 ns to 75 ns cannot do it (R284). (log 92, DESIGN CHOICE) -/
opaque Config.clk10 : Nat → Bool

/-- The wake time of a client transmit direction at a rate code, in 10 ns units (R339); the PCS standard sets it. (log 79, DESIGN CHOICE) -/
opaque Config.txWake : Nat → BitVec 12

/-- AES encryption of a 16-byte block under a key (FIPS 197, as R482 uses it). (log 30, DESIGN CHOICE) -/
opaque Config.aes : List Byte → List Byte → List Byte

/-- GCM sealing: key, 12-byte IV, associated data, plaintext; the ciphertext of the same length and the 16-byte ICV (R469). (log 30, DESIGN CHOICE) -/
opaque Config.gcmSeal : List Byte → List Byte → List Byte → List Byte → List Byte × List Byte

/-- GCM opening: key, IV, associated data, ciphertext, ICV; the plaintext and whether the ICV is right. (log 30, DESIGN CHOICE) -/
opaque Config.gcmOpen : List Byte → List Byte → List Byte → List Byte → List Byte → List Byte × Bool

/-- AES key unwrap with padding of RFC 5649: key and wrapped bytes (R485, R486). (log 30, DESIGN CHOICE) -/
opaque Config.unwrap5649 : List Byte → List Byte → Option (List Byte)

/-- The broadcast key that G.9804.2 carries encrypted under the KEK of an MSK: MSK and bytes, or none where its check fails. (log 30, DESIGN CHOICE) -/
opaque Config.ponUnwrap : List Byte → List Byte → Option (List Byte)

/-- Key_Report of G.9804.2: MSK (none: the default key) and new key; the 16 encrypted bytes and the 16-byte key name (R475). (log 30, DESIGN CHOICE) -/
opaque Config.ponKeyReport : Option (List Byte) → List Byte → List Byte × List Byte

/-- The association number a transmit context's frames carry; the manual gives it no register (R469, R470). (log 33, DESIGN CHOICE) -/
opaque Config.txAn : Nat → Nat → BitVec 2

/-- The cause code of CipherLaneQuarantined for mismatches and for KAT; the manual gives no numbers (R492). (log 33, DESIGN CHOICE) -/
opaque Config.quarantineCause : Bool → BitVec 8

/-- The frame kind code of CipherMismatch; the manual gives no numbers (R492). (log 33, DESIGN CHOICE) -/
opaque Config.frameKind : Nat → BitVec 16

/-- The cause code of MacFrameStomped for the causes of R373 in their order; the manual gives no numbers (R378). (log 33, DESIGN CHOICE) -/
opaque Config.stompCause : Nat → BitVec 8

/-- The keystream of G.9804.2 applied to payload bytes: key, superframe counter, place in the frame, bytes (R474). (log 30, DESIGN CHOICE) -/
opaque Config.ponCrypt : List Byte → Nat → Nat → List Byte → List Byte

/-- The MIC of a downstream PLOAM message is right under the integrity key of G.9804.2; none: the default key (R189, R474). (log 30, DESIGN CHOICE) -/
opaque Config.ploamMic : Option (List Byte) → List Byte → Bool

/-- The MIC of a downstream OMCI message is right under the OMCI integrity key of G.9804.2; none: the default key (R474). (log 30, DESIGN CHOICE) -/
opaque Config.omciMic : Option (List Byte) → List Byte → Bool

/-- A PLOAM message type of G.9804.2 that the table of R188 lists. (log 59, DEDUCED) -/
opaque Config.ploamListed : Byte → Bool

/-- G.9804.2 requires an Acknowledgement of an unlisted type (R190). (log 59, DEDUCED) -/
opaque Config.ploamWantsAck : Byte → Bool

/-- The completion code of G.9804.2 for: 0 success, 1 an unknown message type, 2 a parameter error, 3 that no message waits (R188, R190).
(log 59, DEDUCED) -/
opaque Config.ackCode : Nat → Nat

/-- The completion code that G.9804.2 has acknowledged for a message that was acted on, none where it asks for no Acknowledgement: the message
(0 Burst_Profile, 2 Ranging_Time, 6 Assign_Alloc-ID, 8 Sleep_Allow) and what became of it (0 done, 1 not supported) (R188, R190). (log 59, DEDUCED) -/
opaque Config.ackDone : Nat → Nat → Option Nat

/-- The type of an upstream PLOAM message: 0 Serial_Number_ONU, 1 Registration, 2 Acknowledgement, 3 Key_Report, 4 Sleep_Request (R188). (log 59, DEDUCED) -/
opaque Config.upType : Nat → Byte

/-- The sequence number of the n-th upstream PLOAM message. (log 59, DEDUCED) -/
opaque Config.upSeq : Nat → Byte

/-- The content of an upstream message that this specification leaves to G.9804.2, from its numbers; of Serial_Number_ONU, what follows the
serial (R182). (log 59, DEDUCED) -/
opaque Config.upContent : Nat → List Nat → List Byte

/-- The 8-byte MIC of an upstream PLOAM message under the integrity key of G.9804.2; none: the default key (R189). (log 30, DESIGN CHOICE) -/
opaque Config.upMic : Option (List Byte) → List Byte → List Byte

/-- The response time of G.9804.2 for a pair of downstream channel and UC, with its calibration, or without it where its check failed (R118), in 1/256 ns (R197). (log 64, DESIGN CHOICE) -/
opaque Config.responseTime : Bool → Nat → Nat → Nat

/-- The random delay of a discovery response, from the entropy source, as G.9804.2 bounds it (R183). (log 64, DESIGN CHOICE) -/
opaque Config.discoveryDelay : Nat → Word

/-- How many bits a checker of a pattern code of R341 seeds itself with: the pattern's own length. (log 30, DESIGN CHOICE) -/
opaque Config.patternSeed : Nat → Nat

/-- The bit of the pattern of a code of R341 that follows those before it, newest first; the manual names the patterns only. (log 30, DESIGN CHOICE) -/
opaque Config.patternNext : Nat → List Bool → Bool

/-- What stands in place of a keystream block's bytes that the compare did not release, in a burst that keeps its length: fresh bytes each time
(R234, R465). (log 131, DEDUCED) -/
opaque Config.unreleased : Nat → List Byte

/-- The unit of the occupancy in a report, in bytes (R245, G.9804.2). (log 64, DESIGN CHOICE) -/
opaque Config.dbruUnit : Nat

/-- The largest occupancy that a report carries (R245, G.9804.2). (log 64, DESIGN CHOICE) -/
opaque Config.dbruMax : Nat

/-- The bytes on the line of the first bytes of a grant, with the parity that upstream FEC has put among them (R234, G.9804.2).
(log 64, DESIGN CHOICE) -/
opaque Config.upParity : Nat → Nat

/-- The code of a condition of R227 in UpstreamChannelDown, of a trigger of R250 in GrantLossHoldStart, of a reason of R230 in
UpstreamGrantNotServed and of a feature of R194; the manual gives no numbers. (log 34, DESIGN CHOICE) -/
opaque Config.recordCode : Nat → Nat → Nat

/-- The wavelength of a burst transmitter, in 10⁻⁴ nm (R206): calibrated, or `bad`: of the default coefficients (R118). (log 79, DESIGN CHOICE) -/
opaque Config.ucLambda : (bad : Bool) → Nat → Nat

/-- The holdover model's seed, coefficients 2 to 4 (R311): calibrated, or `bad`: of the default coefficients (R118). (log 79, DESIGN CHOICE) -/
opaque Config.holdoverSeed : (bad : Bool) → Nat → Quad

/-- The first covariance matrix P of the holdover model, row by row, in 10⁻¹² (R311). (log 99, DESIGN CHOICE) -/
opaque Config.holdoverP : Nat → Int

/-- The MAC address of a client port, with which the boundary clock sends and is addressed (R306). (log 102, DESIGN CHOICE) -/
opaque Config.portMac : Nat → BitVec 48

/-- offsetScaledLogVariance announced with a clockClass (R309). (log 102, DESIGN CHOICE) -/
opaque Config.clockVariance : Nat → BitVec 16

/-- The site's configuration of the grant-loss hold: TM_HOLD_CTRL and TM_HOLD_DRAIN, where it has one (R256). (log 103, DESIGN CHOICE) -/
opaque Config.siteHold : Option (Word × Word)

/-- At a tick, by the accumulator before it, the site's policy abandons the holds (R256). (log 134, DESIGN CHOICE) -/
opaque Config.siteAbandons : Nat → Bool

/-- At a tick, by the accumulator before it, role 7 takes an entry of the OMCI receive ring (R218). (log 134, DESIGN CHOICE) -/
opaque Config.omciTakes : Nat → Bool

/-- The allocations of the switch that an OMCI message announces, if it does (R256). (log 134, DESIGN CHOICE) -/
opaque Config.omciSwitch : List (BitVec 8) → List Nat

/-- The frame that role 7 sends on the upstream OMCI channel for a message that reaches it, where it does (R224). (log 134, DESIGN CHOICE) -/
opaque Config.omciFrame : List (BitVec 64) → Option (List (BitVec 8))

/-- The monitor photodiode of UCm reads dark, at the n-th look (R215). (log 41, DESIGN CHOICE) -/
opaque Config.monitorDark : Nat → Nat → Bool

/-- What a measured quantity shows, by the key of its register and the number of its update: optical powers and the case temperature. (log 41, DESIGN CHOICE) -/
opaque Config.measured : Nat → Nat → Quad

end Sys2Proof
end

