-- ==== Sys2Proof/Machine/RegMap.lean ====
section
/-! DEFINITION. The control registers of the BN7144-E: one constructor for each register the manual names, its
place in the control tree (R6, R20, R22), its width, and its fields with their access codes (R10) and reset values.
The table is written out from the register tables of spec/, file by file; the rule that owns each table stands above its rows.
Registers the manual gives no name (the general-register window, the MSI-X table) carry a name of the model's. -/
namespace Sys2Proof.Machine

/-- The access codes of R10. -/
inductive Access where
  | rw | ro | rc | w1c | wo | rs | lk
deriving DecidableEq, Repr

/-- One field of a register: position, length, access code and reset value. -/
structure Field where
  lo : Nat
  len : Nat
  acc : Access
  rst : Nat
deriving DecidableEq, Repr

/-- The kinds of instance a register is repeated over (R20, R22, R72 and the base lines of the register sections). -/
inductive Space where
  | flat | engine | context | ctxWindow | port | gatePort | portGroup | dsGroup | dsChannel | usChannel | allocation | pipeline | ternarySet | requester | queue | latencyRing | captureRing | cxPort | cxLane | secContext | powerDomain
deriving DecidableEq, Repr

/-- Where a register lies: its space, its offset from an instance's base, the stride and number of its elements, and
whether it is 64 bits wide (R7). -/
structure Place where
  space : Space
  off : Nat
  stride : Nat
  count : Nat
  wide : Bool
deriving DecidableEq, Repr

/-- Every control register of the manual. -/
inductive Reg where
  | PR_ENG_CTRL
  | PR_ENG_STATUS
  | PR_ENG_TRAPDROP
  | PR_ENG_ECC
  | PR_MEM_ADDR
  | PR_MEM_DATA
  | PR_CTX_STATE
  | PR_CTX_PC
  | PR_CTX_TRAPVEC
  | PR_CTX_TRAP
  | PR_CTX_TVAL
  | PR_CTX_STEPS
  | PR_CTX_ROLE
  | PR_ENG_PROGDROP
  | PR_ENG_BOUNCE
  | PR_HMSG_CTRL
  | PR_HMSG_STATUS
  | PR_HMSG_DEST
  | PR_HMSG_BODY
  | PR_CTX_MBX
  | PR_CTX_AUTH
  | PR_CTX_GREG
  | KT_BOOT_STATUS
  | KT_BOOT_CTRL
  | KT_RESET
  | KT_RESET_CAUSE
  | KT_WDOG
  | PR_LOAD_SRC
  | PR_LOAD_CTRL
  | PR_LOAD_STATUS
  | PR_STM_ADDR
  | PR_STM_DATA
  | KT_SITE_VENDOR
  | KT_SITE_SERIAL
  | KT_SITE_CTRL
  | OP_DS_STATUS
  | OP_DS_POWER
  | OP_DS_LOS
  | TC_DS_MODE
  | TC_DS_REORDER
  | TC_SLEEP_CTRL
  | TC_SLEEP_PARAM
  | TC_SLEEP_STATUS
  | TC_DS_GRP_CTRL
  | TC_DS_GRP_EXPECT
  | TC_DS_GRP_HELD
  | TC_DS_GRP_SKIPTO
  | TC_DS_GRP_SKIPPASS
  | TC_DS_GRP_LATE
  | TC_DS_GRP_OVF
  | TC_DS_GRP_HDRERR
  | TC_DS_PORTID
  | TC_DSC_STATUS
  | TC_DSC_SFC
  | TC_DSC_CW
  | TC_DSC_CORR
  | TC_DSC_UNCORR
  | TC_DSC_HEC
  | TC_DSC_DROP
  | TC_DSC_CORR1S
  | TC_DSC_SDTHR
  | TC_DSC_SFTHR
  | TC_DSC_OVF
  | TC_DSC_SNAPREQ
  | TC_DSC_SNAPSTAT
  | TC_DSC_SNAPTS
  | TC_DSC_FCSERR
  | TC_DSC_FRLOST
  | TC_ACT_STATUS
  | TC_ACT_CTRL
  | TC_ACT_TIMERS
  | TC_DISC
  | TC_PLOAM_TARGET
  | TC_PLOAM_CNT
  | TC_VPLOAM_CTRL
  | TC_RNG_EQD
  | TC_OMCI_RXRING
  | TC_OMCI_RXPTR
  | TC_RNG_TEQD
  | TC_ACT_REGID
  | TC_PAIR_RT
  | KT_ESTOP
  | OP_WD_CTRL
  | OP_WD_STATUS
  | TT_ASYM_CTRL
  | TT_ASYM_MODEL
  | TT_ASYM_STAT
  | TT_ASYM_FIT
  | TT_ASYM_DS
  | TT_ASYM_US
  | TM_ALLOC_MAP
  | TM_ALLOC_Q
  | TM_ALLOC_HOLD
  | TM_ALLOC_HELD
  | TM_ALLOC_LASTGRANT
  | TM_HOLD_CTRL
  | TM_HOLD_BUDGET
  | TM_HOLD_USED
  | TM_HOLD_DRAIN
  | TM_HOLD_DROP
  | TM_HOLD_EXPIRED
  | TM_HOLD_FORCE
  | TM_PRED_CFG
  | TM_PRED_VAL
  | TC_US_MODE
  | TC_USC_PROF
  | TC_USC_BURSTS
  | TC_USC_BYTES
  | TC_USC_LATE
  | TC_USC_HEC
  | TC_USC_IDLE
  | TC_USC_CUT
  | TC_USC_DROP
  | TB_NS
  | TB_FRAC
  | TB_WRAP
  | TB_INCR
  | TB_INCR_NOM
  | TB_STEP
  | TB_STEP_LAST
  | TB_STATUS
  | TB_CTRL
  | TB_PPSOUT_NEXT
  | TB_PPSOUT_LAST
  | TB_PPSOUT_CTRL
  | TB_PPSOUT_COMP
  | TB_PPSIN_COMP
  | TB_CLK10_CTRL
  | TB_PPSIN_STAT
  | TB_TODIN_STAT
  | TB_PPSIN_TS
  | TB_TODIN_PPS
  | TB_TODOUT_CTRL
  | TB_TODOUT_BUF
  | TB_TODIN_BUF
  | TB_IO_CNT
  | KT_OVEN_STATUS
  | MC_TS_CTRL
  | MC_TS_ADJ
  | MC_TS_CNT
  | TT_SERVO_CTRL
  | TT_SERVO_STATUS
  | TT_SERVO_CFG
  | TT_SERVO_THR
  | TT_SERVO_PHASE
  | TT_SERVO_TEEST
  | TT_SERVO_FREQ
  | TT_SERVO_BASE
  | TT_SERVO_UTC
  | TT_SERVO_XDIFF
  | TT_TOD_SFC
  | TT_TOD_SEC
  | TT_TOD_NSEC
  | TT_TOD_INFO
  | TT_TOD_GMID
  | TT_TOD_STAT
  | TT_HO_STATUS
  | TT_HO_LAST
  | TT_HO_CFG
  | TT_HO_CTRL
  | TT_HO_COEF
  | TT_BC_ID
  | TT_BC_CTRL
  | TT_BC_CNT
  | TT_BC_PORT
  | KT_OVEN_CASE
  | LN_CTRL
  | LN_STATUS
  | LN_NEG_TIMER
  | LN_NEG_PARTNER
  | LN_LPI
  | LN_OPT
  | LN_PRBS_CTRL
  | LN_PRBS_STAT
  | LN_PRBS_ERR
  | LN_PRBS_BITS
  | LN_BOL_CNT
  | LN_BUDGET
  | LN_GRP_SUM
  | LN_REF
  | LN_BUDGET_REFUSED
  | MC_RX_FRAMES
  | MC_RX_OCTETS
  | MC_RX_FCSERR
  | MC_RX_RUNT
  | MC_RX_OVERSIZE
  | MC_RX_MACCTL
  | MC_RX_FRAGS
  | MC_RX_ASSYERR
  | MC_RX_SMDERR
  | MC_RX_BOUNDARY
  | MC_RX_CUTERR
  | MC_TX_FRAMES
  | MC_TX_OCTETS
  | MC_TX_PREEMPTS
  | MC_TX_STOMP_POISON
  | MC_TX_STOMP_UNDERRUN
  | MC_TX_STOMP_INGRESS
  | MC_TX_STOMP_TRUNC
  | MC_TX_GATEOVERSIZE
  | MC_TX_GATEOVERRUN
  | MC_CFG
  | MC_PREEMPT
  | MC_PREEMPT_STATUS
  | MC_CSUM_CTRL
  | MC_ROLE
  | MC_CSUM_CNT
  | GT_CTRL
  | GT_STATUS
  | GT_GATES
  | GT_CNT
  | GT_LOAD_SRC
  | GT_LOAD_CTRL
  | GT_LOAD_STATUS
  | SV_CTRL
  | SV_RS_CTRL
  | SV_RS_STATUS
  | SV_WHISK_SEED
  | SV_RS_PIN
  | SV_CNT_PASS1
  | SV_CNT_PASS2
  | SV_CNT_EXACT
  | SV_CNT_TERN
  | SV_CNT_DEFAULT
  | SV_DROP_RULE
  | SV_DROP_HAIRPIN
  | SV_DROP_PLANE
  | SV_DROP_ACTION
  | SV_DROP_PASS2
  | SV_ACT_INDEX
  | SV_ACT_WORD
  | SV_FS_INDEX
  | SV_FS_BYTES
  | SV_FS_PKTS
  | SV_PORT_CFG
  | SV_PIPE_PKTS
  | SV_EM_INDEX
  | SV_EM_COUNT
  | SV_EM_WORD
  | SV_TR_INDEX
  | SV_TR_WORD
  | SV_BB_CTRL
  | SV_BB_CNT
  | SV_BB_FRAGS
  | LD_PART_PS
  | LD_PART_RO
  | LD_PART_PD
  | LD_PART_LS
  | LD_PART_CAP
  | LD_POOL_REGION
  | LD_POOL_FREE
  | LD_POOL_LOW
  | LD_REQ_RSV
  | LD_REQ_CAP
  | LD_REQ_USED
  | LD_REQ_CNT
  | LD_REQ_UPSIZE
  | LD_REQ_CFG
  | LD_QREQ
  | LD_LEDGER_ERR
  | LD_LOOK
  | LD_LOOK_STAT
  | LD_LOOK_ENTRY
  | LD_XF_CTRL
  | LD_XF_STAT
  | LD_XF_QMAX
  | LD_XF_CUT
  | LD_XF_ERR
  | TM_Q_CFG
  | TM_Q_LIMIT
  | TM_Q_DEPTH
  | TM_Q_DROP
  | TM_SHP_SEL
  | TM_SHP_RATE
  | TM_POL_RATE
  | TM_SHP_BURST
  | TM_POL_BURST
  | TM_SHP_CTRL
  | TM_POL_CTRL
  | TM_SHP_CREDIT
  | TM_SHP_STAT
  | TM_POL_SEL
  | TM_POL_PASS
  | TM_POL_DROP
  | TM_LOAD_FCST
  | TM_LOAD_CFG
  | TM_HWM_SEL
  | TM_HWM_DEPTH
  | TM_HWM_DELAY
  | TM_HWM_LAST
  | TM_LR_BASE
  | TM_CR_BASE
  | TM_LR_WR
  | TM_CR_WR
  | TM_LR_RD
  | TM_CR_RD
  | TM_LR_MISS
  | TM_CR_DROP
  | CX_CAP
  | CX_PORT_CFG
  | CX_PORT_TXSC
  | CX_PORT_RXSA
  | CX_PORT_WINDOW
  | CX_PORT_DROP
  | CX_PON_KEY
  | CX_PON_GEN
  | CX_PON_GENSTAT
  | CX_PON_GENOUT
  | CX_PON_CNT
  | CX_LANE_STAT
  | CX_LANE_CTRL
  | CX_LANE_BYTES
  | CX_SC_CFG
  | CX_SC_SSCI
  | CX_SC_SCI
  | CX_SC_PN
  | CX_SC_THR
  | CX_SC_KCV
  | CX_SC_PKTS
  | CX_SC_ERR
  | CX_ROOT_KEY
  | CX_ROOT_CTRL
  | CX_ROOT_STAT
  | CX_ROOT_KCV
  | CX_KEK_STAT
  | CX_KEK_CLEAR
  | CX_UNW_RES
  | CX_UNW_KCV
  | CX_BLOB_W
  | CX_BLOB_GO
  | CX_BLOB_SEQ
  | PW_STATUS
  | PW_CTRL
  | PW_CFG
  | PW_ASLEEP
  | PW_PICK_DEST
  | PW_VOTE_HOST
  | PW_VOTE_SER
  | PW_TK_LOST
  | PW_DOM_STATUS
  | PW_DOM_VOTES
  | PW_DOM_TARGET
  | PW_DOM_WAKE
  | PW_DOM_NEXT
  | PW_NEED
  | PW_BATT_CTRL
  | PW_BATT_THR
  | PW_BATT_STATUS
  | KT_SAVE_ADDR
  | KT_SAVE_DATA
  | PW_GOV_STATUS
  | PW_GOV_CFG
  | PW_GOV_TJ
  | MG_PCIE_STATUS
  | MG_BAR2_WIN
  | MG_HOST_CNT
  | MG_RING_BASE
  | MG_RING_CTRL
  | MG_RING_WR
  | MG_RING_RD
  | MG_RING_LOST
  | MG_EVT_CFG
  | MG_VEC_MOD
  | MG_MSIX_ADDR
  | MG_MSIX_DATA
  | MG_MSIX_CTRL
  | MG_MSIX_PBA
  | MG_DELEG
  | MG_AUTH_CNT
  | MG_PROXY_ADDR
  | MG_PROXY_DATA
  | MG_PROXY_CTRL
  | MG_PROXY_STAT
  | MG_SER_STATUS
  | MG_SER_CNT
  | MG_LATCH_STAT
  | MG_LATCH_CTRL
  | MG_LATCH_HEAD
  | PW_THERM
deriving DecidableEq, Repr

/-- Every register, in the order of the constructors of `Reg`. -/
def Reg.all : List Reg :=
  [.PR_ENG_CTRL, .PR_ENG_STATUS, .PR_ENG_TRAPDROP, .PR_ENG_ECC, .PR_MEM_ADDR, .PR_MEM_DATA, .PR_CTX_STATE, .PR_CTX_PC, .PR_CTX_TRAPVEC, .PR_CTX_TRAP, .PR_CTX_TVAL, .PR_CTX_STEPS, .PR_CTX_ROLE, .PR_ENG_PROGDROP, .PR_ENG_BOUNCE, .PR_HMSG_CTRL, .PR_HMSG_STATUS, .PR_HMSG_DEST, .PR_HMSG_BODY, .PR_CTX_MBX, .PR_CTX_AUTH, .PR_CTX_GREG, .KT_BOOT_STATUS, .KT_BOOT_CTRL, .KT_RESET, .KT_RESET_CAUSE, .KT_WDOG, .PR_LOAD_SRC, .PR_LOAD_CTRL, .PR_LOAD_STATUS, .PR_STM_ADDR, .PR_STM_DATA, .KT_SITE_VENDOR, .KT_SITE_SERIAL, .KT_SITE_CTRL, .OP_DS_STATUS, .OP_DS_POWER, .OP_DS_LOS, .TC_DS_MODE, .TC_DS_REORDER] ++
  [.TC_SLEEP_CTRL, .TC_SLEEP_PARAM, .TC_SLEEP_STATUS, .TC_DS_GRP_CTRL, .TC_DS_GRP_EXPECT, .TC_DS_GRP_HELD, .TC_DS_GRP_SKIPTO, .TC_DS_GRP_SKIPPASS, .TC_DS_GRP_LATE, .TC_DS_GRP_OVF, .TC_DS_GRP_HDRERR, .TC_DS_PORTID, .TC_DSC_STATUS, .TC_DSC_SFC, .TC_DSC_CW, .TC_DSC_CORR, .TC_DSC_UNCORR, .TC_DSC_HEC, .TC_DSC_DROP, .TC_DSC_CORR1S, .TC_DSC_SDTHR, .TC_DSC_SFTHR, .TC_DSC_OVF, .TC_DSC_SNAPREQ, .TC_DSC_SNAPSTAT, .TC_DSC_SNAPTS, .TC_DSC_FCSERR, .TC_DSC_FRLOST, .TC_ACT_STATUS, .TC_ACT_CTRL, .TC_ACT_TIMERS, .TC_DISC, .TC_PLOAM_TARGET, .TC_PLOAM_CNT, .TC_VPLOAM_CTRL, .TC_RNG_EQD, .TC_OMCI_RXRING, .TC_OMCI_RXPTR, .TC_RNG_TEQD, .TC_ACT_REGID] ++
  [.TC_PAIR_RT, .KT_ESTOP, .OP_WD_CTRL, .OP_WD_STATUS, .TT_ASYM_CTRL, .TT_ASYM_MODEL, .TT_ASYM_STAT, .TT_ASYM_FIT, .TT_ASYM_DS, .TT_ASYM_US, .TM_ALLOC_MAP, .TM_ALLOC_Q, .TM_ALLOC_HOLD, .TM_ALLOC_HELD, .TM_ALLOC_LASTGRANT, .TM_HOLD_CTRL, .TM_HOLD_BUDGET, .TM_HOLD_USED, .TM_HOLD_DRAIN, .TM_HOLD_DROP, .TM_HOLD_EXPIRED, .TM_HOLD_FORCE, .TM_PRED_CFG, .TM_PRED_VAL, .TC_US_MODE, .TC_USC_PROF, .TC_USC_BURSTS, .TC_USC_BYTES, .TC_USC_LATE, .TC_USC_HEC, .TC_USC_IDLE, .TC_USC_CUT, .TC_USC_DROP, .TB_NS, .TB_FRAC, .TB_WRAP, .TB_INCR, .TB_INCR_NOM, .TB_STEP, .TB_STEP_LAST] ++
  [.TB_STATUS, .TB_CTRL, .TB_PPSOUT_NEXT, .TB_PPSOUT_LAST, .TB_PPSOUT_CTRL, .TB_PPSOUT_COMP, .TB_PPSIN_COMP, .TB_CLK10_CTRL, .TB_PPSIN_STAT, .TB_TODIN_STAT, .TB_PPSIN_TS, .TB_TODIN_PPS, .TB_TODOUT_CTRL, .TB_TODOUT_BUF, .TB_TODIN_BUF, .TB_IO_CNT, .KT_OVEN_STATUS, .MC_TS_CTRL, .MC_TS_ADJ, .MC_TS_CNT, .TT_SERVO_CTRL, .TT_SERVO_STATUS, .TT_SERVO_CFG, .TT_SERVO_THR, .TT_SERVO_PHASE, .TT_SERVO_TEEST, .TT_SERVO_FREQ, .TT_SERVO_BASE, .TT_SERVO_UTC, .TT_SERVO_XDIFF, .TT_TOD_SFC, .TT_TOD_SEC, .TT_TOD_NSEC, .TT_TOD_INFO, .TT_TOD_GMID, .TT_TOD_STAT, .TT_HO_STATUS, .TT_HO_LAST, .TT_HO_CFG, .TT_HO_CTRL] ++
  [.TT_HO_COEF, .TT_BC_ID, .TT_BC_CTRL, .TT_BC_CNT, .TT_BC_PORT, .KT_OVEN_CASE, .LN_CTRL, .LN_STATUS, .LN_NEG_TIMER, .LN_NEG_PARTNER, .LN_LPI, .LN_OPT, .LN_PRBS_CTRL, .LN_PRBS_STAT, .LN_PRBS_ERR, .LN_PRBS_BITS, .LN_BOL_CNT, .LN_BUDGET, .LN_GRP_SUM, .LN_REF, .LN_BUDGET_REFUSED, .MC_RX_FRAMES, .MC_RX_OCTETS, .MC_RX_FCSERR, .MC_RX_RUNT, .MC_RX_OVERSIZE, .MC_RX_MACCTL, .MC_RX_FRAGS, .MC_RX_ASSYERR, .MC_RX_SMDERR, .MC_RX_BOUNDARY, .MC_RX_CUTERR, .MC_TX_FRAMES, .MC_TX_OCTETS, .MC_TX_PREEMPTS, .MC_TX_STOMP_POISON, .MC_TX_STOMP_UNDERRUN, .MC_TX_STOMP_INGRESS, .MC_TX_STOMP_TRUNC, .MC_TX_GATEOVERSIZE] ++
  [.MC_TX_GATEOVERRUN, .MC_CFG, .MC_PREEMPT, .MC_PREEMPT_STATUS, .MC_CSUM_CTRL, .MC_ROLE, .MC_CSUM_CNT, .GT_CTRL, .GT_STATUS, .GT_GATES, .GT_CNT, .GT_LOAD_SRC, .GT_LOAD_CTRL, .GT_LOAD_STATUS, .SV_CTRL, .SV_RS_CTRL, .SV_RS_STATUS, .SV_WHISK_SEED, .SV_RS_PIN, .SV_CNT_PASS1, .SV_CNT_PASS2, .SV_CNT_EXACT, .SV_CNT_TERN, .SV_CNT_DEFAULT, .SV_DROP_RULE, .SV_DROP_HAIRPIN, .SV_DROP_PLANE, .SV_DROP_ACTION, .SV_DROP_PASS2, .SV_ACT_INDEX, .SV_ACT_WORD, .SV_FS_INDEX, .SV_FS_BYTES, .SV_FS_PKTS, .SV_PORT_CFG, .SV_PIPE_PKTS, .SV_EM_INDEX, .SV_EM_COUNT, .SV_EM_WORD, .SV_TR_INDEX] ++
  [.SV_TR_WORD, .SV_BB_CTRL, .SV_BB_CNT, .SV_BB_FRAGS, .LD_PART_PS, .LD_PART_RO, .LD_PART_PD, .LD_PART_LS, .LD_PART_CAP, .LD_POOL_REGION, .LD_POOL_FREE, .LD_POOL_LOW, .LD_REQ_RSV, .LD_REQ_CAP, .LD_REQ_USED, .LD_REQ_CNT, .LD_REQ_UPSIZE, .LD_REQ_CFG, .LD_QREQ, .LD_LEDGER_ERR, .LD_LOOK, .LD_LOOK_STAT, .LD_LOOK_ENTRY, .LD_XF_CTRL, .LD_XF_STAT, .LD_XF_QMAX, .LD_XF_CUT, .LD_XF_ERR, .TM_Q_CFG, .TM_Q_LIMIT, .TM_Q_DEPTH, .TM_Q_DROP, .TM_SHP_SEL, .TM_SHP_RATE, .TM_POL_RATE, .TM_SHP_BURST, .TM_POL_BURST, .TM_SHP_CTRL, .TM_POL_CTRL, .TM_SHP_CREDIT] ++
  [.TM_SHP_STAT, .TM_POL_SEL, .TM_POL_PASS, .TM_POL_DROP, .TM_LOAD_FCST, .TM_LOAD_CFG, .TM_HWM_SEL, .TM_HWM_DEPTH, .TM_HWM_DELAY, .TM_HWM_LAST, .TM_LR_BASE, .TM_CR_BASE, .TM_LR_WR, .TM_CR_WR, .TM_LR_RD, .TM_CR_RD, .TM_LR_MISS, .TM_CR_DROP, .CX_CAP, .CX_PORT_CFG, .CX_PORT_TXSC, .CX_PORT_RXSA, .CX_PORT_WINDOW, .CX_PORT_DROP, .CX_PON_KEY, .CX_PON_GEN, .CX_PON_GENSTAT, .CX_PON_GENOUT, .CX_PON_CNT, .CX_LANE_STAT, .CX_LANE_CTRL, .CX_LANE_BYTES, .CX_SC_CFG, .CX_SC_SSCI, .CX_SC_SCI, .CX_SC_PN, .CX_SC_THR, .CX_SC_KCV, .CX_SC_PKTS, .CX_SC_ERR] ++
  [.CX_ROOT_KEY, .CX_ROOT_CTRL, .CX_ROOT_STAT, .CX_ROOT_KCV, .CX_KEK_STAT, .CX_KEK_CLEAR, .CX_UNW_RES, .CX_UNW_KCV, .CX_BLOB_W, .CX_BLOB_GO, .CX_BLOB_SEQ, .PW_STATUS, .PW_CTRL, .PW_CFG, .PW_ASLEEP, .PW_PICK_DEST, .PW_VOTE_HOST, .PW_VOTE_SER, .PW_TK_LOST, .PW_DOM_STATUS, .PW_DOM_VOTES, .PW_DOM_TARGET, .PW_DOM_WAKE, .PW_DOM_NEXT, .PW_NEED, .PW_BATT_CTRL, .PW_BATT_THR, .PW_BATT_STATUS, .KT_SAVE_ADDR, .KT_SAVE_DATA, .PW_GOV_STATUS, .PW_GOV_CFG, .PW_GOV_TJ, .MG_PCIE_STATUS, .MG_BAR2_WIN, .MG_HOST_CNT, .MG_RING_BASE, .MG_RING_CTRL, .MG_RING_WR, .MG_RING_RD] ++
  [.MG_RING_LOST, .MG_EVT_CFG, .MG_VEC_MOD, .MG_MSIX_ADDR, .MG_MSIX_DATA, .MG_MSIX_CTRL, .MG_MSIX_PBA, .MG_DELEG, .MG_AUTH_CNT, .MG_PROXY_ADDR, .MG_PROXY_DATA, .MG_PROXY_CTRL, .MG_PROXY_STAT, .MG_SER_STATUS, .MG_SER_CNT, .MG_LATCH_STAT, .MG_LATCH_CTRL, .MG_LATCH_HEAD, .PW_THERM]

/-- Address, width and repetition of each register. -/
def Reg.place : Reg → Place
  | .PR_ENG_CTRL => ⟨.engine, 0x0, 0, 1, false⟩
  | .PR_ENG_STATUS => ⟨.engine, 0x4, 0, 1, false⟩
  | .PR_ENG_TRAPDROP => ⟨.engine, 0x8, 0, 1, false⟩
  | .PR_ENG_ECC => ⟨.engine, 0xc, 0, 1, false⟩
  | .PR_MEM_ADDR => ⟨.engine, 0x10, 0, 1, false⟩
  | .PR_MEM_DATA => ⟨.engine, 0x14, 0, 1, false⟩
  | .PR_CTX_STATE => ⟨.context, 0x0, 0, 1, false⟩
  | .PR_CTX_PC => ⟨.context, 0x4, 0, 1, false⟩
  | .PR_CTX_TRAPVEC => ⟨.context, 0x8, 0, 1, false⟩
  | .PR_CTX_TRAP => ⟨.context, 0xc, 0, 1, false⟩
  | .PR_CTX_TVAL => ⟨.context, 0x10, 0, 1, true⟩
  | .PR_CTX_STEPS => ⟨.context, 0x18, 0, 1, true⟩
  | .PR_CTX_ROLE => ⟨.context, 0x20, 0, 1, false⟩
  | .PR_ENG_PROGDROP => ⟨.engine, 0x18, 0, 1, false⟩
  | .PR_ENG_BOUNCE => ⟨.engine, 0x1c, 0, 1, false⟩
  | .PR_HMSG_CTRL => ⟨.engine, 0x20, 0, 1, false⟩
  | .PR_HMSG_STATUS => ⟨.engine, 0x24, 0, 1, false⟩
  | .PR_HMSG_DEST => ⟨.engine, 0x28, 0, 1, true⟩
  | .PR_HMSG_BODY => ⟨.engine, 0x40, 8, 8, true⟩
  | .PR_CTX_MBX => ⟨.context, 0x24, 0, 1, false⟩
  | .PR_CTX_AUTH => ⟨.context, 0x28, 0, 1, false⟩
  | .PR_CTX_GREG => ⟨.ctxWindow, 0x0, 8, 32, true⟩
  | .KT_BOOT_STATUS => ⟨.flat, 0x0, 0, 1, false⟩
  | .KT_BOOT_CTRL => ⟨.flat, 0x4, 0, 1, false⟩
  | .KT_RESET => ⟨.flat, 0x8, 0, 1, false⟩
  | .KT_RESET_CAUSE => ⟨.flat, 0xc, 0, 1, false⟩
  | .KT_WDOG => ⟨.flat, 0x10, 0, 1, false⟩
  | .PR_LOAD_SRC => ⟨.engine, 0x30, 0, 1, true⟩
  | .PR_LOAD_CTRL => ⟨.engine, 0x38, 0, 1, false⟩
  | .PR_LOAD_STATUS => ⟨.engine, 0x3c, 0, 1, false⟩
  | .PR_STM_ADDR => ⟨.flat, 0x1400000, 0, 1, false⟩
  | .PR_STM_DATA => ⟨.flat, 0x1400004, 0, 1, false⟩
  | .KT_SITE_VENDOR => ⟨.flat, 0x20, 0, 1, false⟩
  | .KT_SITE_SERIAL => ⟨.flat, 0x24, 0, 1, false⟩
  | .KT_SITE_CTRL => ⟨.flat, 0x28, 0, 1, false⟩
  | .OP_DS_STATUS => ⟨.flat, 0x9000000, 0, 1, false⟩
  | .OP_DS_POWER => ⟨.flat, 0x9000010, 4, 4, false⟩
  | .OP_DS_LOS => ⟨.flat, 0x9000020, 0, 1, false⟩
  | .TC_DS_MODE => ⟨.flat, 0x9100100, 0, 1, false⟩
  | .TC_DS_REORDER => ⟨.flat, 0x9100104, 0, 1, false⟩
  | .TC_SLEEP_CTRL => ⟨.flat, 0x910010c, 0, 1, false⟩
  | .TC_SLEEP_PARAM => ⟨.flat, 0x9100110, 0, 1, false⟩
  | .TC_SLEEP_STATUS => ⟨.flat, 0x9100114, 0, 1, false⟩
  | .TC_DS_GRP_CTRL => ⟨.dsGroup, 0x0, 0, 1, false⟩
  | .TC_DS_GRP_EXPECT => ⟨.dsGroup, 0x4, 0, 1, false⟩
  | .TC_DS_GRP_HELD => ⟨.dsGroup, 0x8, 0, 1, false⟩
  | .TC_DS_GRP_SKIPTO => ⟨.dsGroup, 0xc, 0, 1, false⟩
  | .TC_DS_GRP_SKIPPASS => ⟨.dsGroup, 0x10, 0, 1, false⟩
  | .TC_DS_GRP_LATE => ⟨.dsGroup, 0x14, 0, 1, false⟩
  | .TC_DS_GRP_OVF => ⟨.dsGroup, 0x18, 0, 1, false⟩
  | .TC_DS_GRP_HDRERR => ⟨.dsGroup, 0x1c, 0, 1, false⟩
  | .TC_DS_PORTID => ⟨.flat, 0x9104000, 4, 1024, false⟩
  | .TC_DSC_STATUS => ⟨.dsChannel, 0x0, 0, 1, false⟩
  | .TC_DSC_SFC => ⟨.dsChannel, 0x8, 0, 1, true⟩
  | .TC_DSC_CW => ⟨.dsChannel, 0x10, 0, 1, true⟩
  | .TC_DSC_CORR => ⟨.dsChannel, 0x18, 0, 1, true⟩
  | .TC_DSC_UNCORR => ⟨.dsChannel, 0x20, 0, 1, true⟩
  | .TC_DSC_HEC => ⟨.dsChannel, 0x28, 0, 1, false⟩
  | .TC_DSC_DROP => ⟨.dsChannel, 0x2c, 0, 1, false⟩
  | .TC_DSC_CORR1S => ⟨.dsChannel, 0x30, 0, 1, false⟩
  | .TC_DSC_SDTHR => ⟨.dsChannel, 0x34, 0, 1, false⟩
  | .TC_DSC_SFTHR => ⟨.dsChannel, 0x38, 0, 1, false⟩
  | .TC_DSC_OVF => ⟨.dsChannel, 0x3c, 0, 1, false⟩
  | .TC_DSC_SNAPREQ => ⟨.dsChannel, 0x40, 0, 1, true⟩
  | .TC_DSC_SNAPSTAT => ⟨.dsChannel, 0x48, 0, 1, false⟩
  | .TC_DSC_SNAPTS => ⟨.dsChannel, 0x50, 0, 1, true⟩
  | .TC_DSC_FCSERR => ⟨.dsChannel, 0x58, 0, 1, false⟩
  | .TC_DSC_FRLOST => ⟨.dsChannel, 0x5c, 0, 1, false⟩
  | .TC_ACT_STATUS => ⟨.flat, 0x9100000, 0, 1, false⟩
  | .TC_ACT_CTRL => ⟨.flat, 0x9100004, 0, 1, false⟩
  | .TC_ACT_TIMERS => ⟨.flat, 0x9100008, 0, 1, false⟩
  | .TC_DISC => ⟨.flat, 0x910000c, 0, 1, false⟩
  | .TC_PLOAM_TARGET => ⟨.flat, 0x9100010, 0, 1, true⟩
  | .TC_PLOAM_CNT => ⟨.flat, 0x9100018, 0, 1, false⟩
  | .TC_VPLOAM_CTRL => ⟨.flat, 0x910001c, 0, 1, false⟩
  | .TC_RNG_EQD => ⟨.flat, 0x9100020, 4, 2, false⟩
  | .TC_OMCI_RXRING => ⟨.flat, 0x9100028, 0, 1, true⟩
  | .TC_OMCI_RXPTR => ⟨.flat, 0x9100030, 0, 1, false⟩
  | .TC_RNG_TEQD => ⟨.flat, 0x9100038, 0, 1, false⟩
  | .TC_ACT_REGID => ⟨.flat, 0x9100040, 4, 9, false⟩
  | .TC_PAIR_RT => ⟨.flat, 0x9100080, 8, 8, true⟩
  | .KT_ESTOP => ⟨.flat, 0x30, 0, 1, false⟩
  | .OP_WD_CTRL => ⟨.flat, 0x9010000, 0, 1, false⟩
  | .OP_WD_STATUS => ⟨.flat, 0x9010004, 0, 1, false⟩
  | .TT_ASYM_CTRL => ⟨.flat, 0x1500400, 0, 1, false⟩
  | .TT_ASYM_MODEL => ⟨.flat, 0x1500404, 0, 1, false⟩
  | .TT_ASYM_STAT => ⟨.flat, 0x1500408, 0, 1, false⟩
  | .TT_ASYM_FIT => ⟨.flat, 0x1500410, 0, 1, true⟩
  | .TT_ASYM_DS => ⟨.flat, 0x1500420, 8, 4, true⟩
  | .TT_ASYM_US => ⟨.flat, 0x1500440, 8, 2, true⟩
  | .TM_ALLOC_MAP => ⟨.allocation, 0x0, 0, 1, false⟩
  | .TM_ALLOC_Q => ⟨.allocation, 0x4, 4, 4, false⟩
  | .TM_ALLOC_HOLD => ⟨.allocation, 0x14, 0, 1, false⟩
  | .TM_ALLOC_HELD => ⟨.allocation, 0x18, 0, 1, false⟩
  | .TM_ALLOC_LASTGRANT => ⟨.allocation, 0x1c, 0, 1, false⟩
  | .TM_HOLD_CTRL => ⟨.flat, 0x5144000, 0, 1, false⟩
  | .TM_HOLD_BUDGET => ⟨.flat, 0x5144008, 0, 1, true⟩
  | .TM_HOLD_USED => ⟨.flat, 0x5144010, 0, 1, true⟩
  | .TM_HOLD_DRAIN => ⟨.flat, 0x5144018, 0, 1, false⟩
  | .TM_HOLD_DROP => ⟨.flat, 0x5144020, 0, 1, true⟩
  | .TM_HOLD_EXPIRED => ⟨.flat, 0x5144028, 0, 1, true⟩
  | .TM_HOLD_FORCE => ⟨.flat, 0x5144030, 0, 1, false⟩
  | .TM_PRED_CFG => ⟨.flat, 0x5145000, 8, 512, false⟩
  | .TM_PRED_VAL => ⟨.flat, 0x5145004, 8, 512, false⟩
  | .TC_US_MODE => ⟨.flat, 0x9100108, 0, 1, false⟩
  | .TC_USC_PROF => ⟨.usChannel, 0x0, 4, 4, false⟩
  | .TC_USC_BURSTS => ⟨.usChannel, 0x10, 0, 1, true⟩
  | .TC_USC_BYTES => ⟨.usChannel, 0x18, 0, 1, true⟩
  | .TC_USC_LATE => ⟨.usChannel, 0x20, 0, 1, false⟩
  | .TC_USC_HEC => ⟨.usChannel, 0x24, 0, 1, false⟩
  | .TC_USC_IDLE => ⟨.usChannel, 0x28, 0, 1, true⟩
  | .TC_USC_CUT => ⟨.usChannel, 0x30, 0, 1, false⟩
  | .TC_USC_DROP => ⟨.usChannel, 0x34, 0, 1, false⟩
  | .TB_NS => ⟨.flat, 0x10000, 0, 1, false⟩
  | .TB_FRAC => ⟨.flat, 0x10004, 0, 1, false⟩
  | .TB_WRAP => ⟨.flat, 0x10008, 0, 1, false⟩
  | .TB_INCR => ⟨.flat, 0x10010, 0, 1, true⟩
  | .TB_INCR_NOM => ⟨.flat, 0x10018, 0, 1, true⟩
  | .TB_STEP => ⟨.flat, 0x10020, 0, 1, true⟩
  | .TB_STEP_LAST => ⟨.flat, 0x10028, 0, 1, true⟩
  | .TB_STATUS => ⟨.flat, 0x10030, 0, 1, false⟩
  | .TB_CTRL => ⟨.flat, 0x10034, 0, 1, false⟩
  | .TB_PPSOUT_NEXT => ⟨.flat, 0x10040, 0, 1, false⟩
  | .TB_PPSOUT_LAST => ⟨.flat, 0x1004c, 0, 1, false⟩
  | .TB_PPSOUT_CTRL => ⟨.flat, 0x10044, 0, 1, false⟩
  | .TB_PPSOUT_COMP => ⟨.flat, 0x10048, 0, 1, false⟩
  | .TB_PPSIN_COMP => ⟨.flat, 0x10064, 0, 1, false⟩
  | .TB_CLK10_CTRL => ⟨.flat, 0x10050, 0, 1, false⟩
  | .TB_PPSIN_STAT => ⟨.flat, 0x10060, 0, 1, false⟩
  | .TB_TODIN_STAT => ⟨.flat, 0x100c0, 0, 1, false⟩
  | .TB_PPSIN_TS => ⟨.flat, 0x10068, 0, 1, true⟩
  | .TB_TODIN_PPS => ⟨.flat, 0x100c8, 0, 1, true⟩
  | .TB_TODOUT_CTRL => ⟨.flat, 0x10070, 0, 1, false⟩
  | .TB_TODOUT_BUF => ⟨.flat, 0x10080, 4, 16, false⟩
  | .TB_TODIN_BUF => ⟨.flat, 0x10100, 4, 16, false⟩
  | .TB_IO_CNT => ⟨.flat, 0x100d0, 0, 1, false⟩
  | .KT_OVEN_STATUS => ⟨.flat, 0x50000, 0, 1, false⟩
  | .MC_TS_CTRL => ⟨.port, 0x2800, 0, 1, false⟩
  | .MC_TS_ADJ => ⟨.port, 0x2804, 0, 1, false⟩
  | .MC_TS_CNT => ⟨.port, 0x2808, 0, 1, false⟩
  | .TT_SERVO_CTRL => ⟨.flat, 0x1500000, 0, 1, false⟩
  | .TT_SERVO_STATUS => ⟨.flat, 0x1500004, 0, 1, false⟩
  | .TT_SERVO_CFG => ⟨.flat, 0x1500008, 0, 1, false⟩
  | .TT_SERVO_THR => ⟨.flat, 0x150000c, 0, 1, false⟩
  | .TT_SERVO_PHASE => ⟨.flat, 0x1500010, 0, 1, false⟩
  | .TT_SERVO_TEEST => ⟨.flat, 0x1500014, 0, 1, false⟩
  | .TT_SERVO_FREQ => ⟨.flat, 0x1500018, 0, 1, true⟩
  | .TT_SERVO_BASE => ⟨.flat, 0x1500020, 0, 1, true⟩
  | .TT_SERVO_UTC => ⟨.flat, 0x1500028, 0, 1, false⟩
  | .TT_SERVO_XDIFF => ⟨.flat, 0x150002c, 0, 1, false⟩
  | .TT_TOD_SFC => ⟨.flat, 0x1500100, 0, 1, true⟩
  | .TT_TOD_SEC => ⟨.flat, 0x1500108, 0, 1, true⟩
  | .TT_TOD_NSEC => ⟨.flat, 0x1500110, 0, 1, false⟩
  | .TT_TOD_INFO => ⟨.flat, 0x1500114, 0, 1, false⟩
  | .TT_TOD_GMID => ⟨.flat, 0x1500118, 0, 1, true⟩
  | .TT_TOD_STAT => ⟨.flat, 0x1500120, 0, 1, false⟩
  | .TT_HO_STATUS => ⟨.flat, 0x1500200, 0, 1, false⟩
  | .TT_HO_LAST => ⟨.flat, 0x1500208, 0, 1, true⟩
  | .TT_HO_CFG => ⟨.flat, 0x1500210, 0, 1, false⟩
  | .TT_HO_CTRL => ⟨.flat, 0x1500214, 0, 1, false⟩
  | .TT_HO_COEF => ⟨.flat, 0x1500220, 8, 5, true⟩
  | .TT_BC_ID => ⟨.flat, 0x1500300, 0, 1, true⟩
  | .TT_BC_CTRL => ⟨.flat, 0x1500308, 0, 1, false⟩
  | .TT_BC_CNT => ⟨.flat, 0x150030c, 0, 1, false⟩
  | .TT_BC_PORT => ⟨.flat, 0x1500800, 4, 144, false⟩
  | .KT_OVEN_CASE => ⟨.flat, 0x50004, 0, 1, false⟩
  | .LN_CTRL => ⟨.port, 0x0, 0, 1, false⟩
  | .LN_STATUS => ⟨.port, 0x4, 0, 1, false⟩
  | .LN_NEG_TIMER => ⟨.port, 0x8, 0, 1, false⟩
  | .LN_NEG_PARTNER => ⟨.port, 0xc, 0, 1, false⟩
  | .LN_LPI => ⟨.port, 0x10, 0, 1, false⟩
  | .LN_OPT => ⟨.port, 0x14, 0, 1, false⟩
  | .LN_PRBS_CTRL => ⟨.port, 0x20, 0, 1, false⟩
  | .LN_PRBS_STAT => ⟨.port, 0x24, 0, 1, false⟩
  | .LN_PRBS_ERR => ⟨.port, 0x28, 0, 1, true⟩
  | .LN_PRBS_BITS => ⟨.port, 0x30, 0, 1, true⟩
  | .LN_BOL_CNT => ⟨.port, 0x38, 0, 1, false⟩
  | .LN_BUDGET => ⟨.portGroup, 0x0, 0, 1, false⟩
  | .LN_GRP_SUM => ⟨.portGroup, 0x4, 0, 1, false⟩
  | .LN_REF => ⟨.portGroup, 0x8, 0, 1, false⟩
  | .LN_BUDGET_REFUSED => ⟨.portGroup, 0xc, 0, 1, false⟩
  | .MC_RX_FRAMES => ⟨.port, 0x1000, 0, 1, true⟩
  | .MC_RX_OCTETS => ⟨.port, 0x1008, 0, 1, true⟩
  | .MC_RX_FCSERR => ⟨.port, 0x1010, 0, 1, true⟩
  | .MC_RX_RUNT => ⟨.port, 0x1018, 0, 1, true⟩
  | .MC_RX_OVERSIZE => ⟨.port, 0x1020, 0, 1, true⟩
  | .MC_RX_MACCTL => ⟨.port, 0x1028, 0, 1, true⟩
  | .MC_RX_FRAGS => ⟨.port, 0x1030, 0, 1, true⟩
  | .MC_RX_ASSYERR => ⟨.port, 0x1038, 0, 1, true⟩
  | .MC_RX_SMDERR => ⟨.port, 0x1040, 0, 1, true⟩
  | .MC_RX_BOUNDARY => ⟨.port, 0x1048, 0, 1, true⟩
  | .MC_RX_CUTERR => ⟨.port, 0x1050, 0, 1, true⟩
  | .MC_TX_FRAMES => ⟨.port, 0x1100, 0, 1, true⟩
  | .MC_TX_OCTETS => ⟨.port, 0x1108, 0, 1, true⟩
  | .MC_TX_PREEMPTS => ⟨.port, 0x1110, 0, 1, true⟩
  | .MC_TX_STOMP_POISON => ⟨.port, 0x1118, 0, 1, true⟩
  | .MC_TX_STOMP_UNDERRUN => ⟨.port, 0x1120, 0, 1, true⟩
  | .MC_TX_STOMP_INGRESS => ⟨.port, 0x1128, 0, 1, true⟩
  | .MC_TX_STOMP_TRUNC => ⟨.port, 0x1130, 0, 1, true⟩
  | .MC_TX_GATEOVERSIZE => ⟨.port, 0x1138, 0, 1, true⟩
  | .MC_TX_GATEOVERRUN => ⟨.port, 0x1140, 0, 1, true⟩
  | .MC_CFG => ⟨.port, 0x1200, 0, 1, false⟩
  | .MC_PREEMPT => ⟨.port, 0x1204, 0, 1, false⟩
  | .MC_PREEMPT_STATUS => ⟨.port, 0x1208, 0, 1, false⟩
  | .MC_CSUM_CTRL => ⟨.port, 0x120c, 0, 1, false⟩
  | .MC_ROLE => ⟨.port, 0x1210, 0, 1, false⟩
  | .MC_CSUM_CNT => ⟨.port, 0x1214, 0, 1, false⟩
  | .GT_CTRL => ⟨.gatePort, 0x3000, 0, 1, false⟩
  | .GT_STATUS => ⟨.gatePort, 0x3004, 0, 1, false⟩
  | .GT_GATES => ⟨.gatePort, 0x3008, 0, 1, false⟩
  | .GT_CNT => ⟨.gatePort, 0x300c, 0, 1, false⟩
  | .GT_LOAD_SRC => ⟨.gatePort, 0x3010, 0, 1, true⟩
  | .GT_LOAD_CTRL => ⟨.gatePort, 0x3018, 0, 1, false⟩
  | .GT_LOAD_STATUS => ⟨.gatePort, 0x301c, 0, 1, false⟩
  | .SV_CTRL => ⟨.flat, 0x4000000, 0, 1, false⟩
  | .SV_RS_CTRL => ⟨.flat, 0x4000004, 0, 1, false⟩
  | .SV_RS_STATUS => ⟨.flat, 0x4000008, 0, 1, false⟩
  | .SV_WHISK_SEED => ⟨.flat, 0x4000010, 0, 1, true⟩
  | .SV_RS_PIN => ⟨.flat, 0x4000018, 4, 2, false⟩
  | .SV_CNT_PASS1 => ⟨.flat, 0x4000020, 0, 1, true⟩
  | .SV_CNT_PASS2 => ⟨.flat, 0x4000028, 0, 1, true⟩
  | .SV_CNT_EXACT => ⟨.flat, 0x4000030, 0, 1, true⟩
  | .SV_CNT_TERN => ⟨.flat, 0x4000038, 0, 1, true⟩
  | .SV_CNT_DEFAULT => ⟨.flat, 0x4000040, 0, 1, true⟩
  | .SV_DROP_RULE => ⟨.flat, 0x4000048, 0, 1, true⟩
  | .SV_DROP_HAIRPIN => ⟨.flat, 0x4000050, 0, 1, true⟩
  | .SV_DROP_PLANE => ⟨.flat, 0x4000058, 0, 1, true⟩
  | .SV_DROP_ACTION => ⟨.flat, 0x4000060, 0, 1, true⟩
  | .SV_DROP_PASS2 => ⟨.flat, 0x4000068, 0, 1, true⟩
  | .SV_ACT_INDEX => ⟨.flat, 0x4000100, 0, 1, false⟩
  | .SV_ACT_WORD => ⟨.flat, 0x4000108, 0, 1, true⟩
  | .SV_FS_INDEX => ⟨.flat, 0x4000110, 0, 1, false⟩
  | .SV_FS_BYTES => ⟨.flat, 0x4000118, 0, 1, true⟩
  | .SV_FS_PKTS => ⟨.flat, 0x4000120, 0, 1, true⟩
  | .SV_PORT_CFG => ⟨.flat, 0x4001000, 4, 145, false⟩
  | .SV_PIPE_PKTS => ⟨.pipeline, 0x0, 0, 1, true⟩
  | .SV_EM_INDEX => ⟨.flat, 0x4100000, 0, 1, false⟩
  | .SV_EM_COUNT => ⟨.flat, 0x4100004, 0, 1, false⟩
  | .SV_EM_WORD => ⟨.flat, 0x4100008, 8, 8, true⟩
  | .SV_TR_INDEX => ⟨.ternarySet, 0x0, 0, 1, false⟩
  | .SV_TR_WORD => ⟨.ternarySet, 0x8, 8, 8, true⟩
  | .SV_BB_CTRL => ⟨.flat, 0x4180000, 0, 1, false⟩
  | .SV_BB_CNT => ⟨.flat, 0x4180004, 0, 1, false⟩
  | .SV_BB_FRAGS => ⟨.flat, 0x4180008, 0, 1, false⟩
  | .LD_PART_PS => ⟨.flat, 0x6000100, 0, 1, false⟩
  | .LD_PART_RO => ⟨.flat, 0x6000104, 0, 1, false⟩
  | .LD_PART_PD => ⟨.flat, 0x6000108, 0, 1, false⟩
  | .LD_PART_LS => ⟨.flat, 0x600010c, 0, 1, false⟩
  | .LD_PART_CAP => ⟨.flat, 0x6000110, 0, 1, false⟩
  | .LD_POOL_REGION => ⟨.flat, 0x6000120, 4, 4, false⟩
  | .LD_POOL_FREE => ⟨.flat, 0x5000010, 4, 8, false⟩
  | .LD_POOL_LOW => ⟨.flat, 0x5000030, 4, 4, false⟩
  | .LD_REQ_RSV => ⟨.requester, 0x0, 4, 4, false⟩
  | .LD_REQ_CAP => ⟨.requester, 0x10, 4, 4, false⟩
  | .LD_REQ_USED => ⟨.requester, 0x20, 4, 4, false⟩
  | .LD_REQ_CNT => ⟨.requester, 0x30, 0, 1, false⟩
  | .LD_REQ_UPSIZE => ⟨.requester, 0x34, 0, 1, false⟩
  | .LD_REQ_CFG => ⟨.requester, 0x38, 0, 1, false⟩
  | .LD_QREQ => ⟨.flat, 0x5008000, 4, 4096, false⟩
  | .LD_LEDGER_ERR => ⟨.flat, 0x5010000, 0, 1, false⟩
  | .LD_LOOK => ⟨.flat, 0x5010008, 0, 1, true⟩
  | .LD_LOOK_STAT => ⟨.flat, 0x5010010, 0, 1, false⟩
  | .LD_LOOK_ENTRY => ⟨.flat, 0x5010014, 0, 1, false⟩
  | .LD_XF_CTRL => ⟨.port, 0x4000, 0, 1, false⟩
  | .LD_XF_STAT => ⟨.port, 0x4004, 0, 1, false⟩
  | .LD_XF_QMAX => ⟨.port, 0x4010, 4, 8, false⟩
  | .LD_XF_CUT => ⟨.port, 0x4030, 0, 1, true⟩
  | .LD_XF_ERR => ⟨.port, 0x4038, 0, 1, false⟩
  | .TM_Q_CFG => ⟨.queue, 0x0, 0, 1, false⟩
  | .TM_Q_LIMIT => ⟨.queue, 0x4, 0, 1, false⟩
  | .TM_Q_DEPTH => ⟨.queue, 0x8, 0, 1, false⟩
  | .TM_Q_DROP => ⟨.queue, 0xc, 0, 1, false⟩
  | .TM_SHP_SEL => ⟨.flat, 0x5110000, 0, 1, false⟩
  | .TM_SHP_RATE => ⟨.flat, 0x5110004, 0, 1, false⟩
  | .TM_POL_RATE => ⟨.flat, 0x5120004, 0, 1, false⟩
  | .TM_SHP_BURST => ⟨.flat, 0x5110008, 0, 1, false⟩
  | .TM_POL_BURST => ⟨.flat, 0x5120008, 0, 1, false⟩
  | .TM_SHP_CTRL => ⟨.flat, 0x511000c, 0, 1, false⟩
  | .TM_POL_CTRL => ⟨.flat, 0x512000c, 0, 1, false⟩
  | .TM_SHP_CREDIT => ⟨.flat, 0x5110010, 0, 1, false⟩
  | .TM_SHP_STAT => ⟨.flat, 0x5110014, 0, 1, false⟩
  | .TM_POL_SEL => ⟨.flat, 0x5120000, 0, 1, false⟩
  | .TM_POL_PASS => ⟨.flat, 0x5120010, 0, 1, true⟩
  | .TM_POL_DROP => ⟨.flat, 0x5120018, 0, 1, false⟩
  | .TM_LOAD_FCST => ⟨.flat, 0x5130000, 0, 1, false⟩
  | .TM_LOAD_CFG => ⟨.flat, 0x5130004, 0, 1, false⟩
  | .TM_HWM_SEL => ⟨.flat, 0x5130010, 0, 1, false⟩
  | .TM_HWM_DEPTH => ⟨.flat, 0x5130014, 0, 1, false⟩
  | .TM_HWM_DELAY => ⟨.flat, 0x5130018, 0, 1, false⟩
  | .TM_HWM_LAST => ⟨.flat, 0x513001c, 0, 1, false⟩
  | .TM_LR_BASE => ⟨.latencyRing, 0x0, 0, 1, true⟩
  | .TM_CR_BASE => ⟨.captureRing, 0x0, 0, 1, true⟩
  | .TM_LR_WR => ⟨.latencyRing, 0x8, 0, 1, false⟩
  | .TM_CR_WR => ⟨.captureRing, 0x8, 0, 1, false⟩
  | .TM_LR_RD => ⟨.latencyRing, 0xc, 0, 1, false⟩
  | .TM_CR_RD => ⟨.captureRing, 0xc, 0, 1, false⟩
  | .TM_LR_MISS => ⟨.latencyRing, 0x10, 0, 1, false⟩
  | .TM_CR_DROP => ⟨.captureRing, 0x10, 0, 1, false⟩
  | .CX_CAP => ⟨.flat, 0x8000000, 0, 1, false⟩
  | .CX_PORT_CFG => ⟨.cxPort, 0x0, 0, 1, false⟩
  | .CX_PORT_TXSC => ⟨.cxPort, 0x4, 0, 1, false⟩
  | .CX_PORT_RXSA => ⟨.cxPort, 0x8, 4, 2, false⟩
  | .CX_PORT_WINDOW => ⟨.cxPort, 0x10, 0, 1, false⟩
  | .CX_PORT_DROP => ⟨.cxPort, 0x14, 0, 1, false⟩
  | .CX_PON_KEY => ⟨.flat, 0x8003000, 0, 1, false⟩
  | .CX_PON_GEN => ⟨.flat, 0x8003004, 0, 1, false⟩
  | .CX_PON_GENSTAT => ⟨.flat, 0x8003008, 0, 1, false⟩
  | .CX_PON_GENOUT => ⟨.flat, 0x8003010, 4, 8, false⟩
  | .CX_PON_CNT => ⟨.flat, 0x8003030, 0, 1, false⟩
  | .CX_LANE_STAT => ⟨.cxLane, 0x0, 0, 1, false⟩
  | .CX_LANE_CTRL => ⟨.cxLane, 0x4, 0, 1, false⟩
  | .CX_LANE_BYTES => ⟨.cxLane, 0x8, 0, 1, true⟩
  | .CX_SC_CFG => ⟨.secContext, 0x0, 0, 1, false⟩
  | .CX_SC_SSCI => ⟨.secContext, 0x4, 0, 1, false⟩
  | .CX_SC_SCI => ⟨.secContext, 0x8, 0, 1, true⟩
  | .CX_SC_PN => ⟨.secContext, 0x10, 0, 1, true⟩
  | .CX_SC_THR => ⟨.secContext, 0x18, 0, 1, true⟩
  | .CX_SC_KCV => ⟨.secContext, 0x20, 0, 1, false⟩
  | .CX_SC_PKTS => ⟨.secContext, 0x28, 0, 1, true⟩
  | .CX_SC_ERR => ⟨.secContext, 0x30, 0, 1, false⟩
  | .CX_ROOT_KEY => ⟨.flat, 0x8200000, 4, 8, false⟩
  | .CX_ROOT_CTRL => ⟨.flat, 0x8200020, 0, 1, false⟩
  | .CX_ROOT_STAT => ⟨.flat, 0x8200024, 0, 1, false⟩
  | .CX_ROOT_KCV => ⟨.flat, 0x8200030, 4, 4, false⟩
  | .CX_KEK_STAT => ⟨.flat, 0x8200040, 0, 1, true⟩
  | .CX_KEK_CLEAR => ⟨.flat, 0x8200048, 0, 1, true⟩
  | .CX_UNW_RES => ⟨.flat, 0x8200100, 8, 16, false⟩
  | .CX_UNW_KCV => ⟨.flat, 0x8200104, 8, 16, false⟩
  | .CX_BLOB_W => ⟨.flat, 0x8200200, 8, 8, true⟩
  | .CX_BLOB_GO => ⟨.flat, 0x8200240, 0, 1, false⟩
  | .CX_BLOB_SEQ => ⟨.flat, 0x8200244, 0, 1, false⟩
  | .PW_STATUS => ⟨.flat, 0x30000, 0, 1, false⟩
  | .PW_CTRL => ⟨.flat, 0x30004, 0, 1, false⟩
  | .PW_CFG => ⟨.flat, 0x30008, 0, 1, false⟩
  | .PW_ASLEEP => ⟨.flat, 0x3000c, 0, 1, false⟩
  | .PW_PICK_DEST => ⟨.flat, 0x30010, 0, 1, true⟩
  | .PW_VOTE_HOST => ⟨.flat, 0x30018, 0, 1, false⟩
  | .PW_VOTE_SER => ⟨.flat, 0x3001c, 0, 1, false⟩
  | .PW_TK_LOST => ⟨.flat, 0x30020, 0, 1, true⟩
  | .PW_DOM_STATUS => ⟨.powerDomain, 0x0, 0, 1, false⟩
  | .PW_DOM_VOTES => ⟨.powerDomain, 0x4, 0, 1, false⟩
  | .PW_DOM_TARGET => ⟨.powerDomain, 0x8, 0, 1, false⟩
  | .PW_DOM_WAKE => ⟨.powerDomain, 0xc, 0, 1, false⟩
  | .PW_DOM_NEXT => ⟨.powerDomain, 0x10, 0, 1, true⟩
  | .PW_NEED => ⟨.flat, 0x31000, 4, 1024, false⟩
  | .PW_BATT_CTRL => ⟨.flat, 0x30400, 0, 1, false⟩
  | .PW_BATT_THR => ⟨.flat, 0x30404, 0, 1, false⟩
  | .PW_BATT_STATUS => ⟨.flat, 0x30408, 0, 1, false⟩
  | .KT_SAVE_ADDR => ⟨.flat, 0x40, 0, 1, false⟩
  | .KT_SAVE_DATA => ⟨.flat, 0x44, 0, 1, false⟩
  | .PW_GOV_STATUS => ⟨.flat, 0x60000, 0, 1, false⟩
  | .PW_GOV_CFG => ⟨.flat, 0x60004, 0, 1, false⟩
  | .PW_GOV_TJ => ⟨.flat, 0x60008, 0, 1, false⟩
  | .MG_PCIE_STATUS => ⟨.flat, 0xc000000, 0, 1, false⟩
  | .MG_BAR2_WIN => ⟨.flat, 0xc000004, 0, 1, false⟩
  | .MG_HOST_CNT => ⟨.flat, 0xc000008, 0, 1, false⟩
  | .MG_RING_BASE => ⟨.flat, 0xc020000, 0, 1, true⟩
  | .MG_RING_CTRL => ⟨.flat, 0xc020008, 0, 1, false⟩
  | .MG_RING_WR => ⟨.flat, 0xc02000c, 0, 1, false⟩
  | .MG_RING_RD => ⟨.flat, 0xc020010, 0, 1, false⟩
  | .MG_RING_LOST => ⟨.flat, 0xc020014, 0, 1, false⟩
  | .MG_EVT_CFG => ⟨.flat, 0xc021000, 4, 1024, false⟩
  | .MG_VEC_MOD => ⟨.flat, 0xc022000, 4, 1024, false⟩
  | .MG_MSIX_ADDR => ⟨.flat, 0xc010000, 16, 1024, true⟩
  | .MG_MSIX_DATA => ⟨.flat, 0xc010008, 16, 1024, false⟩
  | .MG_MSIX_CTRL => ⟨.flat, 0xc01000c, 16, 1024, false⟩
  | .MG_MSIX_PBA => ⟨.flat, 0xc014000, 8, 16, true⟩
  | .MG_DELEG => ⟨.flat, 0xc030000, 0, 1, false⟩
  | .MG_AUTH_CNT => ⟨.flat, 0xc030004, 0, 1, false⟩
  | .MG_PROXY_ADDR => ⟨.flat, 0xc030100, 0, 1, false⟩
  | .MG_PROXY_DATA => ⟨.flat, 0xc030104, 0, 1, false⟩
  | .MG_PROXY_CTRL => ⟨.flat, 0xc030108, 0, 1, false⟩
  | .MG_PROXY_STAT => ⟨.flat, 0xc03010c, 0, 1, false⟩
  | .MG_SER_STATUS => ⟨.flat, 0x20000, 0, 1, false⟩
  | .MG_SER_CNT => ⟨.flat, 0x20004, 0, 1, false⟩
  | .MG_LATCH_STAT => ⟨.flat, 0x40000, 0, 1, false⟩
  | .MG_LATCH_CTRL => ⟨.flat, 0x40004, 0, 1, false⟩
  | .MG_LATCH_HEAD => ⟨.flat, 0x40010, 4, 4, false⟩
  | .PW_THERM => ⟨.flat, 0x6000c, 0, 1, false⟩

/-- The named fields of each register. Bits no field covers are reserved: they read 0 and a write of them is ignored (R8). -/
def Reg.fields : Reg → List Field
  -- spec/02_preoth_machine.md, R73
  | .PR_ENG_CTRL => [⟨0, 8, .rw, 0x0⟩, ⟨8, 1, .rw, 0x0⟩, ⟨9, 1, .wo, 0x0⟩, ⟨16, 16, .rw, 0x200⟩]
  | .PR_ENG_STATUS => [⟨0, 8, .ro, 0x0⟩, ⟨8, 8, .ro, 0x0⟩, ⟨16, 8, .ro, 0x0⟩, ⟨24, 8, .ro, 0x0⟩]
  | .PR_ENG_TRAPDROP => [⟨0, 32, .rc, 0x0⟩]
  | .PR_ENG_ECC => [⟨0, 16, .rc, 0x0⟩, ⟨16, 16, .rc, 0x0⟩]
  | .PR_MEM_ADDR => [⟨0, 17, .rw, 0x0⟩, ⟨28, 1, .rw, 0x0⟩, ⟨31, 1, .rw, 0x0⟩]
  | .PR_MEM_DATA => [⟨0, 32, .rw, 0x0⟩]
  | .PR_CTX_STATE => [⟨0, 3, .ro, 0x0⟩, ⟨3, 1, .ro, 0x0⟩, ⟨4, 4, .wo, 0x0⟩, ⟨8, 4, .ro, 0x0⟩]
  | .PR_CTX_PC => [⟨0, 16, .rw, 0x0⟩]
  | .PR_CTX_TRAPVEC => [⟨0, 1, .rw, 0x0⟩, ⟨2, 14, .rw, 0x0⟩]
  | .PR_CTX_TRAP => [⟨0, 16, .ro, 0x0⟩, ⟨16, 8, .ro, 0x0⟩, ⟨31, 1, .w1c, 0x0⟩]
  | .PR_CTX_TVAL => [⟨0, 64, .ro, 0x0⟩]
  | .PR_CTX_STEPS => [⟨0, 64, .rc, 0x0⟩]
  | .PR_CTX_ROLE => [⟨0, 8, .ro, 0x0⟩, ⟨8, 2, .ro, 0x0⟩, ⟨10, 2, .ro, 0x0⟩]
  -- spec/03_preoth_system.md, R111
  | .PR_ENG_PROGDROP => [⟨0, 32, .rc, 0x0⟩]
  | .PR_ENG_BOUNCE => [⟨0, 16, .rc, 0x0⟩, ⟨16, 16, .rc, 0x0⟩]
  | .PR_HMSG_CTRL => [⟨0, 3, .rw, 0x0⟩, ⟨3, 1, .wo, 0x0⟩]
  | .PR_HMSG_STATUS => [⟨0, 8, .ro, 0x0⟩, ⟨8, 1, .ro, 0x1⟩, ⟨16, 1, .w1c, 0x0⟩, ⟨24, 8, .ro, 0x0⟩]
  | .PR_HMSG_DEST => [⟨0, 64, .rw, 0x0⟩]
  | .PR_HMSG_BODY => [⟨0, 64, .rw, 0x0⟩]
  | .PR_CTX_MBX => [⟨0, 5, .ro, 0x0⟩, ⟨16, 16, .rc, 0x0⟩]
  | .PR_CTX_AUTH => [⟨0, 2, .ro, 0x0⟩]
  -- spec/02_preoth_machine.md, R72
  | .PR_CTX_GREG => [⟨0, 64, .rw, 0x0⟩]
  -- spec/04_start_up.md, R125
  | .KT_BOOT_STATUS => [⟨0, 4, .ro, 0x1⟩, ⟨4, 1, .ro, 0x0⟩, ⟨5, 1, .ro, 0x0⟩, ⟨6, 1, .ro, 0x0⟩, ⟨7, 1, .ro, 0x0⟩, ⟨8, 4, .ro, 0x0⟩, ⟨12, 8, .ro, 0x0⟩]
  | .KT_BOOT_CTRL => [⟨0, 1, .rw, 0x0⟩, ⟨1, 1, .wo, 0x0⟩, ⟨4, 1, .rw, 0x1⟩, ⟨5, 1, .rw, 0x1⟩, ⟨6, 1, .rw, 0x1⟩]
  | .KT_RESET => [⟨0, 2, .wo, 0x0⟩, ⟨8, 8, .wo, 0x0⟩]
  | .KT_RESET_CAUSE => [⟨0, 4, .ro, 0x1⟩, ⟨8, 8, .ro, 0x0⟩]
  | .KT_WDOG => [⟨0, 1, .rw, 0x0⟩, ⟨1, 1, .rw, 0x1⟩, ⟨2, 1, .wo, 0x0⟩, ⟨8, 8, .rw, 0x4⟩]
  -- spec/04_start_up.md, R132
  | .PR_LOAD_SRC => [⟨0, 40, .rw, 0x0⟩, ⟨62, 1, .rw, 0x0⟩]
  | .PR_LOAD_CTRL => [⟨0, 1, .wo, 0x0⟩]
  | .PR_LOAD_STATUS => [⟨0, 8, .ro, 0x0⟩, ⟨8, 1, .ro, 0x0⟩, ⟨16, 8, .ro, 0x0⟩]
  | .PR_STM_ADDR => [⟨0, 24, .rw, 0x0⟩, ⟨31, 1, .rw, 0x0⟩]
  | .PR_STM_DATA => [⟨0, 32, .rw, 0x0⟩]
  -- spec/04_start_up.md, R134
  | .KT_SITE_VENDOR => [⟨0, 32, .lk, 0x0⟩]
  | .KT_SITE_SERIAL => [⟨0, 32, .lk, 0x0⟩]
  | .KT_SITE_CTRL => [⟨0, 1, .ro, 0x0⟩, ⟨1, 1, .ro, 0x0⟩, ⟨2, 1, .lk, 0x0⟩, ⟨8, 8, .rc, 0x0⟩]
  -- spec/05_downstream.md, R174
  | .OP_DS_STATUS => [⟨0, 4, .ro, 0x0⟩, ⟨4, 1, .ro, 0x1⟩, ⟨8, 4, .ro, 0x0⟩, ⟨12, 4, .ro, 0x0⟩]
  | .OP_DS_POWER => [⟨0, 16, .ro, 0x0⟩, ⟨31, 1, .ro, 0x0⟩]
  | .OP_DS_LOS => [⟨0, 16, .rw, 0xf3e4⟩, ⟨16, 16, .rw, 0xf448⟩]
  | .TC_DS_MODE => [⟨0, 1, .rw, 0x1⟩, ⟨1, 1, .rw, 0x0⟩, ⟨2, 4, .ro, 0x0⟩, ⟨6, 4, .ro, 0x0⟩]
  | .TC_DS_REORDER => [⟨0, 16, .rw, 0xfa⟩]
  -- spec/16_power.md, R525
  | .TC_SLEEP_CTRL => [⟨0, 1, .rw, 0x1⟩, ⟨1, 1, .rw, 0x1⟩, ⟨8, 8, .rw, 0xa⟩]
  | .TC_SLEEP_PARAM => [⟨0, 16, .rw, 0x0⟩, ⟨16, 16, .rw, 0x0⟩]
  | .TC_SLEEP_STATUS => [⟨0, 3, .ro, 0x0⟩, ⟨3, 1, .ro, 0x0⟩]
  -- spec/05_downstream.md, R174
  | .TC_DS_GRP_CTRL => [⟨0, 16, .rw, 0x100⟩]
  | .TC_DS_GRP_EXPECT => [⟨0, 24, .ro, 0x0⟩, ⟨31, 1, .ro, 0x0⟩]
  | .TC_DS_GRP_HELD => [⟨0, 32, .ro, 0x0⟩]
  | .TC_DS_GRP_SKIPTO => [⟨0, 32, .rc, 0x0⟩]
  | .TC_DS_GRP_SKIPPASS => [⟨0, 32, .rc, 0x0⟩]
  | .TC_DS_GRP_LATE => [⟨0, 32, .rc, 0x0⟩]
  | .TC_DS_GRP_OVF => [⟨0, 32, .rc, 0x0⟩]
  | .TC_DS_GRP_HDRERR => [⟨0, 32, .rc, 0x0⟩]
  | .TC_DS_PORTID => [⟨0, 16, .rw, 0x0⟩, ⟨16, 1, .rw, 0x0⟩, ⟨17, 1, .rw, 0x0⟩, ⟨18, 2, .rw, 0x0⟩, ⟨20, 2, .rw, 0x0⟩, ⟨22, 1, .rw, 0x0⟩]
  | .TC_DSC_STATUS => [⟨0, 3, .ro, 0x4⟩, ⟨3, 1, .ro, 0x0⟩, ⟨4, 1, .ro, 0x0⟩, ⟨5, 1, .ro, 0x0⟩, ⟨6, 2, .ro, 0x0⟩]
  | .TC_DSC_SFC => [⟨0, 51, .ro, 0x0⟩]
  | .TC_DSC_CW => [⟨0, 64, .rc, 0x0⟩]
  | .TC_DSC_CORR => [⟨0, 64, .rc, 0x0⟩]
  | .TC_DSC_UNCORR => [⟨0, 64, .rc, 0x0⟩]
  | .TC_DSC_HEC => [⟨0, 16, .rc, 0x0⟩, ⟨16, 16, .rc, 0x0⟩]
  | .TC_DSC_DROP => [⟨0, 16, .rc, 0x0⟩, ⟨16, 16, .rc, 0x0⟩]
  | .TC_DSC_CORR1S => [⟨0, 32, .ro, 0x0⟩]
  | .TC_DSC_SDTHR => [⟨0, 32, .rw, 0xed4e000⟩]
  | .TC_DSC_SFTHR => [⟨0, 16, .rw, 0x3⟩]
  | .TC_DSC_OVF => [⟨0, 32, .rc, 0x0⟩]
  | .TC_DSC_SNAPREQ => [⟨0, 51, .rw, 0x0⟩, ⟨63, 1, .wo, 0x0⟩]
  | .TC_DSC_SNAPSTAT => [⟨0, 1, .rs, 0x0⟩, ⟨1, 1, .rs, 0x0⟩, ⟨2, 1, .rs, 0x1⟩, ⟨3, 1, .rs, 0x0⟩, ⟨8, 8, .rs, 0x0⟩]
  | .TC_DSC_SNAPTS => [⟨0, 40, .rs, 0x0⟩]
  | .TC_DSC_FCSERR => [⟨0, 16, .rc, 0x0⟩, ⟨16, 16, .rc, 0x0⟩]
  | .TC_DSC_FRLOST => [⟨0, 32, .rc, 0x0⟩]
  -- spec/06_joining.md, R219
  | .TC_ACT_STATUS => [⟨0, 4, .ro, 0x1⟩, ⟨4, 4, .ro, 0x8⟩, ⟨8, 2, .ro, 0x0⟩, ⟨16, 10, .ro, 0x0⟩, ⟨26, 1, .ro, 0x0⟩]
  | .TC_ACT_CTRL => [⟨0, 1, .wo, 0x0⟩, ⟨1, 1, .rw, 0x0⟩]
  | .TC_ACT_TIMERS => [⟨0, 16, .rw, 0x2710⟩, ⟨16, 16, .rw, 0x64⟩]
  | .TC_DISC => [⟨0, 4, .rw, 0x6⟩, ⟨4, 4, .ro, 0x0⟩, ⟨8, 10, .ro, 0x0⟩]
  | .TC_PLOAM_TARGET => [⟨0, 45, .rw, 0x0⟩, ⟨63, 1, .rw, 0x0⟩]
  | .TC_PLOAM_CNT => [⟨0, 8, .rc, 0x0⟩, ⟨8, 8, .rc, 0x0⟩, ⟨16, 8, .rc, 0x0⟩, ⟨24, 8, .rc, 0x0⟩]
  | .TC_VPLOAM_CTRL => [⟨0, 8, .rw, 0x0⟩, ⟨8, 1, .rw, 0x1⟩, ⟨9, 1, .rw, 0x1⟩, ⟨16, 1, .ro, 0x0⟩, ⟨17, 1, .ro, 0x0⟩, ⟨18, 1, .ro, 0x0⟩, ⟨24, 8, .rc, 0x0⟩]
  | .TC_RNG_EQD => [⟨0, 31, .rw, 0x0⟩, ⟨31, 1, .rw, 0x0⟩]
  | .TC_OMCI_RXRING => [⟨0, 40, .rw, 0x0⟩, ⟨40, 12, .rw, 0x0⟩]
  | .TC_OMCI_RXPTR => [⟨0, 12, .ro, 0x0⟩, ⟨16, 12, .rw, 0x0⟩]
  | .TC_RNG_TEQD => [⟨0, 31, .rw, 0x0⟩, ⟨31, 1, .rw, 0x0⟩]
  | .TC_ACT_REGID => [⟨0, 32, .rw, 0x0⟩]
  | .TC_PAIR_RT => [⟨0, 40, .ro, 0x0⟩, ⟨40, 8, .ro, 0x0⟩, ⟨62, 1, .ro, 0x0⟩, ⟨63, 1, .ro, 0x0⟩]
  | .KT_ESTOP => [⟨0, 1, .ro, 0x0⟩, ⟨1, 1, .wo, 0x0⟩]
  | .OP_WD_CTRL => [⟨0, 1, .wo, 0x0⟩, ⟨1, 1, .wo, 0x0⟩]
  | .OP_WD_STATUS => [⟨0, 1, .ro, 0x0⟩, ⟨1, 1, .ro, 0x0⟩, ⟨2, 2, .ro, 0x0⟩, ⟨4, 2, .ro, 0x0⟩, ⟨8, 8, .rc, 0x0⟩, ⟨16, 8, .rc, 0x0⟩]
  | .TT_ASYM_CTRL => [⟨0, 1, .wo, 0x0⟩, ⟨1, 1, .rw, 0x0⟩, ⟨8, 8, .rw, 0xf⟩]
  | .TT_ASYM_MODEL => [⟨0, 18, .rw, 0x20080⟩, ⟨18, 14, .rw, 0x23f0⟩]
  | .TT_ASYM_STAT => [⟨0, 1, .rs, 0x0⟩, ⟨1, 1, .rs, 0x0⟩, ⟨2, 1, .rs, 0x1⟩, ⟨3, 1, .rs, 0x0⟩, ⟨4, 1, .ro, 0x0⟩, ⟨8, 8, .rs, 0x0⟩, ⟨16, 8, .rs, 0x0⟩, ⟨24, 8, .rs, 0x0⟩]
  | .TT_ASYM_FIT => [⟨0, 18, .ro, 0x0⟩, ⟨32, 16, .ro, 0x0⟩]
  | .TT_ASYM_DS => [⟨0, 40, .ro, 0x0⟩]
  | .TT_ASYM_US => [⟨0, 40, .ro, 0x0⟩]
  -- spec/07_upstream.md, R257
  | .TM_ALLOC_MAP => [⟨0, 14, .rw, 0x0⟩, ⟨14, 1, .ro, 0x0⟩, ⟨15, 1, .rw, 0x0⟩, ⟨16, 2, .rw, 0x0⟩, ⟨18, 1, .rw, 0x0⟩, ⟨19, 1, .ro, 0x0⟩]
  | .TM_ALLOC_Q => [⟨0, 16, .rw, 0x0⟩, ⟨16, 1, .rw, 0x0⟩, ⟨17, 1, .rw, 0x0⟩, ⟨18, 2, .rw, 0x1⟩, ⟨20, 2, .rw, 0x0⟩, ⟨22, 1, .rw, 0x0⟩]
  | .TM_ALLOC_HOLD => [⟨0, 2, .ro, 0x0⟩]
  | .TM_ALLOC_HELD => [⟨0, 32, .ro, 0x0⟩]
  | .TM_ALLOC_LASTGRANT => [⟨0, 32, .ro, 0x0⟩]
  | .TM_HOLD_CTRL => [⟨0, 1, .rw, 0x0⟩, ⟨1, 15, .rw, 0x3e8⟩, ⟨16, 11, .rw, 0x5dc⟩]
  | .TM_HOLD_BUDGET => [⟨0, 36, .rw, 0x45d964b80⟩]
  | .TM_HOLD_USED => [⟨0, 36, .ro, 0x0⟩]
  | .TM_HOLD_DRAIN => [⟨0, 16, .rw, 0x1f4⟩, ⟨16, 8, .rw, 0x8⟩, ⟨24, 8, .rw, 0x10⟩]
  | .TM_HOLD_DROP => [⟨0, 64, .rc, 0x0⟩]
  | .TM_HOLD_EXPIRED => [⟨0, 64, .rc, 0x0⟩]
  | .TM_HOLD_FORCE => [⟨0, 9, .wo, 0x0⟩, ⟨12, 1, .wo, 0x0⟩, ⟨13, 1, .wo, 0x0⟩]
  | .TM_PRED_CFG => [⟨0, 20, .rw, 0x0⟩]
  | .TM_PRED_VAL => [⟨0, 30, .rw, 0x0⟩, ⟨31, 1, .rw, 0x0⟩]
  | .TC_US_MODE => [⟨0, 1, .ro, 0x0⟩, ⟨1, 2, .ro, 0x0⟩, ⟨3, 2, .ro, 0x0⟩, ⟨5, 1, .ro, 0x0⟩]
  | .TC_USC_PROF => [⟨0, 1, .ro, 0x0⟩, ⟨1, 1, .ro, 0x0⟩, ⟨2, 1, .ro, 0x0⟩, ⟨3, 1, .ro, 0x0⟩, ⟨8, 8, .ro, 0x0⟩, ⟨16, 10, .ro, 0x0⟩, ⟨26, 6, .ro, 0x0⟩]
  | .TC_USC_BURSTS => [⟨0, 64, .rc, 0x0⟩]
  | .TC_USC_BYTES => [⟨0, 64, .rc, 0x0⟩]
  | .TC_USC_LATE => [⟨0, 16, .rc, 0x0⟩, ⟨16, 16, .rc, 0x0⟩]
  | .TC_USC_HEC => [⟨0, 16, .rc, 0x0⟩, ⟨16, 16, .rc, 0x0⟩]
  | .TC_USC_IDLE => [⟨0, 64, .rc, 0x0⟩]
  | .TC_USC_CUT => [⟨0, 16, .rc, 0x0⟩, ⟨16, 16, .rc, 0x0⟩]
  | .TC_USC_DROP => [⟨0, 16, .rc, 0x0⟩, ⟨16, 16, .rc, 0x0⟩]
  -- spec/08_timebase.md, R289
  | .TB_NS => [⟨0, 32, .ro, 0x0⟩]
  | .TB_FRAC => [⟨0, 8, .ro, 0x0⟩]
  | .TB_WRAP => [⟨0, 32, .ro, 0x0⟩]
  | .TB_INCR => [⟨0, 48, .rw, 0x0⟩]
  | .TB_INCR_NOM => [⟨0, 48, .ro, 0x0⟩]
  | .TB_STEP => [⟨0, 40, .wo, 0x0⟩]
  | .TB_STEP_LAST => [⟨0, 40, .ro, 0x0⟩]
  | .TB_STATUS => [⟨0, 1, .ro, 0x0⟩, ⟨1, 1, .ro, 0x0⟩, ⟨2, 1, .ro, 0x0⟩, ⟨8, 8, .rc, 0x0⟩]
  | .TB_CTRL => [⟨0, 1, .wo, 0x0⟩, ⟨8, 8, .wo, 0x0⟩]
  | .TB_PPSOUT_NEXT => [⟨0, 32, .rw, 0x0⟩]
  | .TB_PPSOUT_LAST => [⟨0, 32, .ro, 0x0⟩]
  | .TB_PPSOUT_CTRL => [⟨0, 1, .rw, 0x0⟩, ⟨1, 1, .rw, 0x1⟩, ⟨2, 1, .ro, 0x0⟩, ⟨8, 23, .rw, 0x3e8⟩]
  | .TB_PPSOUT_COMP => [⟨0, 24, .rw, 0x0⟩]
  | .TB_PPSIN_COMP => [⟨0, 24, .rw, 0x0⟩]
  | .TB_CLK10_CTRL => [⟨0, 1, .rw, 0x0⟩]
  | .TB_PPSIN_STAT => [⟨0, 1, .rs, 0x0⟩, ⟨1, 1, .rs, 0x0⟩, ⟨2, 1, .rs, 0x1⟩, ⟨3, 1, .ro, 0x0⟩, ⟨8, 8, .rs, 0x0⟩]
  | .TB_TODIN_STAT => [⟨0, 1, .rs, 0x0⟩, ⟨1, 1, .rs, 0x0⟩, ⟨2, 1, .rs, 0x1⟩, ⟨3, 1, .ro, 0x0⟩, ⟨8, 8, .rs, 0x0⟩]
  | .TB_PPSIN_TS => [⟨0, 40, .rs, 0x0⟩, ⟨40, 1, .rs, 0x0⟩, ⟨63, 1, .rs, 0x0⟩]
  | .TB_TODIN_PPS => [⟨0, 40, .rs, 0x0⟩, ⟨40, 1, .rs, 0x0⟩, ⟨63, 1, .rs, 0x0⟩]
  | .TB_TODOUT_CTRL => [⟨0, 1, .rw, 0x0⟩, ⟨1, 1, .rw, 0x0⟩, ⟨2, 7, .rw, 0x30⟩, ⟨16, 10, .rw, 0x64⟩]
  | .TB_TODOUT_BUF => [⟨0, 32, .rw, 0x0⟩]
  | .TB_TODIN_BUF => [⟨0, 32, .rs, 0x0⟩]
  | .TB_IO_CNT => [⟨0, 8, .rc, 0x0⟩, ⟨8, 8, .rc, 0x0⟩, ⟨16, 8, .rc, 0x0⟩]
  | .KT_OVEN_STATUS => [⟨0, 16, .ro, 0x0⟩, ⟨16, 8, .ro, 0x0⟩, ⟨24, 1, .ro, 0x0⟩, ⟨25, 1, .ro, 0x0⟩, ⟨26, 1, .ro, 0x0⟩]
  | .MC_TS_CTRL => [⟨0, 1, .rw, 0x0⟩]
  | .MC_TS_ADJ => [⟨0, 16, .rw, 0x0⟩, ⟨16, 16, .rw, 0x0⟩]
  | .MC_TS_CNT => [⟨0, 16, .rc, 0x0⟩, ⟨16, 8, .rc, 0x0⟩, ⟨24, 8, .rc, 0x0⟩]
  -- spec/09_time_transfer.md, R318
  | .TT_SERVO_CTRL => [⟨0, 2, .rw, 0x2⟩, ⟨8, 8, .rw, 0x7⟩]
  | .TT_SERVO_STATUS => [⟨0, 3, .ro, 0x0⟩, ⟨4, 2, .ro, 0x0⟩, ⟨6, 1, .ro, 0x0⟩, ⟨7, 1, .ro, 0x0⟩, ⟨8, 8, .ro, 0xf8⟩, ⟨16, 1, .ro, 0x0⟩]
  | .TT_SERVO_CFG => [⟨0, 8, .rw, 0x32⟩, ⟨8, 8, .rw, 0xa⟩, ⟨16, 4, .rw, 0x3⟩, ⟨20, 8, .rw, 0xa⟩]
  | .TT_SERVO_THR => [⟨0, 16, .rw, 0x32⟩, ⟨16, 16, .rw, 0x64⟩]
  | .TT_SERVO_PHASE => [⟨0, 32, .ro, 0x0⟩]
  | .TT_SERVO_TEEST => [⟨0, 20, .ro, 0xf423f⟩]
  | .TT_SERVO_FREQ => [⟨0, 64, .ro, 0x0⟩]
  | .TT_SERVO_BASE => [⟨0, 64, .ro, 0x0⟩]
  | .TT_SERVO_UTC => [⟨0, 8, .ro, 0x0⟩, ⟨8, 2, .ro, 0x0⟩, ⟨31, 1, .ro, 0x0⟩]
  | .TT_SERVO_XDIFF => [⟨0, 32, .ro, 0x80000000⟩]
  | .TT_TOD_SFC => [⟨0, 51, .rw, 0x0⟩]
  | .TT_TOD_SEC => [⟨0, 48, .rw, 0x0⟩]
  | .TT_TOD_NSEC => [⟨0, 30, .rw, 0x0⟩]
  | .TT_TOD_INFO => [⟨0, 8, .rw, 0x6⟩, ⟨8, 8, .rw, 0x0⟩, ⟨16, 2, .rw, 0x0⟩, ⟨18, 8, .rw, 0x0⟩, ⟨31, 1, .wo, 0x0⟩]
  | .TT_TOD_GMID => [⟨0, 64, .rw, 0x0⟩]
  | .TT_TOD_STAT => [⟨0, 1, .ro, 0x0⟩, ⟨8, 8, .ro, 0x0⟩, ⟨16, 8, .rc, 0x0⟩]
  | .TT_HO_STATUS => [⟨0, 16, .ro, 0x0⟩, ⟨16, 1, .ro, 0x0⟩, ⟨17, 2, .ro, 0x0⟩]
  | .TT_HO_LAST => [⟨0, 32, .ro, 0x0⟩, ⟨32, 32, .ro, 0x0⟩]
  | .TT_HO_CFG => [⟨0, 16, .rw, 0x44c⟩, ⟨16, 8, .rw, 0x3c⟩, ⟨24, 1, .rw, 0x0⟩]
  | .TT_HO_CTRL => [⟨0, 1, .wo, 0x0⟩, ⟨8, 8, .wo, 0x0⟩]
  | .TT_HO_COEF => [⟨0, 64, .ro, 0x0⟩]
  | .TT_BC_ID => [⟨0, 64, .rw, 0x0⟩]
  | .TT_BC_CTRL => [⟨0, 8, .rw, 0x18⟩, ⟨8, 8, .rw, 0x2c⟩, ⟨16, 8, .rw, 0x80⟩, ⟨24, 1, .ro, 0x0⟩]
  | .TT_BC_CNT => [⟨0, 16, .rc, 0x0⟩, ⟨16, 16, .rc, 0x0⟩]
  | .TT_BC_PORT => [⟨0, 1, .rw, 0x0⟩, ⟨1, 1, .rw, 0x0⟩, ⟨2, 1, .rw, 0x0⟩, ⟨3, 1, .rw, 0x0⟩, ⟨4, 4, .rw, 0x9⟩, ⟨8, 2, .ro, 0x0⟩]
  | .KT_OVEN_CASE => [⟨0, 16, .ro, 0x0⟩]
  -- spec/10_client_lanes.md, R348
  | .LN_CTRL => [⟨0, 1, .rw, 0x0⟩, ⟨1, 1, .rw, 0x0⟩, ⟨2, 2, .rw, 0x0⟩, ⟨4, 2, .rw, 0x1⟩, ⟨6, 1, .rw, 0x0⟩, ⟨8, 3, .rw, 0x7⟩, ⟨11, 1, .rw, 0x0⟩, ⟨12, 2, .rw, 0x0⟩, ⟨14, 1, .rw, 0x0⟩]
  | .LN_STATUS => [⟨0, 3, .ro, 0x0⟩, ⟨3, 2, .ro, 0x0⟩, ⟨5, 1, .ro, 0x0⟩, ⟨6, 1, .ro, 0x0⟩, ⟨7, 1, .ro, 0x0⟩, ⟨8, 1, .ro, 0x0⟩, ⟨9, 1, .ro, 0x0⟩, ⟨10, 1, .ro, 0x0⟩, ⟨11, 1, .ro, 0x0⟩, ⟨12, 2, .ro, 0x0⟩, ⟨14, 2, .ro, 0x0⟩]
  | .LN_NEG_TIMER => [⟨0, 16, .rw, 0x1f4⟩, ⟨16, 16, .rw, 0x32⟩]
  | .LN_NEG_PARTNER => [⟨0, 28, .ro, 0x0⟩, ⟨31, 1, .ro, 0x0⟩]
  | .LN_LPI => [⟨0, 16, .rw, 0x14⟩, ⟨16, 12, .ro, 0x0⟩]
  | .LN_OPT => [⟨0, 16, .ro, 0x0⟩, ⟨16, 16, .ro, 0x0⟩]
  | .LN_PRBS_CTRL => [⟨0, 4, .rw, 0x0⟩, ⟨4, 4, .rw, 0x0⟩, ⟨8, 2, .rw, 0x0⟩, ⟨10, 6, .rw, 0x14⟩, ⟨16, 1, .wo, 0x0⟩, ⟨17, 1, .wo, 0x0⟩]
  | .LN_PRBS_STAT => [⟨0, 1, .ro, 0x0⟩, ⟨16, 16, .rc, 0x0⟩]
  | .LN_PRBS_ERR => [⟨0, 64, .rc, 0x0⟩]
  | .LN_PRBS_BITS => [⟨0, 64, .rc, 0x0⟩]
  | .LN_BOL_CNT => [⟨0, 8, .rc, 0x0⟩, ⟨8, 8, .rc, 0x0⟩, ⟨16, 8, .rc, 0x0⟩, ⟨24, 8, .rc, 0x0⟩]
  | .LN_BUDGET => [⟨0, 12, .ro, 0x0⟩, ⟨16, 12, .ro, 0x0⟩]
  | .LN_GRP_SUM => [⟨0, 12, .ro, 0x0⟩, ⟨16, 12, .ro, 0x0⟩]
  | .LN_REF => [⟨0, 4, .ro, 0x0⟩]
  | .LN_BUDGET_REFUSED => [⟨0, 16, .rc, 0x0⟩]
  -- spec/11_frame_macs.md, R377
  | .MC_RX_FRAMES => [⟨0, 64, .rc, 0x0⟩]
  | .MC_RX_OCTETS => [⟨0, 64, .rc, 0x0⟩]
  | .MC_RX_FCSERR => [⟨0, 64, .rc, 0x0⟩]
  | .MC_RX_RUNT => [⟨0, 64, .rc, 0x0⟩]
  | .MC_RX_OVERSIZE => [⟨0, 64, .rc, 0x0⟩]
  | .MC_RX_MACCTL => [⟨0, 64, .rc, 0x0⟩]
  | .MC_RX_FRAGS => [⟨0, 64, .rc, 0x0⟩]
  | .MC_RX_ASSYERR => [⟨0, 64, .rc, 0x0⟩]
  | .MC_RX_SMDERR => [⟨0, 64, .rc, 0x0⟩]
  | .MC_RX_BOUNDARY => [⟨0, 64, .rc, 0x0⟩]
  | .MC_RX_CUTERR => [⟨0, 64, .rc, 0x0⟩]
  | .MC_TX_FRAMES => [⟨0, 64, .rc, 0x0⟩]
  | .MC_TX_OCTETS => [⟨0, 64, .rc, 0x0⟩]
  | .MC_TX_PREEMPTS => [⟨0, 64, .rc, 0x0⟩]
  | .MC_TX_STOMP_POISON => [⟨0, 64, .rc, 0x0⟩]
  | .MC_TX_STOMP_UNDERRUN => [⟨0, 64, .rc, 0x0⟩]
  | .MC_TX_STOMP_INGRESS => [⟨0, 64, .rc, 0x0⟩]
  | .MC_TX_STOMP_TRUNC => [⟨0, 64, .rc, 0x0⟩]
  | .MC_TX_GATEOVERSIZE => [⟨0, 64, .rc, 0x0⟩]
  | .MC_TX_GATEOVERRUN => [⟨0, 64, .rc, 0x0⟩]
  | .MC_CFG => [⟨0, 14, .rw, 0x5f2⟩]
  | .MC_PREEMPT => [⟨0, 8, .rw, 0xc0⟩, ⟨8, 1, .rw, 0x0⟩, ⟨9, 1, .rw, 0x1⟩, ⟨10, 2, .rw, 0x0⟩, ⟨12, 7, .rw, 0xa⟩]
  | .MC_PREEMPT_STATUS => [⟨0, 3, .ro, 0x0⟩, ⟨3, 1, .ro, 0x0⟩, ⟨4, 1, .ro, 0x0⟩]
  | .MC_CSUM_CTRL => [⟨0, 8, .rw, 0x0⟩, ⟨8, 8, .rw, 0x0⟩]
  | .MC_ROLE => [⟨0, 8, .ro, 0x0⟩, ⟨8, 1, .wo, 0x0⟩]
  | .MC_CSUM_CNT => [⟨0, 16, .rc, 0x0⟩, ⟨16, 16, .rc, 0x0⟩]
  | .GT_CTRL => [⟨0, 4, .wo, 0x0⟩, ⟨16, 16, .rw, 0x0⟩]
  | .GT_STATUS => [⟨0, 3, .ro, 0x0⟩, ⟨3, 5, .ro, 0x0⟩, ⟨8, 2, .ro, 0x0⟩, ⟨16, 8, .ro, 0x0⟩]
  | .GT_GATES => [⟨0, 8, .ro, 0xff⟩]
  | .GT_CNT => [⟨0, 16, .rc, 0x0⟩, ⟨16, 16, .rc, 0x0⟩]
  | .GT_LOAD_SRC => [⟨0, 40, .rw, 0x0⟩, ⟨62, 1, .rw, 0x0⟩]
  | .GT_LOAD_CTRL => [⟨0, 1, .wo, 0x0⟩]
  | .GT_LOAD_STATUS => [⟨0, 8, .ro, 0x0⟩, ⟨8, 1, .ro, 0x0⟩, ⟨16, 8, .ro, 0x0⟩]
  -- spec/12_sieve.md, R409
  | .SV_CTRL => [⟨0, 1, .rw, 0x1⟩]
  | .SV_RS_CTRL => [⟨0, 1, .rw, 0x0⟩]
  | .SV_RS_STATUS => [⟨0, 1, .ro, 0x0⟩, ⟨1, 1, .ro, 0x1⟩]
  | .SV_WHISK_SEED => [⟨0, 64, .wo, 0x0⟩]
  | .SV_RS_PIN => [⟨0, 32, .ro, 0x0⟩]
  | .SV_CNT_PASS1 => [⟨0, 64, .rc, 0x0⟩]
  | .SV_CNT_PASS2 => [⟨0, 64, .rc, 0x0⟩]
  | .SV_CNT_EXACT => [⟨0, 64, .rc, 0x0⟩]
  | .SV_CNT_TERN => [⟨0, 64, .rc, 0x0⟩]
  | .SV_CNT_DEFAULT => [⟨0, 64, .rc, 0x0⟩]
  | .SV_DROP_RULE => [⟨0, 64, .rc, 0x0⟩]
  | .SV_DROP_HAIRPIN => [⟨0, 64, .rc, 0x0⟩]
  | .SV_DROP_PLANE => [⟨0, 64, .rc, 0x0⟩]
  | .SV_DROP_ACTION => [⟨0, 64, .rc, 0x0⟩]
  | .SV_DROP_PASS2 => [⟨0, 64, .rc, 0x0⟩]
  | .SV_ACT_INDEX => [⟨0, 16, .rw, 0x0⟩]
  | .SV_ACT_WORD => [⟨0, 64, .rw, 0x0⟩]
  | .SV_FS_INDEX => [⟨0, 16, .rw, 0x0⟩]
  | .SV_FS_BYTES => [⟨0, 64, .rc, 0x0⟩]
  | .SV_FS_PKTS => [⟨0, 64, .rc, 0x0⟩]
  | .SV_PORT_CFG => [⟨0, 4, .rw, 0x2⟩, ⟨4, 4, .rw, 0x3⟩, ⟨8, 4, .rw, 0x5⟩, ⟨12, 4, .rw, 0x1⟩, ⟨16, 1, .rw, 0x0⟩, ⟨17, 1, .rw, 0x0⟩, ⟨18, 1, .rw, 0x1⟩]
  | .SV_PIPE_PKTS => [⟨0, 64, .rc, 0x0⟩]
  | .SV_EM_INDEX => [⟨0, 17, .rw, 0x0⟩]
  | .SV_EM_COUNT => [⟨0, 18, .ro, 0x0⟩]
  | .SV_EM_WORD => [⟨0, 64, .rw, 0x0⟩]
  | .SV_TR_INDEX => [⟨0, 13, .rw, 0x0⟩]
  | .SV_TR_WORD => [⟨0, 64, .rw, 0x0⟩]
  | .SV_BB_CTRL => [⟨0, 14, .rw, 0x3e8⟩, ⟨16, 8, .rw, 0x1e⟩]
  | .SV_BB_CNT => [⟨0, 8, .rc, 0x0⟩, ⟨8, 8, .rc, 0x0⟩, ⟨16, 8, .rc, 0x0⟩]
  | .SV_BB_FRAGS => [⟨0, 15, .ro, 0x0⟩, ⟨16, 13, .ro, 0x0⟩]
  -- spec/13_ladle.md, R437
  | .LD_PART_PS => [⟨0, 9, .rw, 0x1c0⟩]
  | .LD_PART_RO => [⟨0, 9, .rw, 0x1⟩]
  | .LD_PART_PD => [⟨0, 9, .rw, 0x10⟩]
  | .LD_PART_LS => [⟨0, 9, .rw, 0x4⟩]
  | .LD_PART_CAP => [⟨0, 9, .ro, 0x23⟩]
  | .LD_POOL_REGION => [⟨0, 9, .rw, 0x0⟩]
  | .LD_POOL_FREE => [⟨0, 26, .ro, 0x0⟩]
  | .LD_POOL_LOW => [⟨0, 26, .rw, 0x10000⟩, ⟨31, 1, .ro, 0x0⟩]
  | .LD_REQ_RSV => [⟨0, 27, .rw, 0x0⟩]
  | .LD_REQ_CAP => [⟨0, 27, .rw, 0x7ffffff⟩]
  | .LD_REQ_USED => [⟨0, 27, .ro, 0x0⟩]
  | .LD_REQ_CNT => [⟨0, 16, .rc, 0x0⟩, ⟨16, 16, .rc, 0x0⟩]
  | .LD_REQ_UPSIZE => [⟨0, 32, .rc, 0x0⟩]
  | .LD_REQ_CFG => [⟨0, 1, .rw, 0x0⟩]
  | .LD_QREQ => [⟨0, 8, .rw, 0x0⟩]
  | .LD_LEDGER_ERR => [⟨0, 8, .rc, 0x0⟩, ⟨8, 8, .rc, 0x0⟩, ⟨16, 16, .rc, 0x0⟩]
  | .LD_LOOK => [⟨0, 40, .wo, 0x0⟩]
  | .LD_LOOK_STAT => [⟨0, 1, .rs, 0x0⟩, ⟨1, 1, .rs, 0x0⟩, ⟨2, 1, .rs, 0x1⟩, ⟨8, 8, .rs, 0x0⟩]
  | .LD_LOOK_ENTRY => [⟨0, 32, .rs, 0x0⟩]
  | .LD_XF_CTRL => [⟨0, 1, .rw, 0x0⟩, ⟨8, 12, .rw, 0x40⟩, ⟨24, 8, .rw, 0xc0⟩]
  | .LD_XF_STAT => [⟨0, 1, .ro, 0x0⟩, ⟨1, 1, .ro, 0x0⟩, ⟨2, 1, .ro, 0x0⟩]
  | .LD_XF_QMAX => [⟨0, 14, .rw, 0x5f2⟩]
  | .LD_XF_CUT => [⟨0, 64, .rc, 0x0⟩]
  | .LD_XF_ERR => [⟨0, 16, .rc, 0x0⟩, ⟨16, 16, .rc, 0x0⟩]
  -- spec/14_scheduling.md, R462
  | .TM_Q_CFG => [⟨0, 1, .rw, 0x1⟩, ⟨1, 3, .rw, 0x0⟩, ⟨4, 12, .rw, 0x20⟩, ⟨16, 9, .rw, 0x0⟩, ⟨25, 1, .rw, 0x0⟩, ⟨26, 1, .rw, 0x0⟩, ⟨27, 4, .rw, 0x8⟩]
  | .TM_Q_LIMIT => [⟨0, 24, .rw, 0x4000⟩, ⟨24, 6, .rw, 0x0⟩]
  | .TM_Q_DEPTH => [⟨0, 32, .ro, 0x0⟩]
  | .TM_Q_DROP => [⟨0, 32, .rc, 0x0⟩]
  | .TM_SHP_SEL => [⟨0, 13, .rw, 0x0⟩]
  | .TM_SHP_RATE => [⟨0, 24, .rw, 0x0⟩, ⟨24, 7, .rw, 0x14⟩, ⟨31, 1, .rw, 0x0⟩]
  | .TM_POL_RATE => [⟨0, 24, .rw, 0x0⟩, ⟨24, 7, .rw, 0x14⟩, ⟨31, 1, .rw, 0x0⟩]
  | .TM_SHP_BURST => [⟨0, 28, .rw, 0x4000⟩]
  | .TM_POL_BURST => [⟨0, 28, .rw, 0x4000⟩]
  | .TM_SHP_CTRL => [⟨0, 1, .rw, 0x0⟩, ⟨1, 1, .rw, 0x1⟩, ⟨2, 2, .wo, 0x0⟩, ⟨4, 1, .wo, 0x0⟩]
  | .TM_POL_CTRL => [⟨0, 1, .rw, 0x0⟩, ⟨1, 1, .rw, 0x1⟩, ⟨2, 2, .wo, 0x0⟩, ⟨4, 1, .wo, 0x0⟩]
  | .TM_SHP_CREDIT => [⟨0, 32, .ro, 0x0⟩]
  | .TM_SHP_STAT => [⟨0, 1, .ro, 0x0⟩, ⟨1, 1, .ro, 0x0⟩, ⟨2, 1, .ro, 0x0⟩]
  | .TM_POL_SEL => [⟨0, 10, .rw, 0x0⟩]
  | .TM_POL_PASS => [⟨0, 64, .rc, 0x0⟩]
  | .TM_POL_DROP => [⟨0, 32, .rc, 0x0⟩]
  | .TM_LOAD_FCST => [⟨0, 16, .ro, 0x0⟩, ⟨16, 1, .ro, 0x0⟩]
  | .TM_LOAD_CFG => [⟨0, 16, .rw, 0x1518⟩]
  | .TM_HWM_SEL => [⟨0, 12, .rw, 0x0⟩]
  | .TM_HWM_DEPTH => [⟨0, 32, .rc, 0x0⟩]
  | .TM_HWM_DELAY => [⟨0, 32, .rc, 0x0⟩]
  | .TM_HWM_LAST => [⟨0, 31, .ro, 0x0⟩, ⟨31, 1, .ro, 0x0⟩]
  | .TM_LR_BASE => [⟨0, 39, .rw, 0x0⟩, ⟨40, 20, .rw, 0x0⟩]
  | .TM_CR_BASE => [⟨0, 39, .rw, 0x0⟩, ⟨40, 20, .rw, 0x0⟩]
  | .TM_LR_WR => [⟨0, 20, .ro, 0x0⟩]
  | .TM_CR_WR => [⟨0, 20, .ro, 0x0⟩]
  | .TM_LR_RD => [⟨0, 20, .rw, 0x0⟩]
  | .TM_CR_RD => [⟨0, 20, .rw, 0x0⟩]
  | .TM_LR_MISS => [⟨0, 32, .rc, 0x0⟩]
  | .TM_CR_DROP => [⟨0, 32, .rc, 0x0⟩]
  -- spec/15_cipher.md, R491
  | .CX_CAP => [⟨0, 12, .ro, 0xfff⟩, ⟨16, 12, .ro, 0x4b0⟩]
  | .CX_PORT_CFG => [⟨0, 1, .rw, 0x0⟩, ⟨1, 2, .rw, 0x0⟩, ⟨3, 1, .rw, 0x0⟩, ⟨4, 1, .rw, 0x1⟩, ⟨5, 1, .rw, 0x1⟩]
  | .CX_PORT_TXSC => [⟨0, 10, .rw, 0x0⟩, ⟨15, 1, .rw, 0x0⟩]
  | .CX_PORT_RXSA => [⟨0, 10, .rw, 0x0⟩, ⟨15, 1, .rw, 0x0⟩, ⟨16, 10, .rw, 0x0⟩, ⟨31, 1, .rw, 0x0⟩]
  | .CX_PORT_WINDOW => [⟨0, 32, .rw, 0x0⟩]
  | .CX_PORT_DROP => [⟨0, 16, .rc, 0x0⟩, ⟨16, 16, .rc, 0x0⟩]
  | .CX_PON_KEY => [⟨0, 2, .rw, 0x0⟩]
  | .CX_PON_GEN => [⟨0, 2, .wo, 0x0⟩]
  | .CX_PON_GENSTAT => [⟨0, 1, .rs, 0x0⟩, ⟨1, 1, .rs, 0x0⟩, ⟨2, 1, .rs, 0x1⟩, ⟨3, 1, .rs, 0x0⟩, ⟨8, 8, .rs, 0x0⟩]
  | .CX_PON_GENOUT => [⟨0, 32, .rs, 0x0⟩]
  | .CX_PON_CNT => [⟨0, 16, .rc, 0x0⟩, ⟨16, 16, .rc, 0x0⟩]
  | .CX_LANE_STAT => [⟨0, 1, .ro, 0x0⟩, ⟨1, 1, .ro, 0x0⟩, ⟨2, 1, .ro, 0x0⟩, ⟨3, 1, .ro, 0x0⟩, ⟨16, 16, .rc, 0x0⟩]
  | .CX_LANE_CTRL => [⟨0, 1, .wo, 0x0⟩]
  | .CX_LANE_BYTES => [⟨0, 64, .rc, 0x0⟩]
  | .CX_SC_CFG => [⟨0, 1, .rw, 0x0⟩, ⟨1, 1, .rw, 0x0⟩, ⟨2, 3, .rw, 0x0⟩, ⟨5, 1, .ro, 0x0⟩, ⟨6, 1, .ro, 0x0⟩, ⟨7, 1, .ro, 0x0⟩, ⟨8, 1, .wo, 0x0⟩]
  | .CX_SC_SSCI => [⟨0, 32, .rw, 0x0⟩]
  | .CX_SC_SCI => [⟨0, 64, .rw, 0x0⟩]
  | .CX_SC_PN => [⟨0, 64, .rw, 0x1⟩]
  | .CX_SC_THR => [⟨0, 64, .rw, 0xc0000000⟩]
  | .CX_SC_KCV => [⟨0, 24, .ro, 0x0⟩]
  | .CX_SC_PKTS => [⟨0, 64, .rc, 0x0⟩]
  | .CX_SC_ERR => [⟨0, 16, .rc, 0x0⟩, ⟨16, 16, .rc, 0x0⟩]
  | .CX_ROOT_KEY => [⟨0, 32, .wo, 0x0⟩]
  | .CX_ROOT_CTRL => [⟨0, 1, .wo, 0x0⟩, ⟨8, 8, .wo, 0x0⟩]
  | .CX_ROOT_STAT => [⟨0, 4, .ro, 0x0⟩, ⟨4, 4, .ro, 0x0⟩, ⟨8, 2, .ro, 0x0⟩, ⟨10, 1, .ro, 0x0⟩]
  | .CX_ROOT_KCV => [⟨0, 24, .ro, 0x0⟩]
  | .CX_KEK_STAT => [⟨0, 64, .ro, 0x0⟩]
  | .CX_KEK_CLEAR => [⟨0, 64, .wo, 0x0⟩]
  | .CX_UNW_RES => [⟨0, 1, .rs, 0x0⟩, ⟨1, 1, .rs, 0x0⟩, ⟨2, 1, .rs, 0x1⟩, ⟨4, 4, .rs, 0x0⟩, ⟨16, 16, .rs, 0x0⟩]
  | .CX_UNW_KCV => [⟨0, 24, .rs, 0x0⟩]
  | .CX_BLOB_W => [⟨0, 64, .wo, 0x0⟩]
  | .CX_BLOB_GO => [⟨0, 1, .wo, 0x0⟩]
  | .CX_BLOB_SEQ => [⟨0, 16, .ro, 0x0⟩, ⟨16, 1, .ro, 0x0⟩]
  -- spec/16_power.md, R525
  | .PW_STATUS => [⟨0, 3, .ro, 0x0⟩, ⟨3, 1, .ro, 0x0⟩, ⟨4, 4, .ro, 0x0⟩]
  | .PW_CTRL => [⟨0, 3, .rw, 0x3⟩, ⟨3, 1, .rw, 0x0⟩, ⟨4, 1, .wo, 0x0⟩, ⟨5, 1, .wo, 0x0⟩, ⟨8, 8, .wo, 0x0⟩]
  | .PW_CFG => [⟨0, 16, .rw, 0x3e8⟩]
  | .PW_ASLEEP => [⟨0, 8, .rc, 0x0⟩, ⟨8, 8, .rc, 0x0⟩, ⟨16, 8, .rc, 0x0⟩, ⟨24, 8, .rc, 0x0⟩]
  | .PW_PICK_DEST => [⟨0, 45, .rw, 0x0⟩, ⟨63, 1, .rw, 0x0⟩]
  | .PW_VOTE_HOST => [⟨1, 12, .rw, 0x0⟩]
  | .PW_VOTE_SER => [⟨1, 12, .rw, 0x0⟩]
  | .PW_TK_LOST => [⟨0, 64, .rc, 0x0⟩]
  | .PW_DOM_STATUS => [⟨0, 3, .ro, 0x0⟩, ⟨3, 1, .ro, 0x0⟩, ⟨4, 1, .ro, 0x0⟩, ⟨5, 3, .ro, 0x3⟩]
  | .PW_DOM_VOTES => [⟨0, 32, .ro, 0x0⟩]
  | .PW_DOM_TARGET => [⟨0, 3, .rw, 0x0⟩, ⟨31, 1, .rw, 0x0⟩]
  | .PW_DOM_WAKE => [⟨0, 32, .rw, 0x0⟩]
  | .PW_DOM_NEXT => [⟨0, 32, .ro, 0x0⟩, ⟨32, 10, .ro, 0x0⟩, ⟨63, 1, .ro, 0x0⟩]
  | .PW_NEED => [⟨1, 12, .rw, 0x0⟩, ⟨16, 1, .rw, 0x0⟩]
  | .PW_BATT_CTRL => [⟨0, 2, .rw, 0x2⟩, ⟨2, 1, .rw, 0x0⟩, ⟨8, 8, .rw, 0xf⟩]
  | .PW_BATT_THR => [⟨0, 16, .rw, 0x1fe⟩, ⟨16, 16, .rw, 0x1a4⟩]
  | .PW_BATT_STATUS => [⟨0, 16, .ro, 0x0⟩, ⟨16, 1, .ro, 0x0⟩, ⟨17, 1, .ro, 0x0⟩]
  | .KT_SAVE_ADDR => [⟨2, 17, .rw, 0x0⟩, ⟨31, 1, .rw, 0x0⟩]
  | .KT_SAVE_DATA => [⟨0, 32, .rw, 0x0⟩]
  | .PW_GOV_STATUS => [⟨0, 10, .ro, 0x35c⟩, ⟨10, 10, .ro, 0x0⟩, ⟨20, 1, .ro, 0x0⟩, ⟨21, 1, .ro, 0x0⟩]
  | .PW_GOV_CFG => [⟨0, 8, .rw, 0x28⟩, ⟨8, 16, .rw, 0x3e8⟩]
  | .PW_GOV_TJ => [⟨0, 16, .ro, 0x0⟩]
  -- spec/17_command_ports.md, R553
  | .MG_PCIE_STATUS => [⟨0, 3, .ro, 0x0⟩, ⟨3, 3, .ro, 0x0⟩, ⟨6, 1, .ro, 0x0⟩]
  | .MG_BAR2_WIN => [⟨0, 3, .rw, 0x0⟩, ⟨8, 5, .rw, 0x0⟩]
  | .MG_HOST_CNT => [⟨0, 16, .rc, 0x0⟩, ⟨16, 16, .rc, 0x0⟩]
  | .MG_RING_BASE => [⟨0, 64, .rw, 0x0⟩]
  | .MG_RING_CTRL => [⟨0, 1, .rw, 0x0⟩, ⟨8, 4, .rw, 0xa⟩]
  | .MG_RING_WR => [⟨0, 16, .ro, 0x0⟩]
  | .MG_RING_RD => [⟨0, 16, .rw, 0x0⟩]
  | .MG_RING_LOST => [⟨0, 32, .rc, 0x0⟩]
  | .MG_EVT_CFG => [⟨0, 1, .rw, 0x1⟩, ⟨8, 10, .rw, 0x0⟩, ⟨24, 8, .rw, 0x0⟩]
  | .MG_VEC_MOD => [⟨0, 16, .rw, 0x0⟩, ⟨16, 8, .rw, 0x1⟩]
  -- spec/17_command_ports.md, R552
  | .MG_MSIX_ADDR => [⟨0, 64, .rw, 0x0⟩]
  | .MG_MSIX_DATA => [⟨0, 32, .rw, 0x0⟩]
  | .MG_MSIX_CTRL => [⟨0, 1, .rw, 0x1⟩]
  | .MG_MSIX_PBA => [⟨0, 64, .ro, 0x0⟩]
  -- spec/17_command_ports.md, R553
  | .MG_DELEG => [⟨0, 1, .rw, 0x0⟩, ⟨1, 1, .rw, 0x0⟩, ⟨2, 1, .rw, 0x0⟩]
  | .MG_AUTH_CNT => [⟨0, 16, .rc, 0x0⟩, ⟨16, 16, .rc, 0x0⟩]
  | .MG_PROXY_ADDR => [⟨0, 32, .rw, 0x0⟩]
  | .MG_PROXY_DATA => [⟨0, 32, .rw, 0x0⟩]
  | .MG_PROXY_CTRL => [⟨0, 1, .wo, 0x0⟩, ⟨1, 1, .wo, 0x0⟩]
  | .MG_PROXY_STAT => [⟨0, 1, .rs, 0x0⟩, ⟨1, 1, .rs, 0x0⟩, ⟨2, 1, .rs, 0x1⟩, ⟨4, 4, .rs, 0x0⟩, ⟨8, 8, .rs, 0x0⟩]
  | .MG_SER_STATUS => [⟨0, 7, .ro, 0x0⟩]
  | .MG_SER_CNT => [⟨0, 16, .rc, 0x0⟩, ⟨16, 16, .rc, 0x0⟩]
  | .MG_LATCH_STAT => [⟨0, 7, .ro, 0x0⟩, ⟨16, 16, .rc, 0x0⟩]
  | .MG_LATCH_CTRL => [⟨0, 1, .ro, 0x0⟩, ⟨1, 1, .wo, 0x0⟩]
  | .MG_LATCH_HEAD => [⟨0, 32, .ro, 0x0⟩]
  -- spec/18_module.md, R559
  | .PW_THERM => [⟨0, 16, .rw, 0x2af8⟩, ⟨16, 1, .ro, 0x0⟩, ⟨17, 1, .ro, 0x0⟩]


end Sys2Proof.Machine
end

