-- ==== Sys2Proof/Machine/Fields.lean ====
section
/-! DEFINITION. The fields of the control registers by name, as the register tables of spec/ name them: the register, the
lowest bit and the length. Only the fields that the model names are listed. -/
namespace Sys2Proof.Machine

/-- A named field of a register: the register, the lowest bit and the length. -/
structure Fld where
  reg : Reg
  lo : Nat
  len : Nat
deriving DecidableEq, Repr

def Fld.PR_ENG_CTRL_CTXEN : Fld := ⟨.PR_ENG_CTRL, 0, 8⟩
def Fld.PR_ENG_CTRL_SINGLE : Fld := ⟨.PR_ENG_CTRL, 8, 1⟩
def Fld.PR_ENG_CTRL_STEPLIMIT : Fld := ⟨.PR_ENG_CTRL, 16, 16⟩
def Fld.PR_ENG_TRAPDROP_COUNT : Fld := ⟨.PR_ENG_TRAPDROP, 0, 32⟩
def Fld.PR_ENG_ECC_LCORR : Fld := ⟨.PR_ENG_ECC, 0, 16⟩
def Fld.PR_ENG_ECC_SCORR : Fld := ⟨.PR_ENG_ECC, 16, 16⟩
def Fld.PR_MEM_ADDR_ADDR : Fld := ⟨.PR_MEM_ADDR, 0, 17⟩
def Fld.PR_MEM_ADDR_SPACE : Fld := ⟨.PR_MEM_ADDR, 28, 1⟩
def Fld.PR_ENG_PROGDROP_COUNT : Fld := ⟨.PR_ENG_PROGDROP, 0, 32⟩
def Fld.PR_ENG_BOUNCE_BOUNCED : Fld := ⟨.PR_ENG_BOUNCE, 0, 16⟩
def Fld.PR_ENG_BOUNCE_LOST : Fld := ⟨.PR_ENG_BOUNCE, 16, 16⟩
def Fld.PR_HMSG_CTRL_LEN : Fld := ⟨.PR_HMSG_CTRL, 0, 3⟩
def Fld.PR_HMSG_STATUS_CODE : Fld := ⟨.PR_HMSG_STATUS, 0, 8⟩
def Fld.PR_HMSG_STATUS_DONE : Fld := ⟨.PR_HMSG_STATUS, 8, 1⟩
def Fld.PR_HMSG_STATUS_BOUNCED : Fld := ⟨.PR_HMSG_STATUS, 16, 1⟩
def Fld.PR_HMSG_STATUS_BTAG : Fld := ⟨.PR_HMSG_STATUS, 24, 8⟩
def Fld.PR_CTX_MBX_REFUSED : Fld := ⟨.PR_CTX_MBX, 16, 16⟩
def Fld.KT_BOOT_STATUS_STAGE : Fld := ⟨.KT_BOOT_STATUS, 0, 4⟩
def Fld.KT_BOOT_STATUS_FAIL : Fld := ⟨.KT_BOOT_STATUS, 4, 1⟩
def Fld.KT_BOOT_STATUS_HOLDING : Fld := ⟨.KT_BOOT_STATUS, 5, 1⟩
def Fld.KT_BOOT_STATUS_COMPLETE : Fld := ⟨.KT_BOOT_STATUS, 6, 1⟩
def Fld.KT_BOOT_STATUS_TSVALID : Fld := ⟨.KT_BOOT_STATUS, 7, 1⟩
def Fld.KT_BOOT_STATUS_FAILDOM : Fld := ⟨.KT_BOOT_STATUS, 8, 4⟩
def Fld.KT_BOOT_STATUS_FAILBLK : Fld := ⟨.KT_BOOT_STATUS, 12, 8⟩
def Fld.KT_BOOT_CTRL_HOLD : Fld := ⟨.KT_BOOT_CTRL, 0, 1⟩
def Fld.KT_BOOT_CTRL_GSF : Fld := ⟨.KT_BOOT_CTRL, 4, 1⟩
def Fld.KT_BOOT_CTRL_GTIME : Fld := ⟨.KT_BOOT_CTRL, 5, 1⟩
def Fld.KT_BOOT_CTRL_GPOW : Fld := ⟨.KT_BOOT_CTRL, 6, 1⟩
def Fld.KT_RESET_CAUSE_CAUSE : Fld := ⟨.KT_RESET_CAUSE, 0, 4⟩
def Fld.KT_RESET_CAUSE_COUNT : Fld := ⟨.KT_RESET_CAUSE, 8, 8⟩
def Fld.KT_WDOG_EN : Fld := ⟨.KT_WDOG, 0, 1⟩
def Fld.KT_WDOG_ACTION : Fld := ⟨.KT_WDOG, 1, 1⟩
def Fld.KT_WDOG_TIMEOUT : Fld := ⟨.KT_WDOG, 8, 8⟩
def Fld.PR_LOAD_STATUS_BUSY : Fld := ⟨.PR_LOAD_STATUS, 8, 1⟩
def Fld.PR_STM_ADDR_ADDR : Fld := ⟨.PR_STM_ADDR, 0, 24⟩
def Fld.KT_SITE_CTRL_VVALID : Fld := ⟨.KT_SITE_CTRL, 0, 1⟩
def Fld.KT_SITE_CTRL_SVALID : Fld := ⟨.KT_SITE_CTRL, 1, 1⟩
def Fld.KT_SITE_CTRL_LOCK : Fld := ⟨.KT_SITE_CTRL, 2, 1⟩
def Fld.KT_SITE_CTRL_REFUSED : Fld := ⟨.KT_SITE_CTRL, 8, 8⟩
def Fld.OP_DS_STATUS_RXON : Fld := ⟨.OP_DS_STATUS, 0, 4⟩
def Fld.OP_DS_STATUS_WIDE : Fld := ⟨.OP_DS_STATUS, 4, 1⟩
def Fld.OP_DS_STATUS_LOS : Fld := ⟨.OP_DS_STATUS, 8, 4⟩
def Fld.OP_DS_STATUS_SETTLED : Fld := ⟨.OP_DS_STATUS, 12, 4⟩
def Fld.OP_DS_POWER_VALID : Fld := ⟨.OP_DS_POWER, 31, 1⟩
def Fld.TC_DS_MODE_BONDEN : Fld := ⟨.TC_DS_MODE, 0, 1⟩
def Fld.TC_DS_MODE_BONDED : Fld := ⟨.TC_DS_MODE, 1, 1⟩
def Fld.TC_DS_MODE_MEMBERS : Fld := ⟨.TC_DS_MODE, 2, 4⟩
def Fld.TC_DS_MODE_INSYNC : Fld := ⟨.TC_DS_MODE, 6, 4⟩
def Fld.TC_SLEEP_CTRL_DOZEEN : Fld := ⟨.TC_SLEEP_CTRL, 0, 1⟩
def Fld.TC_SLEEP_CTRL_WSEN : Fld := ⟨.TC_SLEEP_CTRL, 1, 1⟩
def Fld.TC_SLEEP_CTRL_IDLE : Fld := ⟨.TC_SLEEP_CTRL, 8, 8⟩
def Fld.TC_SLEEP_PARAM_ILOWPOWER : Fld := ⟨.TC_SLEEP_PARAM, 0, 16⟩
def Fld.TC_SLEEP_PARAM_IAWARE : Fld := ⟨.TC_SLEEP_PARAM, 16, 16⟩
def Fld.TC_SLEEP_STATUS_STATE : Fld := ⟨.TC_SLEEP_STATUS, 0, 3⟩
def Fld.TC_SLEEP_STATUS_ALLOWED : Fld := ⟨.TC_SLEEP_STATUS, 3, 1⟩
def Fld.TC_DS_GRP_CTRL_CAP : Fld := ⟨.TC_DS_GRP_CTRL, 0, 16⟩
def Fld.TC_DS_GRP_EXPECT_EXPECT : Fld := ⟨.TC_DS_GRP_EXPECT, 0, 24⟩
def Fld.TC_DS_GRP_EXPECT_EVALID : Fld := ⟨.TC_DS_GRP_EXPECT, 31, 1⟩
def Fld.TC_DS_GRP_HELD_BYTES : Fld := ⟨.TC_DS_GRP_HELD, 0, 32⟩
def Fld.TC_DS_GRP_SKIPTO_COUNT : Fld := ⟨.TC_DS_GRP_SKIPTO, 0, 32⟩
def Fld.TC_DS_GRP_SKIPPASS_COUNT : Fld := ⟨.TC_DS_GRP_SKIPPASS, 0, 32⟩
def Fld.TC_DS_GRP_LATE_COUNT : Fld := ⟨.TC_DS_GRP_LATE, 0, 32⟩
def Fld.TC_DS_GRP_OVF_COUNT : Fld := ⟨.TC_DS_GRP_OVF, 0, 32⟩
def Fld.TC_DS_GRP_HDRERR_COUNT : Fld := ⟨.TC_DS_GRP_HDRERR, 0, 32⟩
def Fld.TC_DS_PORTID_PORTID : Fld := ⟨.TC_DS_PORTID, 0, 16⟩
def Fld.TC_DS_PORTID_VALID : Fld := ⟨.TC_DS_PORTID, 16, 1⟩
def Fld.TC_DS_PORTID_BONDED : Fld := ⟨.TC_DS_PORTID, 17, 1⟩
def Fld.TC_DS_PORTID_GRP : Fld := ⟨.TC_DS_PORTID, 18, 2⟩
def Fld.TC_DS_PORTID_KIND : Fld := ⟨.TC_DS_PORTID, 20, 2⟩
def Fld.TC_DS_PORTID_ENCREQ : Fld := ⟨.TC_DS_PORTID, 22, 1⟩
def Fld.TC_DSC_STATUS_SYNC : Fld := ⟨.TC_DSC_STATUS, 0, 3⟩
def Fld.TC_DSC_STATUS_MEMBER : Fld := ⟨.TC_DSC_STATUS, 3, 1⟩
def Fld.TC_DSC_STATUS_SD : Fld := ⟨.TC_DSC_STATUS, 4, 1⟩
def Fld.TC_DSC_STATUS_SF : Fld := ⟨.TC_DSC_STATUS, 5, 1⟩
def Fld.TC_DSC_STATUS_MISSED : Fld := ⟨.TC_DSC_STATUS, 6, 2⟩
def Fld.TC_DSC_SFC_SFC : Fld := ⟨.TC_DSC_SFC, 0, 51⟩
def Fld.TC_DSC_CW_COUNT : Fld := ⟨.TC_DSC_CW, 0, 64⟩
def Fld.TC_DSC_CORR_COUNT : Fld := ⟨.TC_DSC_CORR, 0, 64⟩
def Fld.TC_DSC_UNCORR_COUNT : Fld := ⟨.TC_DSC_UNCORR, 0, 64⟩
def Fld.TC_DSC_HEC_PSBD : Fld := ⟨.TC_DSC_HEC, 0, 16⟩
def Fld.TC_DSC_HEC_XGEM : Fld := ⟨.TC_DSC_HEC, 16, 16⟩
def Fld.TC_DSC_DROP_PORTMISS : Fld := ⟨.TC_DSC_DROP, 0, 16⟩
def Fld.TC_DSC_DROP_KEY : Fld := ⟨.TC_DSC_DROP, 16, 16⟩
def Fld.TC_DSC_CORR1S_BITS : Fld := ⟨.TC_DSC_CORR1S, 0, 32⟩
def Fld.TC_DSC_SDTHR_BITS : Fld := ⟨.TC_DSC_SDTHR, 0, 32⟩
def Fld.TC_DSC_SFTHR_COUNT : Fld := ⟨.TC_DSC_SFTHR, 0, 16⟩
def Fld.TC_DSC_OVF_COUNT : Fld := ⟨.TC_DSC_OVF, 0, 32⟩
def Fld.TC_DSC_SNAPSTAT_MISSED : Fld := ⟨.TC_DSC_SNAPSTAT, 3, 1⟩
def Fld.TC_DSC_SNAPSTAT_SEQ : Fld := ⟨.TC_DSC_SNAPSTAT, 8, 8⟩
def Fld.TC_DSC_SNAPTS_TS : Fld := ⟨.TC_DSC_SNAPTS, 0, 40⟩
def Fld.TC_DSC_FCSERR_FCS : Fld := ⟨.TC_DSC_FCSERR, 0, 16⟩
def Fld.TC_DSC_FCSERR_LONG : Fld := ⟨.TC_DSC_FCSERR, 16, 16⟩
def Fld.TC_DSC_FRLOST_COUNT : Fld := ⟨.TC_DSC_FRLOST, 0, 32⟩
def Fld.TC_ACT_STATUS_STATE : Fld := ⟨.TC_ACT_STATUS, 0, 4⟩
def Fld.TC_ACT_STATUS_CAUSE : Fld := ⟨.TC_ACT_STATUS, 4, 4⟩
def Fld.TC_ACT_STATUS_REF : Fld := ⟨.TC_ACT_STATUS, 8, 2⟩
def Fld.TC_ACT_STATUS_ONUID : Fld := ⟨.TC_ACT_STATUS, 16, 10⟩
def Fld.TC_ACT_STATUS_IDVALID : Fld := ⟨.TC_ACT_STATUS, 26, 1⟩
def Fld.TC_ACT_CTRL_HOLD : Fld := ⟨.TC_ACT_CTRL, 1, 1⟩
def Fld.TC_DISC_MAXEXP : Fld := ⟨.TC_DISC, 0, 4⟩
def Fld.TC_DISC_EXP : Fld := ⟨.TC_DISC, 4, 4⟩
def Fld.TC_DISC_SKIP : Fld := ⟨.TC_DISC, 8, 10⟩
def Fld.TC_PLOAM_TARGET_EN : Fld := ⟨.TC_PLOAM_TARGET, 63, 1⟩
def Fld.TC_PLOAM_CNT_MICFAIL : Fld := ⟨.TC_PLOAM_CNT, 0, 8⟩
def Fld.TC_PLOAM_CNT_UNSUP : Fld := ⟨.TC_PLOAM_CNT, 8, 8⟩
def Fld.TC_PLOAM_CNT_OVF : Fld := ⟨.TC_PLOAM_CNT, 16, 8⟩
def Fld.TC_PLOAM_CNT_OMCIOVF : Fld := ⟨.TC_PLOAM_CNT, 24, 8⟩
def Fld.TC_VPLOAM_CTRL_TYPE : Fld := ⟨.TC_VPLOAM_CTRL, 0, 8⟩
def Fld.TC_VPLOAM_CTRL_ASYMEN : Fld := ⟨.TC_VPLOAM_CTRL, 8, 1⟩
def Fld.TC_VPLOAM_CTRL_PREDEN : Fld := ⟨.TC_VPLOAM_CTRL, 9, 1⟩
def Fld.TC_VPLOAM_CTRL_HELLO : Fld := ⟨.TC_VPLOAM_CTRL, 16, 1⟩
def Fld.TC_VPLOAM_CTRL_BONDAG : Fld := ⟨.TC_VPLOAM_CTRL, 17, 1⟩
def Fld.TC_VPLOAM_CTRL_ASYMAG : Fld := ⟨.TC_VPLOAM_CTRL, 18, 1⟩
def Fld.TC_VPLOAM_CTRL_IGNORED : Fld := ⟨.TC_VPLOAM_CTRL, 24, 8⟩
def Fld.TC_RNG_EQD_EQD : Fld := ⟨.TC_RNG_EQD, 0, 31⟩
def Fld.TC_RNG_EQD_VALID : Fld := ⟨.TC_RNG_EQD, 31, 1⟩
def Fld.TC_OMCI_RXRING_BASE : Fld := ⟨.TC_OMCI_RXRING, 0, 40⟩
def Fld.TC_OMCI_RXRING_ENTRIES : Fld := ⟨.TC_OMCI_RXRING, 40, 12⟩
def Fld.TC_OMCI_RXPTR_WR : Fld := ⟨.TC_OMCI_RXPTR, 0, 12⟩
def Fld.TC_OMCI_RXPTR_RD : Fld := ⟨.TC_OMCI_RXPTR, 16, 12⟩
def Fld.TC_RNG_TEQD_TEQD : Fld := ⟨.TC_RNG_TEQD, 0, 31⟩
def Fld.TC_RNG_TEQD_VALID : Fld := ⟨.TC_RNG_TEQD, 31, 1⟩
def Fld.TC_ACT_REGID_REGID : Fld := ⟨.TC_ACT_REGID, 0, 32⟩
def Fld.TC_PAIR_RT_RT : Fld := ⟨.TC_PAIR_RT, 0, 40⟩
def Fld.TC_PAIR_RT_SEQ : Fld := ⟨.TC_PAIR_RT, 40, 8⟩
def Fld.TC_PAIR_RT_TSV : Fld := ⟨.TC_PAIR_RT, 62, 1⟩
def Fld.TC_PAIR_RT_VALID : Fld := ⟨.TC_PAIR_RT, 63, 1⟩
def Fld.KT_ESTOP_LATCH : Fld := ⟨.KT_ESTOP, 0, 1⟩
def Fld.OP_WD_STATUS_TRIP0 : Fld := ⟨.OP_WD_STATUS, 0, 1⟩
def Fld.OP_WD_STATUS_TRIP1 : Fld := ⟨.OP_WD_STATUS, 1, 1⟩
def Fld.OP_WD_STATUS_CAUSE0 : Fld := ⟨.OP_WD_STATUS, 2, 2⟩
def Fld.OP_WD_STATUS_CAUSE1 : Fld := ⟨.OP_WD_STATUS, 4, 2⟩
def Fld.OP_WD_STATUS_COUNT0 : Fld := ⟨.OP_WD_STATUS, 8, 8⟩
def Fld.OP_WD_STATUS_COUNT1 : Fld := ⟨.OP_WD_STATUS, 16, 8⟩
def Fld.TT_ASYM_CTRL_FORCEPROG : Fld := ⟨.TT_ASYM_CTRL, 1, 1⟩
def Fld.TT_ASYM_MODEL_L0 : Fld := ⟨.TT_ASYM_MODEL, 0, 18⟩
def Fld.TT_ASYM_MODEL_S0 : Fld := ⟨.TT_ASYM_MODEL, 18, 14⟩
def Fld.TT_ASYM_STAT_NOTREADY : Fld := ⟨.TT_ASYM_STAT, 2, 1⟩
def Fld.TT_ASYM_STAT_PROG : Fld := ⟨.TT_ASYM_STAT, 3, 1⟩
def Fld.TT_ASYM_STAT_REJECTED : Fld := ⟨.TT_ASYM_STAT, 4, 1⟩
def Fld.TT_ASYM_STAT_SEQ : Fld := ⟨.TT_ASYM_STAT, 8, 8⟩
def Fld.TT_ASYM_STAT_PAIRS : Fld := ⟨.TT_ASYM_STAT, 16, 8⟩
def Fld.TT_ASYM_STAT_RMS : Fld := ⟨.TT_ASYM_STAT, 24, 8⟩
def Fld.TT_ASYM_FIT_L0 : Fld := ⟨.TT_ASYM_FIT, 0, 18⟩
def Fld.TT_ASYM_FIT_P : Fld := ⟨.TT_ASYM_FIT, 32, 16⟩
def Fld.TT_ASYM_DS_DELAY : Fld := ⟨.TT_ASYM_DS, 0, 40⟩
def Fld.TT_ASYM_US_DELAY : Fld := ⟨.TT_ASYM_US, 0, 40⟩
def Fld.TM_ALLOC_MAP_ALLOCID : Fld := ⟨.TM_ALLOC_MAP, 0, 14⟩
def Fld.TM_ALLOC_MAP_BOUND : Fld := ⟨.TM_ALLOC_MAP, 14, 1⟩
def Fld.TM_ALLOC_MAP_EN : Fld := ⟨.TM_ALLOC_MAP, 15, 1⟩
def Fld.TM_ALLOC_MAP_NQ : Fld := ⟨.TM_ALLOC_MAP, 16, 2⟩
def Fld.TM_ALLOC_MAP_PRED : Fld := ⟨.TM_ALLOC_MAP, 18, 1⟩
def Fld.TM_ALLOC_MAP_PAGREE : Fld := ⟨.TM_ALLOC_MAP, 19, 1⟩
def Fld.TM_ALLOC_Q_PORTID : Fld := ⟨.TM_ALLOC_Q, 0, 16⟩
def Fld.TM_ALLOC_Q_HOLD : Fld := ⟨.TM_ALLOC_Q, 16, 1⟩
def Fld.TM_ALLOC_Q_EXPRESS : Fld := ⟨.TM_ALLOC_Q, 17, 1⟩
def Fld.TM_ALLOC_Q_UCSEL : Fld := ⟨.TM_ALLOC_Q, 18, 2⟩
def Fld.TM_ALLOC_Q_GRP : Fld := ⟨.TM_ALLOC_Q, 20, 2⟩
def Fld.TM_ALLOC_Q_ENC : Fld := ⟨.TM_ALLOC_Q, 22, 1⟩
def Fld.TM_ALLOC_HOLD_STATE : Fld := ⟨.TM_ALLOC_HOLD, 0, 2⟩
def Fld.TM_ALLOC_LASTGRANT_NS : Fld := ⟨.TM_ALLOC_LASTGRANT, 0, 32⟩
def Fld.TM_HOLD_CTRL_EN : Fld := ⟨.TM_HOLD_CTRL, 0, 1⟩
def Fld.TM_HOLD_BUDGET_BYTES : Fld := ⟨.TM_HOLD_BUDGET, 0, 36⟩
def Fld.TM_HOLD_DRAIN_RATE : Fld := ⟨.TM_HOLD_DRAIN, 0, 16⟩
def Fld.TM_HOLD_DRAIN_OVH : Fld := ⟨.TM_HOLD_DRAIN, 16, 8⟩
def Fld.TM_HOLD_DRAIN_BURST : Fld := ⟨.TM_HOLD_DRAIN, 24, 8⟩
def Fld.TM_HOLD_DROP_BYTES : Fld := ⟨.TM_HOLD_DROP, 0, 64⟩
def Fld.TM_HOLD_EXPIRED_BYTES : Fld := ⟨.TM_HOLD_EXPIRED, 0, 64⟩
def Fld.TM_PRED_VAL_BYTES : Fld := ⟨.TM_PRED_VAL, 0, 30⟩
def Fld.TM_PRED_VAL_READY : Fld := ⟨.TM_PRED_VAL, 31, 1⟩
def Fld.TC_US_MODE_UC1USE : Fld := ⟨.TC_US_MODE, 0, 1⟩
def Fld.TC_US_MODE_WORKING : Fld := ⟨.TC_US_MODE, 1, 2⟩
def Fld.TC_US_MODE_MAPCH : Fld := ⟨.TC_US_MODE, 3, 2⟩
def Fld.TC_US_MODE_MAPV : Fld := ⟨.TC_US_MODE, 5, 1⟩
def Fld.TC_USC_PROF_VALID : Fld := ⟨.TC_USC_PROF, 0, 1⟩
def Fld.TC_USC_PROF_RATE : Fld := ⟨.TC_USC_PROF, 1, 1⟩
def Fld.TC_USC_PROF_PREAMBLE : Fld := ⟨.TC_USC_PROF, 16, 10⟩
def Fld.TC_USC_PROF_DELIM : Fld := ⟨.TC_USC_PROF, 26, 6⟩
def Fld.TC_USC_BURSTS_COUNT : Fld := ⟨.TC_USC_BURSTS, 0, 64⟩
def Fld.TC_USC_BYTES_COUNT : Fld := ⟨.TC_USC_BYTES, 0, 64⟩
def Fld.TC_USC_LATE_LATE : Fld := ⟨.TC_USC_LATE, 0, 16⟩
def Fld.TC_USC_LATE_EXCESS : Fld := ⟨.TC_USC_LATE, 16, 16⟩
def Fld.TC_USC_HEC_HEC : Fld := ⟨.TC_USC_HEC, 0, 16⟩
def Fld.TC_USC_HEC_PROF : Fld := ⟨.TC_USC_HEC, 16, 16⟩
def Fld.TC_USC_IDLE_BYTES : Fld := ⟨.TC_USC_IDLE, 0, 64⟩
def Fld.TC_USC_CUT_BURSTS : Fld := ⟨.TC_USC_CUT, 0, 16⟩
def Fld.TC_USC_CUT_FRAMES : Fld := ⟨.TC_USC_CUT, 16, 16⟩
def Fld.TC_USC_DROP_XOVER : Fld := ⟨.TC_USC_DROP, 0, 16⟩
def Fld.TC_USC_DROP_UNBOUND : Fld := ⟨.TC_USC_DROP, 16, 16⟩
def Fld.TB_STATUS_SETDONE : Fld := ⟨.TB_STATUS, 0, 1⟩
def Fld.TB_STATUS_TSVALID : Fld := ⟨.TB_STATUS, 1, 1⟩
def Fld.TB_STATUS_INBAND : Fld := ⟨.TB_STATUS, 2, 1⟩
def Fld.TB_STATUS_REFUSED : Fld := ⟨.TB_STATUS, 8, 8⟩
def Fld.TB_PPSOUT_NEXT_NS : Fld := ⟨.TB_PPSOUT_NEXT, 0, 32⟩
def Fld.TB_PPSOUT_CTRL_EN : Fld := ⟨.TB_PPSOUT_CTRL, 0, 1⟩
def Fld.TB_PPSOUT_CTRL_AUTO : Fld := ⟨.TB_PPSOUT_CTRL, 1, 1⟩
def Fld.TB_PPSOUT_CTRL_ARMED : Fld := ⟨.TB_PPSOUT_CTRL, 2, 1⟩
def Fld.TB_PPSOUT_CTRL_WIDTH : Fld := ⟨.TB_PPSOUT_CTRL, 8, 23⟩
def Fld.TB_PPSOUT_COMP_COMP : Fld := ⟨.TB_PPSOUT_COMP, 0, 24⟩
def Fld.TB_PPSIN_COMP_COMP : Fld := ⟨.TB_PPSIN_COMP, 0, 24⟩
def Fld.TB_CLK10_CTRL_EN : Fld := ⟨.TB_CLK10_CTRL, 0, 1⟩
def Fld.TB_PPSIN_STAT_LOST : Fld := ⟨.TB_PPSIN_STAT, 3, 1⟩
def Fld.TB_PPSIN_STAT_SEQ : Fld := ⟨.TB_PPSIN_STAT, 8, 8⟩
def Fld.TB_TODIN_STAT_SEQ : Fld := ⟨.TB_TODIN_STAT, 8, 8⟩
def Fld.TB_PPSIN_TS_TS : Fld := ⟨.TB_PPSIN_TS, 0, 40⟩
def Fld.TB_TODOUT_CTRL_EN : Fld := ⟨.TB_TODOUT_CTRL, 0, 1⟩
def Fld.TB_TODOUT_CTRL_FULL : Fld := ⟨.TB_TODOUT_CTRL, 1, 1⟩
def Fld.TB_TODOUT_CTRL_LEN : Fld := ⟨.TB_TODOUT_CTRL, 2, 7⟩
def Fld.TB_TODOUT_CTRL_DELAY : Fld := ⟨.TB_TODOUT_CTRL, 16, 10⟩
def Fld.TB_IO_CNT_PPSGLITCH : Fld := ⟨.TB_IO_CNT, 0, 8⟩
def Fld.TB_IO_CNT_TODINERR : Fld := ⟨.TB_IO_CNT, 8, 8⟩
def Fld.TB_IO_CNT_TODOUTMISS : Fld := ⟨.TB_IO_CNT, 16, 8⟩
def Fld.KT_OVEN_STATUS_DEV : Fld := ⟨.KT_OVEN_STATUS, 0, 16⟩
def Fld.KT_OVEN_STATUS_HEATER : Fld := ⟨.KT_OVEN_STATUS, 16, 8⟩
def Fld.KT_OVEN_STATUS_INBAND : Fld := ⟨.KT_OVEN_STATUS, 24, 1⟩
def Fld.KT_OVEN_STATUS_FIRST : Fld := ⟨.KT_OVEN_STATUS, 25, 1⟩
def Fld.KT_OVEN_STATUS_TIMEOUT : Fld := ⟨.KT_OVEN_STATUS, 26, 1⟩
def Fld.MC_TS_CTRL_ONESTEP : Fld := ⟨.MC_TS_CTRL, 0, 1⟩
def Fld.MC_TS_ADJ_RX : Fld := ⟨.MC_TS_ADJ, 0, 16⟩
def Fld.MC_TS_ADJ_TX : Fld := ⟨.MC_TS_ADJ, 16, 16⟩
def Fld.MC_TS_CNT_MOD : Fld := ⟨.MC_TS_CNT, 0, 16⟩
def Fld.MC_TS_CNT_SKIP : Fld := ⟨.MC_TS_CNT, 16, 8⟩
def Fld.MC_TS_CNT_ERR : Fld := ⟨.MC_TS_CNT, 24, 8⟩
def Fld.TT_SERVO_CTRL_PRIO : Fld := ⟨.TT_SERVO_CTRL, 0, 2⟩
def Fld.TT_SERVO_CTRL_MINCLASS : Fld := ⟨.TT_SERVO_CTRL, 8, 8⟩
def Fld.TT_SERVO_STATUS_STATE : Fld := ⟨.TT_SERVO_STATUS, 0, 3⟩
def Fld.TT_SERVO_STATUS_SRC : Fld := ⟨.TT_SERVO_STATUS, 4, 2⟩
def Fld.TT_SERVO_STATUS_QUAL : Fld := ⟨.TT_SERVO_STATUS, 6, 1⟩
def Fld.TT_SERVO_STATUS_INSPEC : Fld := ⟨.TT_SERVO_STATUS, 7, 1⟩
def Fld.TT_SERVO_STATUS_CLASS : Fld := ⟨.TT_SERVO_STATUS, 8, 8⟩
def Fld.TT_SERVO_STATUS_PROG : Fld := ⟨.TT_SERVO_STATUS, 16, 1⟩
def Fld.TT_SERVO_CFG_BW : Fld := ⟨.TT_SERVO_CFG, 0, 8⟩
def Fld.TT_SERVO_CFG_SLEW : Fld := ⟨.TT_SERVO_CFG, 8, 8⟩
def Fld.TT_SERVO_CFG_LOSS : Fld := ⟨.TT_SERVO_CFG, 16, 4⟩
def Fld.TT_SERVO_CFG_WTR : Fld := ⟨.TT_SERVO_CFG, 20, 8⟩
def Fld.TT_SERVO_THR_LOCKTHR : Fld := ⟨.TT_SERVO_THR, 0, 16⟩
def Fld.TT_SERVO_THR_MISMATCH : Fld := ⟨.TT_SERVO_THR, 16, 16⟩
def Fld.TT_SERVO_PHASE_E : Fld := ⟨.TT_SERVO_PHASE, 0, 32⟩
def Fld.TT_SERVO_TEEST_NS : Fld := ⟨.TT_SERVO_TEEST, 0, 20⟩
def Fld.TT_SERVO_UTC_UTCOFF : Fld := ⟨.TT_SERVO_UTC, 0, 8⟩
def Fld.TT_SERVO_UTC_LEAP : Fld := ⟨.TT_SERVO_UTC, 8, 2⟩
def Fld.TT_SERVO_UTC_BASEV : Fld := ⟨.TT_SERVO_UTC, 31, 1⟩
def Fld.TT_SERVO_XDIFF_NS : Fld := ⟨.TT_SERVO_XDIFF, 0, 32⟩
def Fld.TT_TOD_INFO_CLASS : Fld := ⟨.TT_TOD_INFO, 0, 8⟩
def Fld.TT_TOD_INFO_UTCOFF : Fld := ⟨.TT_TOD_INFO, 8, 8⟩
def Fld.TT_TOD_INFO_LEAP : Fld := ⟨.TT_TOD_INFO, 16, 2⟩
def Fld.TT_TOD_INFO_STEPS : Fld := ⟨.TT_TOD_INFO, 18, 8⟩
def Fld.TT_HO_STATUS_LOCKHRS : Fld := ⟨.TT_HO_STATUS, 0, 16⟩
def Fld.TT_HO_STATUS_FAILS : Fld := ⟨.TT_HO_STATUS, 17, 2⟩
def Fld.TT_HO_CFG_SPEC : Fld := ⟨.TT_HO_CFG, 0, 16⟩
def Fld.TT_HO_CFG_TODKEEP : Fld := ⟨.TT_HO_CFG, 24, 1⟩
def Fld.TT_BC_CTRL_DOM1 : Fld := ⟨.TT_BC_CTRL, 0, 8⟩
def Fld.TT_BC_CTRL_DOM2 : Fld := ⟨.TT_BC_CTRL, 8, 8⟩
def Fld.TT_BC_CTRL_PRI2 : Fld := ⟨.TT_BC_CTRL, 16, 8⟩
def Fld.TT_BC_CNT_IGNORED : Fld := ⟨.TT_BC_CNT, 0, 16⟩
def Fld.TT_BC_CNT_EXCESS : Fld := ⟨.TT_BC_CNT, 16, 16⟩
def Fld.TT_BC_PORT_EN : Fld := ⟨.TT_BC_PORT, 0, 1⟩
def Fld.TT_BC_PORT_PROF : Fld := ⟨.TT_BC_PORT, 1, 1⟩
def Fld.TT_BC_PORT_DA : Fld := ⟨.TT_BC_PORT, 2, 1⟩
def Fld.TT_BC_PORT_TWOSTEP : Fld := ⟨.TT_BC_PORT, 3, 1⟩
def Fld.TT_BC_PORT_LOGMIN : Fld := ⟨.TT_BC_PORT, 4, 4⟩
def Fld.TT_BC_PORT_STATE : Fld := ⟨.TT_BC_PORT, 8, 2⟩
def Fld.TM_PRED_CFG_PERIOD : Fld := ⟨.TM_PRED_CFG, 0, 20⟩
def Fld.PW_CFG_GUARD : Fld := ⟨.PW_CFG, 0, 16⟩
def Fld.TT_TOD_NSEC_NS : Fld := ⟨.TT_TOD_NSEC, 0, 30⟩
def Fld.TT_TOD_STAT_VALID : Fld := ⟨.TT_TOD_STAT, 0, 1⟩
def Fld.TT_TOD_STAT_SEQ : Fld := ⟨.TT_TOD_STAT, 8, 8⟩
def Fld.TT_TOD_STAT_REFUSED : Fld := ⟨.TT_TOD_STAT, 16, 8⟩
def Fld.TT_HO_STATUS_QUAL : Fld := ⟨.TT_HO_STATUS, 16, 1⟩
def Fld.TT_BC_CTRL_CIDV : Fld := ⟨.TT_BC_CTRL, 24, 1⟩
def Fld.LN_CTRL_RXEN : Fld := ⟨.LN_CTRL, 0, 1⟩
def Fld.LN_CTRL_TXEN : Fld := ⟨.LN_CTRL, 1, 1⟩
def Fld.LN_CTRL_MODE : Fld := ⟨.LN_CTRL, 2, 2⟩
def Fld.LN_CTRL_ALLOWED : Fld := ⟨.LN_CTRL, 8, 3⟩
def Fld.LN_CTRL_FECREQ : Fld := ⟨.LN_CTRL, 11, 1⟩
def Fld.LN_CTRL_LOOP : Fld := ⟨.LN_CTRL, 12, 2⟩
def Fld.LN_CTRL_LPIEN : Fld := ⟨.LN_CTRL, 14, 1⟩
def Fld.LN_STATUS_STATE : Fld := ⟨.LN_STATUS, 0, 3⟩
def Fld.LN_STATUS_CURRATE : Fld := ⟨.LN_STATUS, 3, 2⟩
def Fld.LN_STATUS_CURFEC : Fld := ⟨.LN_STATUS, 5, 1⟩
def Fld.LN_STATUS_CURLPI : Fld := ⟨.LN_STATUS, 6, 1⟩
def Fld.LN_STATUS_LOS : Fld := ⟨.LN_STATUS, 7, 1⟩
def Fld.LN_STATUS_TXLPI : Fld := ⟨.LN_STATUS, 8, 1⟩
def Fld.LN_STATUS_RXLPI : Fld := ⟨.LN_STATUS, 9, 1⟩
def Fld.LN_STATUS_TXTEST : Fld := ⟨.LN_STATUS, 10, 1⟩
def Fld.LN_STATUS_TXFAULT : Fld := ⟨.LN_STATUS, 11, 1⟩
def Fld.LN_NEG_TIMER_TIMEOUT : Fld := ⟨.LN_NEG_TIMER, 0, 16⟩
def Fld.LN_NEG_TIMER_RETRY : Fld := ⟨.LN_NEG_TIMER, 16, 16⟩
def Fld.LN_LPI_TXIDLE : Fld := ⟨.LN_LPI, 0, 16⟩
def Fld.MC_PREEMPT_VTIME : Fld := ⟨.MC_PREEMPT, 12, 7⟩
def Fld.LN_CTRL_FEC : Fld := ⟨.LN_CTRL, 6, 1⟩
def Fld.LN_CTRL_RATE : Fld := ⟨.LN_CTRL, 4, 2⟩
def Fld.LN_NEG_PARTNER_PAGE : Fld := ⟨.LN_NEG_PARTNER, 0, 28⟩
def Fld.LN_NEG_PARTNER_VALID : Fld := ⟨.LN_NEG_PARTNER, 31, 1⟩
def Fld.LN_LPI_TXWAKE : Fld := ⟨.LN_LPI, 16, 12⟩
def Fld.LN_PRBS_CTRL_GEN : Fld := ⟨.LN_PRBS_CTRL, 0, 4⟩
def Fld.LN_PRBS_CTRL_CHK : Fld := ⟨.LN_PRBS_CTRL, 4, 4⟩
def Fld.LN_PRBS_CTRL_MODE : Fld := ⟨.LN_PRBS_CTRL, 8, 2⟩
def Fld.LN_PRBS_CTRL_EXP : Fld := ⟨.LN_PRBS_CTRL, 10, 6⟩
def Fld.LN_PRBS_STAT_LOCK : Fld := ⟨.LN_PRBS_STAT, 0, 1⟩
def Fld.LN_PRBS_STAT_LOCKLOST : Fld := ⟨.LN_PRBS_STAT, 16, 16⟩
def Fld.LN_PRBS_ERR_COUNT : Fld := ⟨.LN_PRBS_ERR, 0, 64⟩
def Fld.LN_PRBS_BITS_COUNT : Fld := ⟨.LN_PRBS_BITS, 0, 64⟩
def Fld.LN_BOL_CNT_STUFFERR : Fld := ⟨.LN_BOL_CNT, 0, 8⟩
def Fld.LN_BOL_CNT_ALIGNLOSS : Fld := ⟨.LN_BOL_CNT, 8, 8⟩
def Fld.LN_BOL_CNT_PAGEERR : Fld := ⟨.LN_BOL_CNT, 16, 8⟩
def Fld.LN_BOL_CNT_UNKNOWN : Fld := ⟨.LN_BOL_CNT, 24, 8⟩
def Fld.LN_REF_LOCK : Fld := ⟨.LN_REF, 0, 4⟩
def Fld.LN_BUDGET_REFUSED_COUNT : Fld := ⟨.LN_BUDGET_REFUSED, 0, 16⟩
def Fld.MC_CFG_MAXLEN : Fld := ⟨.MC_CFG, 0, 14⟩
def Fld.MC_PREEMPT_EXPRESS : Fld := ⟨.MC_PREEMPT, 0, 8⟩
def Fld.MC_PREEMPT_PREEN : Fld := ⟨.MC_PREEMPT, 8, 1⟩
def Fld.MC_PREEMPT_VERIFY : Fld := ⟨.MC_PREEMPT, 9, 1⟩
def Fld.MC_PREEMPT_ADDFRAG : Fld := ⟨.MC_PREEMPT, 10, 2⟩
def Fld.MC_PREEMPT_STATUS_VSTATUS : Fld := ⟨.MC_PREEMPT_STATUS, 0, 3⟩
def Fld.MC_PREEMPT_STATUS_ACTIVE : Fld := ⟨.MC_PREEMPT_STATUS, 3, 1⟩
def Fld.MC_PREEMPT_STATUS_HELD : Fld := ⟨.MC_PREEMPT_STATUS, 4, 1⟩
def Fld.MC_CSUM_CTRL_IP4 : Fld := ⟨.MC_CSUM_CTRL, 0, 8⟩
def Fld.MC_CSUM_CTRL_L4 : Fld := ⟨.MC_CSUM_CTRL, 8, 8⟩
def Fld.MC_ROLE_GEN : Fld := ⟨.MC_ROLE, 0, 8⟩
def Fld.MC_CSUM_CNT_SKIPIP : Fld := ⟨.MC_CSUM_CNT, 0, 16⟩
def Fld.MC_CSUM_CNT_SKIPL4 : Fld := ⟨.MC_CSUM_CNT, 16, 16⟩
def Fld.GT_CTRL_PC : Fld := ⟨.GT_CTRL, 16, 16⟩
def Fld.GT_GATES_OPEN : Fld := ⟨.GT_GATES, 0, 8⟩
def Fld.GT_CNT_LATE : Fld := ⟨.GT_CNT, 0, 16⟩
def Fld.GT_CNT_DRY : Fld := ⟨.GT_CNT, 16, 16⟩
def Fld.GT_LOAD_STATUS_BUSY : Fld := ⟨.GT_LOAD_STATUS, 8, 1⟩
def Fld.SV_CTRL_EN : Fld := ⟨.SV_CTRL, 0, 1⟩
def Fld.SV_RS_CTRL_ACTIVE : Fld := ⟨.SV_RS_CTRL, 0, 1⟩
def Fld.SV_ACT_INDEX_FLOW : Fld := ⟨.SV_ACT_INDEX, 0, 16⟩
def Fld.SV_FS_INDEX_FLOW : Fld := ⟨.SV_FS_INDEX, 0, 16⟩
def Fld.SV_PORT_CFG_KIP4 : Fld := ⟨.SV_PORT_CFG, 0, 4⟩
def Fld.SV_PORT_CFG_KIP6 : Fld := ⟨.SV_PORT_CFG, 4, 4⟩
def Fld.SV_PORT_CFG_KECPRI : Fld := ⟨.SV_PORT_CFG, 8, 4⟩
def Fld.SV_PORT_CFG_KOTHER : Fld := ⟨.SV_PORT_CFG, 12, 4⟩
def Fld.SV_PORT_CFG_KPORT : Fld := ⟨.SV_PORT_CFG, 16, 1⟩
def Fld.SV_PORT_CFG_PTPTRAP : Fld := ⟨.SV_PORT_CFG, 17, 1⟩
def Fld.SV_PORT_CFG_FRAGBB : Fld := ⟨.SV_PORT_CFG, 18, 1⟩
def Fld.SV_EM_INDEX_INDEX : Fld := ⟨.SV_EM_INDEX, 0, 17⟩
def Fld.SV_TR_INDEX_INDEX : Fld := ⟨.SV_TR_INDEX, 0, 13⟩
def Fld.SV_BB_CNT_FULL : Fld := ⟨.SV_BB_CNT, 0, 8⟩
def Fld.SV_BB_CNT_WAITOVF : Fld := ⟨.SV_BB_CNT, 8, 8⟩
def Fld.SV_BB_CTRL_FRAGWAIT : Fld := ⟨.SV_BB_CTRL, 0, 14⟩
def Fld.SV_BB_CTRL_FRAGLIFE : Fld := ⟨.SV_BB_CTRL, 16, 8⟩
def Fld.SV_BB_CNT_TIMEOUT : Fld := ⟨.SV_BB_CNT, 16, 8⟩
def Fld.LD_PART_PS_UNITS : Fld := ⟨.LD_PART_PS, 0, 9⟩
def Fld.LD_PART_RO_UNITS : Fld := ⟨.LD_PART_RO, 0, 9⟩
def Fld.LD_PART_PD_UNITS : Fld := ⟨.LD_PART_PD, 0, 9⟩
def Fld.LD_PART_LS_UNITS : Fld := ⟨.LD_PART_LS, 0, 9⟩
def Fld.LD_LEDGER_ERR_UNCORR : Fld := ⟨.LD_LEDGER_ERR, 8, 8⟩
def Fld.LD_LEDGER_ERR_CORR : Fld := ⟨.LD_LEDGER_ERR, 16, 16⟩
def Fld.LD_XF_CTRL_EN : Fld := ⟨.LD_XF_CTRL, 0, 1⟩
def Fld.LD_XF_CTRL_THRESH : Fld := ⟨.LD_XF_CTRL, 8, 12⟩
def Fld.LD_XF_CTRL_CLASSES : Fld := ⟨.LD_XF_CTRL, 24, 8⟩
def Fld.LD_XF_QMAX_MAXLEN : Fld := ⟨.LD_XF_QMAX, 0, 14⟩
def Fld.LD_XF_CUT_COUNT : Fld := ⟨.LD_XF_CUT, 0, 64⟩
def Fld.LD_XF_ERR_PARITY : Fld := ⟨.LD_XF_ERR, 0, 16⟩
def Fld.LD_XF_ERR_BUSY : Fld := ⟨.LD_XF_ERR, 16, 16⟩
def Fld.TM_LOAD_FCST_QUEUING : Fld := ⟨.TM_LOAD_FCST, 16, 1⟩
def Fld.TM_HWM_SEL_QUEUE : Fld := ⟨.TM_HWM_SEL, 0, 12⟩
def Fld.CX_CAP_INSERV : Fld := ⟨.CX_CAP, 0, 12⟩
def Fld.CX_CAP_GBPS : Fld := ⟨.CX_CAP, 16, 12⟩
def Fld.CX_PORT_CFG_PROTECT : Fld := ⟨.CX_PORT_CFG, 0, 1⟩
def Fld.CX_PORT_CFG_VALIDATE : Fld := ⟨.CX_PORT_CFG, 1, 2⟩
def Fld.CX_PORT_CFG_INCSCI : Fld := ⟨.CX_PORT_CFG, 3, 1⟩
def Fld.CX_PORT_CFG_CONF : Fld := ⟨.CX_PORT_CFG, 4, 1⟩
def Fld.CX_PORT_CFG_REPLAY : Fld := ⟨.CX_PORT_CFG, 5, 1⟩
def Fld.CX_PORT_TXSC_CTX : Fld := ⟨.CX_PORT_TXSC, 0, 10⟩
def Fld.CX_PORT_TXSC_VALID : Fld := ⟨.CX_PORT_TXSC, 15, 1⟩
def Fld.CX_PORT_DROP_TXNOSA : Fld := ⟨.CX_PORT_DROP, 0, 16⟩
def Fld.CX_PORT_DROP_RXBAD : Fld := ⟨.CX_PORT_DROP, 16, 16⟩
def Fld.CX_PON_KEY_TXIDX : Fld := ⟨.CX_PON_KEY, 0, 2⟩
def Fld.CX_PON_GENSTAT_BUSY : Fld := ⟨.CX_PON_GENSTAT, 3, 1⟩
def Fld.CX_PON_GENSTAT_SEQ : Fld := ⟨.CX_PON_GENSTAT, 8, 8⟩
def Fld.CX_PON_GENOUT_BYTES : Fld := ⟨.CX_PON_GENOUT, 0, 32⟩
def Fld.CX_PON_CNT_NOKEY : Fld := ⟨.CX_PON_CNT, 0, 16⟩
def Fld.CX_PON_CNT_MICERR : Fld := ⟨.CX_PON_CNT, 16, 16⟩
def Fld.CX_LANE_STAT_QUAR : Fld := ⟨.CX_LANE_STAT, 0, 1⟩
def Fld.CX_LANE_STAT_FAILKAT : Fld := ⟨.CX_LANE_STAT, 1, 1⟩
def Fld.CX_LANE_STAT_SUSP : Fld := ⟨.CX_LANE_STAT, 3, 1⟩
def Fld.CX_LANE_STAT_MISMATCH : Fld := ⟨.CX_LANE_STAT, 16, 16⟩
def Fld.CX_LANE_BYTES_COUNT : Fld := ⟨.CX_LANE_BYTES, 0, 64⟩
def Fld.CX_SC_CFG_EN : Fld := ⟨.CX_SC_CFG, 0, 1⟩
def Fld.CX_SC_CFG_DIR : Fld := ⟨.CX_SC_CFG, 1, 1⟩
def Fld.CX_SC_CFG_SUITE : Fld := ⟨.CX_SC_CFG, 2, 3⟩
def Fld.CX_SC_CFG_KEYV : Fld := ⟨.CX_SC_CFG, 5, 1⟩
def Fld.CX_SC_CFG_EXH : Fld := ⟨.CX_SC_CFG, 6, 1⟩
def Fld.CX_SC_CFG_THRESH : Fld := ⟨.CX_SC_CFG, 7, 1⟩
def Fld.CX_SC_KCV_KCV : Fld := ⟨.CX_SC_KCV, 0, 24⟩
def Fld.CX_SC_PKTS_COUNT : Fld := ⟨.CX_SC_PKTS, 0, 64⟩
def Fld.CX_SC_ERR_ICVERR : Fld := ⟨.CX_SC_ERR, 0, 16⟩
def Fld.CX_SC_ERR_LATE : Fld := ⟨.CX_SC_ERR, 16, 16⟩
def Fld.PW_STATUS_STATE : Fld := ⟨.PW_STATUS, 0, 3⟩
def Fld.PW_STATUS_ONBATT : Fld := ⟨.PW_STATUS, 3, 1⟩
def Fld.PW_STATUS_TKCAUSE : Fld := ⟨.PW_STATUS, 4, 4⟩
def Fld.PW_CTRL_MAXDEPTH : Fld := ⟨.PW_CTRL, 0, 3⟩
def Fld.PW_CTRL_LPINAP : Fld := ⟨.PW_CTRL, 3, 1⟩
def Fld.PW_ASLEEP_HOSTWR : Fld := ⟨.PW_ASLEEP, 0, 8⟩
def Fld.PW_ASLEEP_SERWR : Fld := ⟨.PW_ASLEEP, 8, 8⟩
def Fld.PW_ASLEEP_HOSTRD : Fld := ⟨.PW_ASLEEP, 16, 8⟩
def Fld.PW_ASLEEP_SERRD : Fld := ⟨.PW_ASLEEP, 24, 8⟩
def Fld.PW_PICK_DEST_EN : Fld := ⟨.PW_PICK_DEST, 63, 1⟩
def Fld.PW_VOTE_HOST_DOM : Fld := ⟨.PW_VOTE_HOST, 1, 12⟩
def Fld.PW_VOTE_SER_DOM : Fld := ⟨.PW_VOTE_SER, 1, 12⟩
def Fld.PW_DOM_STATUS_DEPTH : Fld := ⟨.PW_DOM_STATUS, 0, 3⟩
def Fld.PW_DOM_STATUS_ENTERING : Fld := ⟨.PW_DOM_STATUS, 3, 1⟩
def Fld.PW_DOM_STATUS_EXITING : Fld := ⟨.PW_DOM_STATUS, 4, 1⟩
def Fld.PW_DOM_STATUS_CAP : Fld := ⟨.PW_DOM_STATUS, 5, 3⟩
def Fld.PW_DOM_TARGET_DEPTH : Fld := ⟨.PW_DOM_TARGET, 0, 3⟩
def Fld.PW_DOM_TARGET_WVALID : Fld := ⟨.PW_DOM_TARGET, 31, 1⟩
def Fld.PW_DOM_WAKE_NS : Fld := ⟨.PW_DOM_WAKE, 0, 32⟩
def Fld.PW_DOM_NEXT_NS : Fld := ⟨.PW_DOM_NEXT, 0, 32⟩
def Fld.PW_DOM_NEXT_VALID : Fld := ⟨.PW_DOM_NEXT, 63, 1⟩
def Fld.PW_NEED_DOM : Fld := ⟨.PW_NEED, 1, 12⟩
def Fld.PW_NEED_TKWAKE : Fld := ⟨.PW_NEED, 16, 1⟩
def Fld.PW_BATT_CTRL_SRC : Fld := ⟨.PW_BATT_CTRL, 0, 2⟩
def Fld.PW_BATT_CTRL_DELAY : Fld := ⟨.PW_BATT_CTRL, 8, 8⟩
def Fld.PW_BATT_CTRL_ACT : Fld := ⟨.PW_BATT_CTRL, 2, 1⟩
def Fld.PW_BATT_THR_MAINSV : Fld := ⟨.PW_BATT_THR, 0, 16⟩
def Fld.PW_BATT_THR_LOWV : Fld := ⟨.PW_BATT_THR, 16, 16⟩
def Fld.PW_BATT_STATUS_VIN : Fld := ⟨.PW_BATT_STATUS, 0, 16⟩
def Fld.PW_BATT_STATUS_ONBATT : Fld := ⟨.PW_BATT_STATUS, 16, 1⟩
def Fld.PW_BATT_STATUS_CONTACT : Fld := ⟨.PW_BATT_STATUS, 17, 1⟩
def Fld.PW_GOV_STATUS_VCORE : Fld := ⟨.PW_GOV_STATUS, 0, 10⟩
def Fld.PW_GOV_STATUS_FLOORV : Fld := ⟨.PW_GOV_STATUS, 10, 10⟩
def Fld.PW_GOV_STATUS_BOOST : Fld := ⟨.PW_GOV_STATUS, 20, 1⟩
def Fld.PW_GOV_STATUS_LIMIT : Fld := ⟨.PW_GOV_STATUS, 21, 1⟩
def Fld.PW_GOV_CFG_BOOST : Fld := ⟨.PW_GOV_CFG, 0, 8⟩
def Fld.PW_GOV_CFG_HOLD : Fld := ⟨.PW_GOV_CFG, 8, 16⟩
def Fld.PW_GOV_TJ_TJ : Fld := ⟨.PW_GOV_TJ, 0, 16⟩
def Fld.MG_PCIE_STATUS_SPEED : Fld := ⟨.MG_PCIE_STATUS, 0, 3⟩
def Fld.MG_PCIE_STATUS_WIDTH : Fld := ⟨.MG_PCIE_STATUS, 3, 3⟩
def Fld.MG_PCIE_STATUS_UP : Fld := ⟨.MG_PCIE_STATUS, 6, 1⟩
def Fld.MG_RING_CTRL_EN : Fld := ⟨.MG_RING_CTRL, 0, 1⟩
def Fld.MG_RING_CTRL_SIZE : Fld := ⟨.MG_RING_CTRL, 8, 4⟩
def Fld.MG_RING_WR_INDEX : Fld := ⟨.MG_RING_WR, 0, 16⟩
def Fld.MG_RING_RD_INDEX : Fld := ⟨.MG_RING_RD, 0, 16⟩
def Fld.MG_RING_LOST_COUNT : Fld := ⟨.MG_RING_LOST, 0, 32⟩
def Fld.MG_EVT_CFG_EN : Fld := ⟨.MG_EVT_CFG, 0, 1⟩
def Fld.MG_EVT_CFG_VEC : Fld := ⟨.MG_EVT_CFG, 8, 10⟩
def Fld.MG_EVT_CFG_RATE : Fld := ⟨.MG_EVT_CFG, 24, 8⟩
def Fld.MG_VEC_MOD_ITVL : Fld := ⟨.MG_VEC_MOD, 0, 16⟩
def Fld.MG_VEC_MOD_THRESH : Fld := ⟨.MG_VEC_MOD, 16, 8⟩
def Fld.MG_MSIX_CTRL_MASK : Fld := ⟨.MG_MSIX_CTRL, 0, 1⟩
def Fld.MG_DELEG_LANES : Fld := ⟨.MG_DELEG, 0, 1⟩
def Fld.MG_DELEG_TRAFFIC : Fld := ⟨.MG_DELEG, 1, 1⟩
def Fld.MG_DELEG_SIEVE : Fld := ⟨.MG_DELEG, 2, 1⟩
def Fld.MG_AUTH_CNT_HOST : Fld := ⟨.MG_AUTH_CNT, 0, 16⟩
def Fld.MG_AUTH_CNT_SERIAL : Fld := ⟨.MG_AUTH_CNT, 16, 16⟩
def Fld.MG_PROXY_ADDR_VALUE : Fld := ⟨.MG_PROXY_ADDR, 0, 32⟩
def Fld.MG_PROXY_DATA_VALUE : Fld := ⟨.MG_PROXY_DATA, 0, 32⟩
def Fld.MG_PROXY_STAT_CODE : Fld := ⟨.MG_PROXY_STAT, 4, 4⟩
def Fld.MG_PROXY_STAT_SEQ : Fld := ⟨.MG_PROXY_STAT, 8, 8⟩
def Fld.MG_SER_STATUS_ADDR : Fld := ⟨.MG_SER_STATUS, 0, 7⟩
def Fld.MG_LATCH_STAT_LOST : Fld := ⟨.MG_LATCH_STAT, 16, 16⟩
def Fld.PW_THERM_WARN : Fld := ⟨.PW_THERM, 0, 16⟩
def Fld.PW_THERM_WARNING : Fld := ⟨.PW_THERM, 16, 1⟩
def Fld.PW_THERM_TRIPPED : Fld := ⟨.PW_THERM, 17, 1⟩

end Sys2Proof.Machine
end

