-- ==== Sys2Proof/Machine/State.lean ====
section
/-! DEFINITION. The state of the block: the control registers, the state the manual gives each unit behind them, the
queue of waiting commands, and the record of what the terminal has sent. Everything is plain data. -/
namespace Sys2Proof.Machine

/-! ## Packets (R17, R18) -/

/-- A packet inside the terminal: the descriptor of R18 and its frame bytes, destination address first, without FCS.
`enq` is TB_NS at admission to its queue and `enqAt` the nanoseconds since power-on; `stamp` names the emitting context, its generation and the tag of
a transmit stamp (R101, R277). `rxBad` is the counter of the receive check that failed after its forwarding had begun (R372). `ended` is how many bytes of a truncated cut-through frame follow; `aux` is the XGEM port ID of a
downstream SDU, `grp` the reorder group that had held it (R165); `kt2` the key type of the second pass (R388); `samp` the depth at the admission of a sampled packet, with TSVALID then (R456), `bsn` the upstream
bonding number it keeps (R232), `seq` its place in the order of all admissions (R241). -/
structure Packet where
  handle : Nat := 0
  flow : Nat := 0
  plane : Nat := 0
  rset : Bool := false
  pass2 : Bool := false
  cut : Bool := false
  poison : Bool := false
  tsv : Bool := false
  queue : Nat := 0
  inport : Nat := 0
  len : Nat := 0
  pgen : Nat := 0
  dch : Nat := 0
  ts : Nat := 0
  data : List Byte := []
  enq : BitVec 32 := 0
  enqAt : Nat := 0
  stamp : Option (Nat × Nat × Nat) := none
  rxBad : Option Reg := none
  ended : Nat := 0
  aux : Nat := 0
  grp : Option Nat := none
  kt2 : Nat := 0
  samp : Option (Nat × Bool) := none
  bsn : Option Nat := none
  seq : Nat := 0
deriving DecidableEq, Repr

/-! ## Events (R546 to R550) -/

/-- An event record (R546). -/
structure EvRecord where
  ev : Nat
  count : Nat
  tsv : Bool
  latched : Bool := false
  ns : BitVec 32
  payload : Quad
deriving DecidableEq, Repr

/-- A limit window of R549: when it opened (nanoseconds since power-on), the records written in it, the occurrences accumulated, and the record
of the first of those. -/
structure EvWindow where
  isOpen : Bool := false
  openAt : Nat := 0
  wrote : Nat := 0
  acc : Nat := 0
  first : Option EvRecord := none
deriving DecidableEq, Repr

/-! ## Start-up (chapter Start-Up, Boot and First Use) -/

/-- What the boot sequence holds beside its registers. `bootHoldPin` is the BOOT_HOLD contact as last sampled, `powered` has bit d set while
domain d has power, `groups` the word of KT_BOOT_CTRL whose groups stage 7 bound (R120), `fed` the time from which the Kettle watchdog counts
(R125), and `training` the training values of the two stacks (R122, R126). (log 1, DESIGN CHOICE) -/
structure Boot where
  inputValid : Bool := false
  bootHoldPin : Bool := false
  powered : Nat := 1
  warm : Bool := false
  calibBad : Bool := false
  pendingReset : Option (Bool × Nat) := none
  groups : Nat := 0
  fed : Nat := 0
  training : List Quad := []
deriving DecidableEq, Repr

/-! ## Power (chapter Power States, Domains and the Supply Governor) -/

/-- Power state beside the registers: owners of vote slots 0 to 27 (key 32·d + slot, value 1 + the context), the counted requests behind
slot 30, the Kettle's requests behind slot 31 (bit 0 a wake time, bit 1 a deadline), the depth each entry or exit leads to, which domains had
a slot held, the domains a data-path vote was cast to wake, the causes that wait for a picker message (R504), Timekeep and its exit,
whether battery has been left since Timekeep was entered, in nanoseconds since power-on until when the governor's boost lasts, its
last update, and the entries to battery and to Timekeep, when each domain last got its power, and whether
a trip lasts until power is removed (R559). -/
structure Power where
  owner : Tab Nat := []
  dataVotes : Tab Nat := []
  kettleVotes : Tab Nat := []
  goal : Tab Nat := []
  heldWas : Nat := 0
  wakes : Nat := 0
  pickCause : Nat := 0
  timekeep : Bool := false
  tkExiting : Bool := false
  leftBatt : Bool := false
  boostUntil : Nat := 0
  governedAt : Option Nat := none
  battAt : Nat := 0
  tkAt : Nat := 0
  upAt : Tab Nat := []
  tripsKept : Bool := false
  leftTrip : Option Nat := none
deriving DecidableEq, Repr

/-! ## Command ports (chapter Command Ports, Authority and Events) -/

/-- State of the command ports beside their registers: the gathered serial STATUS bits 0 to 4, the pending proxy access,
the event windows, the Kettle latch, the ring's phase and lost counts, the records pending on each vector, and the host
memory that the ring has been written to (key: host address). -/
structure Ports where
  serStatus : Nat := 0
  windows : Tab EvWindow := []
  latch : List EvRecord := []
  latchLost : Nat := 0
  ringPhase : Bool := true
  ringLost : Nat := 0
  vecPend : Tab Nat := []
  vecAt : Tab Nat := []
  hostMem : Tab (BitVec 128) := []
deriving DecidableEq, Repr

/-! ## Preoth (chapters Preoth Machine Model and Encoding, and Preoth Messages, Hardware Calls and Profiles) -/

/-- What every Preoth machine holds (R36, R104): general registers (g0 is never listed), pc and flags. `ranOff` is set when
the last instruction ended at the top of instruction memory, so that the next fetch is the one R60 traps. -/
structure Cpu where
  g : Tab Quad := []
  pc : BitVec 16 := 0
  ranOff : Bool := false
  z : Bool := false
  n : Bool := false
  c : Bool := false
  v : Bool := false
deriving DecidableEq, Repr

/-- The states of R52. -/
inductive CtxState where
  | idle | ready | waiting | stopped | trapped | halted
deriving DecidableEq, Repr

/-- What a waiting instruction waits for (R55, the WAIT field of PR_CTX_STATE). -/
inductive Wait where
  | load (rd : GReg) (sp : MemSpace) (addr len : Nat) (signed : Bool) (err : EccErr)
  | atomic (rd : GReg) (addr len : Nat) (cas : Bool) (old new : Quad) (err : EccErr)
  | fence
  | send (rd : GReg) (req : Option (Quad × Nat × Nat)) (status : Option Nat)
  | recv (rd : GReg) (addr : Nat) (deadline : Option (BitVec 32))
  | twait (target : BitVec 32)
  | pktNext (rd : GReg)
  | hcall (rd : GReg) (call : Nat) (arg : Quad) (result : Option Quad)
  | access (rd : GReg) (result : Quad)
deriving DecidableEq, Repr

/-- Who sent a message, as its header says (R82). -/
inductive Sender where
  | ctx (c gen auth : Nat)
  | host (e : Nat)
  | block (code : Nat)
  | timer (t : Nat)
  | gate (p gen auth : Nat)
deriving DecidableEq, Repr

/-- A message (R81, R82): its sender, tag and body, the destination word it was sent with (none for a timer message), and,
for a bounce, the original destination, the generation that failed and BPORT. -/
structure Msg where
  sender : Sender
  tag : Nat
  body : List Quad
  dword : Option Quad
  bounce : Option (Agent × Nat × Bool) := none
deriving DecidableEq, Repr

/-- A posted store of a context (R47). -/
structure Posted where
  sp : MemSpace
  addr : Nat
  data : List Byte
deriving DecidableEq, Repr

/-- A context timer (R102). -/
structure Timer where
  armed : Bool := false
  target : BitVec 32 := 0
  tag : Nat := 0
deriving DecidableEq, Repr

/-- What happens when the instruction in progress completes (R52): nothing more, a STOP or a RESET. -/
inductive After where
  | go | stop | reset
deriving DecidableEq, Repr

/-- One of the 1,024 hardware contexts (R36 to R39, R52, R72, R78, R83, R102). `win` is its packet window: the first 256 bytes of the packet it
holds, which reach the packet's cells at its release (R44). (log 1, DESIGN CHOICE) -/
structure Ctx where
  cpu : Cpu := {}
  lastPc : BitVec 16 := 0
  st : CtxState := .idle
  wait : Option Wait := none
  after : After := .go
  hmode : Bool := false
  tpc : BitVec 16 := 0
  tcause : BitVec 8 := 0
  tval : Quad := 0
  tvalid : Bool := false
  tscratch : Quad := 0
  steps : Quad := 0
  stepsReg : Quad := 0
  vecValid : Bool := false
  vec : BitVec 16 := 0
  gen : BitVec 8 := 0
  packet : Bool := false
  loader : BitVec 2 := 0
  auth : BitVec 2 := 0
  mbx : List Msg := []
  posted : List Posted := []
  pkt : Option Packet := none
  win : List Byte := []
  pktSteps : Nat := 0
  counting : Bool := false
  timers : Tab Timer := []
  pnext : Option (BitVec 32) := none
deriving DecidableEq, Repr

/-- A load in progress (R129, R132): its result code and what a bind needs. -/
structure LoadJob where
  code : Nat
  codeAddr : Nat := 0
  codeWords : List Word := []
  dataAddr : Nat := 0
  dataBytes : List Byte := []
  entry : Nat := 0
  vec : Bool × Nat := (false, 0)
  mask : Nat := 0
  loader : Nat := 0
  votes : Nat := 0
deriving DecidableEq, Repr

/-- An engine: its instruction memory (by word address), the words of it whose parity bit is wrong (R49), L, the context that issued last, the
turns that each context's latest instruction takes of the rotation, the first of them at its issue (R50), the context that last took a packet, the order of release of R97 (context and flow, oldest first), a load in progress, the pending status of its host mailbox, and
whether a write of STEP has let one instruction issue. (log 1, DESIGN CHOICE) (log 121, DESIGN CHOICE) -/
structure Eng where
  imem : Tab Word := []
  ibad : List Nat := []
  lmem : Tab Byte := []
  last : Nat := 7
  turns : Tab Nat := []
  lastPkt : Nat := 7
  order : List (Nat × Nat) := []
  load : Option LoadJob := none
  hmsg : Option Nat := none
  stepDue : Bool := false
deriving DecidableEq, Repr

/-- A gate sequencer (R104 to R106, R364); `ibad` as for an engine. (log 1, DESIGN CHOICE) -/
structure GateSeq where
  cpu : Cpu := {}
  lastPc : BitVec 16 := 0
  st : CtxState := .idle
  wait : Option Wait := none
  after : After := .go
  imem : Tab Word := []
  ibad : List Nat := []
  lmem : Tab Byte := []
  mbx : List Msg := []
  edges : List (BitVec 32 × BitVec 8) := []
  loader : BitVec 2 := 0
  tcause : BitVec 8 := 0
  dry : Bool := false
  load : Option LoadJob := none
deriving DecidableEq, Repr

/-- A message under way to its mailbox (R91). -/
structure Flight where
  msg : Msg
  dest : Agent
deriving DecidableEq, Repr

/-- A timer expiry not yet in its mailbox (R88): in the timebase boundary store of R29, or still in the timer. -/
structure Expiry where
  c : Nat
  t : Nat
  target : BitVec 32
  tag : Nat
  missed : Nat
  stored : Bool
  warned : Bool := false
deriving DecidableEq, Repr

/-- All Preoth state. -/
structure Preoth where
  ctxs : Tab Ctx := []
  engs : Tab Eng := []
  gates : Tab GateSeq := []
  shared : Tab Byte := []
  flights : List Flight := []
  expiries : List Expiry := []
  held : List (Nat × Msg) := []
deriving DecidableEq, Repr

/-! ## Sieve (chapter Sieve: Parsing and Classification) -/

/-- The key of the fragment table (R405): ingress port, IP version, addresses, protocol and identification. -/
structure FragKey where
  port : Nat
  v6 : Bool
  src : Nat
  dst : Nat
  proto : Nat
  ident : Nat
deriving DecidableEq, Repr

/-- Sieve's state beside its registers: the exact-match words (key 8·entry + word), the ternary words
(key (8192·set + rule)·8 + word), the action words, the Whisk seed, both pairs of flow accumulators (bytes, packets), the
latched packet count of SV_FS_PKTS, the packets waiting in each port's receive store, and the fragment table. `drainDue` is
set from a swap until the inactive set has drained. (log 1, DESIGN CHOICE) -/
structure Sieve where
  em : Tab Quad := []
  tr : Tab Quad := []
  act : Tab Quad := []
  seed : Quad := 0
  fsProg : Tab (Nat × Nat) := []
  fsHost : Tab (Nat × Nat) := []
  fsLatch : Nat := 0
  rx : Tab (List Packet) := []
  frags : List (FragKey × Nat × Nat) := []
  fragWait : List (FragKey × Packet × Nat) := []
  drainDue : Bool := false
deriving DecidableEq, Repr

/-! ## Ladle (chapter Ladle, the Packet Store and Express FIFOs) -/

/-- A ledger entry (R425). -/
structure Ledger where
  owner : Nat := 0
  gen : Nat := 0
  pool : Nat := 0
  alloc : Bool := false
  quar : Bool := false
deriving DecidableEq, Repr

/-- One free list, of a pool in a stack (R422), in order: the buffers a rebuild put first, those never given out (`fresh` of them
have been taken), the returned (first-cell indices, oldest first); then the prefetch, and whether the list is being rebuilt (R430). (log 12, DESIGN CHOICE) -/
structure FreeList where
  front : List Nat := []
  fresh : Nat := 0
  returned : List Nat := []
  prefetch : List Nat := []
  rebuilding : Bool := false
deriving DecidableEq, Repr

/-- An express FIFO (R432 to R435): its banks, the bank next in turn (false for bank 0), and the bank whose frame has been preempted and waits to be
resumed (R434). -/
structure Express where
  bank0 : Option Packet := none
  bank1 : Option Packet := none
  next : Bool := false
  out : Option Bool := none
deriving DecidableEq, Repr

/-- Ladle's state: the ledger (key: first-cell index), the free lists (key 2·pool + stack), the buffers held by each requester
(key 4·requester + pool), which stack a tie goes to, the express FIFOs, and the partition and region sizes applied, in units of
64 MiB (R411, R415). (log 1, DESIGN CHOICE) -/
structure Ladle where
  ledger : Tab Ledger := []
  lists : Tab FreeList := []
  used : Tab Nat := []
  tie : Tab Nat := []
  xf : Tab Express := []
  parts : List Nat := [448, 8, 1, 16, 4, 35]
  regions : List Nat := [16, 48, 96, 64]
deriving DecidableEq, Repr

/-! ## The traffic manager (chapter Scheduling, Shaping and Policing) -/

/-- A shaper or policer (R445 to R454): its committed values, its credit in units of 2⁻¹⁶ byte or packet, TB_NS at its last
read, and whether ShaperBlocked has been raised since it was blocked. -/
structure Shaper where
  rate : Nat := 0
  ovh : Nat := 0x14
  packet : Bool := false
  burst : Nat := 0x4000
  en : Bool := false
  accIdle : Bool := true
  credit : Int := 0
  last : Nat := 0
  blockedSaid : Bool := false
deriving DecidableEq, Repr

/-- A requester's staging set (R451). -/
structure Stage where
  sel : Nat := 0
  rate : Word := 0x14000000
  burst : Word := 0x4000
  ctrl : Word := 2
deriving DecidableEq, Repr

/-- What a queue keeps beside its packets: its deficit (R442), the count of admitted packets for sampling (R456), the high-water
marks (R458) and the newest sample (R459). -/
structure QueueStat where
  deficit : Nat := 0
  admitted : Nat := 0
  maxDepth : Nat := 0
  maxSojourn : Nat := 0
  last : Option Nat := none
deriving DecidableEq, Repr

/-- The traffic manager: the queues, their statistics, queue and group shapers (key 0 to 4,607), policers, their counts, the
staging sets of each requester, the turn of each scheduler and strict priority (key: 8 · scheduler + priority, where a port's candidate sets are 2 · port and 2 · port + 1 and an
allocation 2,000 + 2 · allocation), the decisions and
admissions since the last forecast and when that was (R460), the back burner's turn, the allocations whose present hold has reported a full budget (R253), the number of admissions so far (R241), and when each
allocation's present hold and drain began. (log 1, DESIGN CHOICE) -/
structure Traffic where
  queues : Tab (List Packet) := []
  stat : Tab QueueStat := []
  shapers : Tab Shaper := []
  policers : Tab Shaper := []
  polPass : Tab Nat := []
  polDrop : Tab Nat := []
  shpStage : Tab Stage := []
  polStage : Tab Stage := []
  turn : Tab Nat := []
  decisions : Nat := 0
  admissions : Nat := 0
  forecastAt : Option Nat := none
  bbTurn : Nat := 0
  budgetSaid : List Nat := []
  seq : Nat := 0
  holdTimes : Tab (Nat × Nat) := []
deriving DecidableEq, Repr

/-! ## The shared fibre (chapters Shared Fibre: Downstream, Discovery, and Upstream) -/

/-- An SDU that is being reassembled (R153): its key index, its stamp, and its pieces with the superframe counter and place of each. -/
structure Reasm where
  key : Nat
  ts : Nat
  tsv : Bool
  pieces : List (Nat × Nat × List Byte)
deriving DecidableEq, Repr

/-- An SDU held in a reorder group (R159), with TB_NS when it was held. -/
structure HeldSdu where
  bsn : Nat
  pkt : Packet
  since : BitVec 32
deriving DecidableEq, Repr

/-- A reorder group beside its registers: the held SDUs in BSN order from EXPECT, and 1 + the latest BSN that each channel has
delivered. -/
structure Reorder where
  held : List HeldSdu := []
  seen : Tab Nat := []
deriving DecidableEq, Repr

/-- A delivered frame in the boundary store of its channel (R29): its superframe counter, and the stamp of its PSBd with TSVALID then. -/
structure DsStored where
  sfc : Nat
  ts : Nat
  tsv : Bool
  frame : DsFrame
deriving DecidableEq, Repr

/-- A downstream channel beside its registers: the superframe counter its next frame should carry, its consecutive frames in Sync,
the window of R150 (corrected bits and uncorrectable codewords of the last 8,000 frames, newest first), when it was last evaluated, the
windows without an uncorrectable codeword, the armed target of R173 and when it must have passed, the latest PSBd it delivered (counter and
stamp) and when, whether it counts as Frozen after it was turned on (R510), when that was, and the frames in its boundary store. Times are
nanoseconds since power-on. (log 1, DESIGN CHOICE) -/
structure Channel where
  next : Nat := 0
  run : Nat := 0
  win : List (Nat × Nat) := []
  evalAt : Option Nat := none
  clean : Nat := 0
  snap : Option (Nat × Nat) := none
  psbd : Option (Nat × Nat) := none
  psbdAt : Nat := 0
  grace : Bool := false
  store : List DsStored := []
  onAt : Nat := 0
deriving DecidableEq, Repr

/-- An upstream PLOAM message that waits to be sent (R188, R193). -/
inductive UpMsg where
  | serialNumber (vendor serial delay : Word)
  | registration (id : List Byte)
  | ack (code : Nat)
  | keyReport (ws : List Word)
  | sleepRequest (mode : Nat)
  | vendor (sub : Nat) (body : List Byte)
deriving DecidableEq, Repr

/-- A grant of a scheduled burst: the allocation bound to its alloc-ID, if one is, the alloc-ID, and when after T it starts, in 1/256 ns. -/
structure Grant where
  alloc : Option Nat
  id : Nat
  start : Nat
  room : Nat
  wire : Nat
  dbru : Bool
  ploamu : Bool
deriving DecidableEq, Repr

/-- A fragment or frame staged for a burst (R242): its queue, the grant that carries it, packet, port ID, key index, its bytes, whether it
carries the frame's first and last bytes, and when after T its header begins and its last byte has left, in 1/256 ns. -/
structure Piece where
  q : Nat
  g : Nat
  pkt : Packet
  port : Nat
  key : Nat
  bytes : List Byte
  first : Bool
  last : Bool
  lead : Nat
  stop : Nat
deriving DecidableEq, Repr

/-- A burst from its scheduling to its end (R234): the start of its upstream frame and T as 40-bit stamps, its superframe counter, what its profile was then (whether its rate
is 49.7664 Gb/s, whether FEC is on, the bytes of preamble and delimiter), its grants and the length loaded into the watchdog (R235, in
1/256 ns); once staged its pieces, reports, messages, and its runs of idle bytes with their times after T. -/
structure Burst where
  uc : Nat
  base : Nat
  t : Nat
  sfc : Nat
  fast : Bool
  fec : Bool
  head : Nat
  grants : List Grant
  granted : Nat := 0
  staged : Bool := false
  started : Bool := false
  pieces : List Piece := []
  reports : List (Nat × Nat) := []
  msgs : List UpMsg := []
  idle : List (Nat × Nat) := []
deriving DecidableEq, Repr

/-- A frame of which a first fragment has been staged (R242): its UC, its packet, the port ID, key and cipher lane it was staged under
(R226, R464), and the bytes still to send: none where the last fragment waits to be sent. -/
structure Partial where
  uc : Nat
  pkt : Packet
  port : Nat
  key : Option (Nat × List Byte)
  lane : Option Nat
  rest : List Byte
deriving DecidableEq, Repr

/-- An armed pair (R203), when it was armed (nanoseconds since power-on), and whether it has been answered, with
TSVALID at that time and when the answer starts. -/
structure ArmedPair where
  n : Nat
  m : Nat
  since : Nat := 0
  answered : Option Bool := none
  at_ : Nat := 0
deriving DecidableEq, Repr

/-- The equalisation delay of a UC, and the reference, that were in force until a time (nanoseconds since power-on), for the upstream frames that
R200 leaves them to. -/
structure EqdPast where
  uc : Nat
  till : Nat
  eqd : Option Nat
  ref : Nat
deriving DecidableEq, Repr

/-- The shared fibre beside its registers. Reassembly has key 65,536·channel + port ID, partial frames the queue. `offered` holds BOND, ASYM and PRED as the last Capability carried them; `bondSet` and
`channels` the last BondSet; Membership its content, number, repeats and whether it is acknowledged; `pairWant` and `pairGot` the last
PairRequest and its answers; `carried` when the last burst of each allocation began
since it was bound, `wdLast` the time of each UC's last trip and `wdFailed` the UCs that R217 counts as failed; `sleepMode`
the mode of Sleep_Allow in force and `idleFrom` since when R509's conditions have held; `sleepAt` when the sleep state was entered, `timerAt` when TO1 or TO2 was started,
`memberAt` and `pairAt` when Membership and PairRequest were last sent, `wdRetry` when the triage clears each UC's first trip, all in
nanoseconds since power-on, `eqdPast` the former delays of R200, `upSent` how many upstream PLOAM messages were sent, `keyWait` the index of a Key_Control that waits for the cipher engine (R25), and `respAt` when each UC's last response starts (R203). (log 1, DESIGN CHOICE) (log 67, DEDUCED) -/
structure Fibre where
  chans : Tab Channel := []
  groups : Tab Reorder := []
  reasm : Tab (Option Reasm) := []
  ploam : List (List Byte) := []
  responded : Bool := false
  respondedAt : Option Nat := none
  assigned : List Nat := []
  offered : Nat := 0
  bondSet : Bool := false
  channels : Nat := 0
  member : Option (List Byte) := none
  mseq : Nat := 0
  mtries : Nat := 0
  macked : Bool := true
  armed : List ArmedPair := []
  pairWant : Nat := 0
  pairGot : Nat := 0
  up : List UpMsg := []
  keyWait : BitVec 2 := 0
  bursts : List Burst := []
  partials : Tab (Option Partial) := []
  bsn : Tab Nat := []
  carried : Tab (Option Nat) := []
  wdLast : Tab Nat := []
  wdFailed : Nat := 0
  wdRetry : Tab (Option Nat) := []
  timerAt : Nat := 0
  memberAt : Nat := 0
  pairAt : Nat := 0
  eqdPast : List EqdPast := []
  upSent : Nat := 0
  respAt : Tab (Option Nat) := []
  sleepMode : Nat := 0
  idleFrom : Nat := 0
  sleepAt : Nat := 0
deriving DecidableEq, Repr

/-! ## Timebase (chapter Timebase and Time-Stamps) -/

/-- The timebase: the 108-bit accumulator (TB_WRAP, TB_NS and 44 fraction bits), what it has gained by increments alone since it started, the
increment in use, an increment waiting for
the next tick, an accepted step with its source's code waiting for its tick, the latches of R264 (by requester code: fraction, wrap), the staged
low words of TB_INCR and TB_STEP; then the last accepted PPS_IN edge (nanoseconds since power-on), the PPS_OUT edge whose sentence is
due, until when a sentence is being sent, a rising edge of CLK10_OUT in 1/256 ns of the time the accumulator has gained, and the one from which it realigns (R283 to
R285, R287). (log 58, DESIGN CHOICE) -/
structure Timebase where
  acc : BitVec 108 := 0
  gained : Nat := 0
  incr : BitVec 48 := Config.incrNom
  incrNext : Option (BitVec 48) := none
  step : Option (BitVec 40 × Nat) := none
  latch : Tab (Nat × Nat) := []
  incrLow : Word := 0
  stepLow : Word := 0
  ppsAt : Option Nat := none
  todDue : Option Nat := none
  todUntil : Option Nat := none
  clkPhase : Nat := 0
  clkNext : Option Nat := none
deriving DecidableEq, Repr

/-! ## Client lanes (chapter Client Lanes and Sleep by Direction) -/

/-- A result of R337: rate code, FEC and LPI. -/
structure Resolved where
  rate : Nat
  fec : Bool
  lpi : Bool
deriving DecidableEq, Repr

/-- The end of a line: its last bit, and how many identical bits it ends with. -/
structure LineRun where
  last : Bool := false
  run : Nat := 0
deriving DecidableEq, Repr

/-- Error injection on the Bolnan stream (R344): header bits and single errors still to invert, and the bits sent since the last periodic error. -/
structure Inject where
  hdr : Nat := 0
  one : Nat := 0
  sent : Nat := 0
deriving DecidableEq, Repr

/-- A received block after descrambling: whether it is a control block, its payload, and whether descrambler sync held. -/
structure BolnanBlock where
  ctrl : Bool
  payload : Nat
  ok : Bool
deriving DecidableEq, Repr

/-- The Bolnan receiver of a port (R332 to R335): the run of received bits, the bits of the block being taken, oldest first, the consecutive valid headers
before lock, the last headers in lock, newest first (true: invalid), whether it is aligned and its descrambler in sync, the descrambler's register where
one has been loaded, the consecutive fillers off the prediction, the
elastic store, oldest first, and, since this was last taken, the stuffing violations, the losses of alignment and the blocks lost to a full store. -/
structure BolnanRx where
  run : LineRun := {}
  block : List Bool := []
  good : Nat := 0
  heads : List Bool := []
  aligned : Bool := false
  synced : Bool := false
  reg : Option Nat := none
  miss : Nat := 0
  store : List BolnanBlock := []
  stuffErr : Nat := 0
  alignLoss : Nat := 0
  lost : Nat := 0
deriving DecidableEq, Repr

/-- A pattern checker (R343): the bits it predicts from, newest first, those free of error since it was seeded, whether it is locked, the last bits checked in
lock, newest first (true: an error), and, since this was last taken, bits and errors counted and losses of lock. -/
structure Checker where
  hist : List Bool := []
  good : Nat := 0
  locked : Bool := false
  win : List Bool := []
  bits : Nat := 0
  errs : Nat := 0
  losses : Nat := 0
deriving DecidableEq, Repr

/-- What a client lane holds beside its registers: its reservations in the Kettle's ledger (0 none, 1 to 3 for 10, 25 and
50 Gb/s), the Bolnan receiver, the register of the scrambler (R331), the end of the bits it has sent and the errors to inject in them, its own bits where
near-end loopback returns them (R345), the pattern checker, the offer set, the pages sent, the lost
reference that keeps the transmitter dark, and in nanoseconds of the timebase when its state was entered, when the timer of Hunt started, when its
generator started, and when its last frame was sent. (log 1, DESIGN CHOICE) -/
structure Lane where
  txRes : Nat := 0
  rxRes : Nat := 0
  rx : BolnanRx := {}
  scr : Nat := 0
  txRun : LineRun := {}
  inj : Inject := {}
  loop : List Bool := []
  chk : Checker := {}
  offer : Nat := 0
  readySent : Nat := 0
  lastRes : Option Resolved := none
  seq : Nat := 0
  lastPage : Option Nat := none
  noRef : Option Nat := none
  since : Nat := 0
  huntAt : Nat := 0
  testAt : Nat := 0
  sentAt : Nat := 0
deriving DecidableEq, Repr

/-! ## Frame MACs (chapter Frame MACs, Preemption and Gates) -/

/-- A preempted frame that awaits resumption (R355): its packet, the bytes of the whole frame to its FCS, how many have been sent,
why it is to be stomped, its cipher lane, the bank of the express FIFO that it leaves free when its last byte has passed (R434), its frame count and the
number of its next continuation fragment. -/
structure HeldFrame where
  q : Nat
  pkt : Packet
  bytes : List Byte
  sent : Nat
  stomp : Option Nat
  lane : Option Nat := none
  bank : Option Bool := none
  count : Nat := 0
  frag : Nat := 0
deriving DecidableEq, Repr

/-- What has arrived and waits in the receive store before the MAC (R25, R29): it, what surrounds it, its stamp with TSVALID then, and
the port's role generation at its arrival (R366). A piece of a frame that the full store discards takes no room (R29). -/
structure RxStored where
  item : RxFrame
  env : RxEnv
  ts : Nat
  tsv : Bool
  pgen : Nat
  lost : Bool := false
deriving DecidableEq, Repr

/-- A preemptable frame that is being reassembled (R372): its frame count, the number its next fragment carries, its bytes so far, and what came with its
first fragment; and that a piece of it was discarded at the full store (R29). -/
structure Assembly where
  count : Nat
  next : Nat
  bytes : List Byte
  ts : Nat
  tsv : Bool
  pgen : Nat
  lost : Bool
deriving DecidableEq, Repr

/-- What a MAC holds beside its registers: the frames that wait for it, the frame it reassembles, what near-end loopback returns to it (R345), the
candidates of R443 with their queues, the express classes' and the preemptable classes', oldest first, the preempted frame, the preemptable frames
started, and the verify frames sent without a response and when the last was. (log 1, DESIGN CHOICE) -/
structure Mac where
  inbox : List RxStored := []
  asm : Option Assembly := none
  loop : List RxFrame := []
  txCount : Nat := 0
  candE : List (Nat × Packet) := []
  candP : List (Nat × Packet) := []
  held : Option HeldFrame := none
  verSent : Nat := 0
  verAt : Nat := 0
deriving DecidableEq, Repr

/-! ## Cipher (chapter Cipher Engine and Keys) -/

/-- An installed key (R477, R485): its bytes and, for the XPN suites, its 12-byte salt. -/
structure CxKey where
  key : List Byte := []
  salt : List Byte := []
deriving DecidableEq, Repr

/-- A one-time root slot (R135): used, and its key where the programming was not cut short. -/
structure RootSlot where
  used : Bool := false
  key : Option (List Byte) := none
deriving DecidableEq, Repr

/-- An unwrap that is pending (R487): its sequence number, its blob, its source's code, and whether that source has head-end
authority. -/
structure Unwrap where
  seq : Nat
  blob : List Quad
  src : Nat
  headEnd : Bool
deriving DecidableEq, Repr

/-- The cipher engine beside its registers: keys by context, KEKs by slot, the next PN of each receive context, the times of each
lane's latest mismatches, lanes in a revive test, the root slots, their staging words and the key being programmed, and the
unwraps. Blob staging has key 8·requester + word. (log 1, DESIGN CHOICE) -/
structure Cipher where
  keys : Tab CxKey := []
  keks : Tab (List Byte) := []
  rxNext : Tab Nat := []
  mism : Tab (List Nat) := []
  reviving : List Nat := []
  roots : List RootSlot := [{}, {}, {}, {}]
  rootStage : Tab Word := []
  rootAt : Nat := 0
  rootJob : Option (List Byte) := none
  quar : Tab (Option (Nat × Bool)) := []
  unwraps : List Unwrap := []
  nextSeq : Nat := 0
  blob : Tab Quad := []
  blobSeq : Tab (Nat × Bool) := []
deriving DecidableEq, Repr

/-! ## The base program set (R107 to R110) -/

/-- The committed time-of-day statement (R294): TT_TOD_SFC, SEC, NSEC, INFO and GMID as GO found them. -/
structure Statement where
  sfc : Nat := 0
  sec : Nat := 0
  nsec : Nat := 0
  info : Nat := 0
  gmid : Nat := 0
deriving DecidableEq, Repr

/-- The servo (R295 to R305, R313, R315), role 15: the armed frame (channel, and the TAI time of its PSBd at the head end in 1/256 ns); the number of
the last sentence taken; for the shared fibre and J14, when each gave its valid measurements of the last 10 s, since when it is valid, and its last
measurement (local count less the source's time, in 1/256 ns); how many valid e in a row have met the state's test; the integrator and u in 10⁻²⁴;
u by time, newest first; the last valid e, newest first; whether Locked has been reached; when the last valid e came, and when the last that the
state's table accepts; in Holdover and Mismatch the frequency, the regressors and TEEST at entry, whether 86 was raised, and the first valid e with
its age in s; for how many seconds the sources have disagreed, and whether 87 was raised. Times are nanoseconds since power-on. -/
structure Servo where
  armed : Option (Nat × Nat) := none
  todSeq : Nat := 0
  good : Tab (List Nat) := []
  since : Tab (Option Nat) := []
  got : Tab (Option Int) := []
  run : Nat := 0
  integ : Int := 0
  u : Int := 0
  us : List (Nat × Int) := []
  es : List Int := []
  locked : Bool := false
  seenAt : Nat := 0
  goodAt : Nat := 0
  uEntry : Int := 0
  xEntry : List Int := []
  te0 : Nat := 0
  oos : Bool := false
  first : Option (Int × Nat) := none
  apart : Nat := 0
  apartSaid : Bool := false
  stepAt : Option Nat := none
deriving DecidableEq, Repr

/-- The holdover model (R311), role 16: whether the coefficients have been loaded since power removal, theta in 10⁻²⁴, the matrix P in 10⁻¹², t0, lock_s
fails, the samples of the hour with theta an hour ago and how much of the hour has been spent Locked, which the history area keeps (R126); when
the last sample was taken, when the role had its last turn in Locked, and the case
temperatures of the last 10 minutes with their times. (log 1, DESIGN CHOICE) -/
structure Holdover where
  loaded : Bool := false
  theta : List Int := [0, 0, 0, 0, 0]
  p : List Int := []
  t0 : Nat := 0
  lock : Nat := 0
  fails : Nat := 0
  last : Nat := 0
  hour : List (Int × List Int) := []
  hourTheta : List Int := []
  hourFor : Nat := 0
  lockedAt : Option Nat := none
  temps : List (Nat × Int) := []
deriving DecidableEq, Repr

/-- A unicast grant of the boundary clock (R306): the port, the message type, the logarithm of its interval, when the next is due and until when it
lasts (nanoseconds since power-on), the head of a frame to the requester, and the requester's port identity. -/
structure BcGrant where
  port : Nat
  kind : Nat
  log : Int
  due : Nat
  till : Nat
  head : List Byte
  ident : List Byte
deriving DecidableEq, Repr

/-- The boundary clock (R306 to R309), roles 17 and 18: when each port's next Sync (key 2·port) and Announce (2·port + 1) are due, the sequence numbers
(key 16·port + message type), the grants, the Sync messages that wait for their stamps (tag, port, and the head and the message of the Follow_Up), the
next tag, and the Delay_Req of the present second by port (when it began, how many). (log 1, DESIGN CHOICE) -/
structure Clock where
  due : Tab Nat := []
  seq : Tab Nat := []
  grants : List BcGrant := []
  waits : List (Nat × Nat × List Byte × List Byte) := []
  tag : Nat := 0
  reqs : Tab (Nat × Nat) := []
deriving DecidableEq, Repr

/-- The predictor of one allocation (R247, R248), role 10: the extended time of its epoch, the number of the next bin boundary, its cycle count, hist by bin
and cycle (key 16·bin + cycle modulo 16), and the extended times of its last bursts, newest first. -/
structure Predictor where
  epoch : Int
  next : Nat := 1
  cycle : Nat := 0
  hist : Tab Nat := []
  grants : List Int := []
deriving DecidableEq, Repr

/-- What the base program set keeps beside its registers and the S tables: the restarts that the supervisor has made (context, when) and the contexts that
it leaves Trapped (R109), the servo, the holdover model, the sequence number of the sentences and the ticket of role 19's vote (R286, R317), the boundary
clock, and the predictor by allocation. (log 1, DESIGN CHOICE) -/
structure Base where
  stmt : Statement := {}
  restarts : List (Nat × Nat) := []
  left : List Nat := []
  servo : Servo := {}
  ho : Holdover := {}
  ioSeq : Nat := 0
  ioVote : Option Nat := none
  clock : Clock := {}
  pred : Tab (Option Predictor) := []
deriving DecidableEq, Repr

/-! ## Outputs -/

/-- What the terminal puts on its outside: the model's own record of it, newest first. (log 83, DESIGN CHOICE) -/
inductive Out where
  | frame (port : Nat) (bytes : List Byte) (bad : Bool)
  | msix (vec : Nat)
  | serial (bytes : List Byte)
  | regRead (src : Src) (w : Word)
  | hostRead (ws : List Word)
  | hostBytes (bs : List Byte)
  | page (port : Nat) (p : Nat)
  | line (port : Nat) (bits : List Bool)
  | inject (port : Nat) (hdr : Bool)
  | injectEvery (port : Nat) (exp : Option Nat)
  | fragment (port : Nat) (bytes : List Byte)
  | returned (port : Nat) (f : RxFrame)
  | mergeVerify (port : Nat) (response : Bool)
  | burst (uc t : Nat) (msgs : List (List Byte)) (reports : List (Nat × Nat)) (frames : List (Nat × Nat × List Byte)) (idle : Nat)
  | response (uc channel t : Nat) (msg : List Byte)
  | omci (port : Nat) (sdu : List Byte)
  | hold (alloc event : Nat)
  | pps (width : Nat)
  | tod (bytes : List Byte)
deriving DecidableEq, Repr

/-- Why the machine stops with a fault. -/
inductive Fault where
  /-- Raised by a meaning whose operand names an instance the device does not have (a context above 1,023, a port above 144).
  No such command can occur, so stopping is safe. -/
  | noSuchObject
deriving DecidableEq, Repr

/-- Why the machine refuses a command. -/
inductive Refusal where
  /-- Raised by the dispatch for a command that has no meaning yet. Safe: nothing can be proved of it. -/
  | notModelled (mnemonic : String)
deriving DecidableEq, Repr

/-- The state of the block. `regs` holds the registers that have no other home, keyed by `Reg` and instance (see Regs.lean);
`latched` the high words of R9 by the same key; `lowHalf` the low words of 64-bit registers that commit at their high word;
`draws` counts the values drawn from outside the manual (the model's own field). -/
structure State where
  pending : List Instr := []
  regs : Tab Quad := []
  latched : Tab Word := []
  lowHalf : Tab Word := []
  draws : Nat := 0
  outs : List Out := []
  boot : Boot := {}
  pow : Power := {}
  cp : Ports := {}
  pre : Preoth := {}
  sv : Sieve := {}
  ld : Ladle := {}
  tm : Traffic := {}
  tb : Timebase := {}
  lanes : Tab Lane := []
  macs : Tab Mac := []
  cx : Cipher := {}
  fib : Fibre := {}
  base : Base := {}
  hbm : Tab Byte := []
  save : Tab Byte := []
deriving DecidableEq, Repr

/-- The terminal right after reset: every register at its reset value, nothing in memory, no command waiting. (log 1, DESIGN CHOICE) -/
def State.reset : State := {}

end Sys2Proof.Machine
end

