-- ==== Sys2Proof/Machine/Tab.lean ====
section
/-! DEFINITION. Reading and writing the sparse tables of the state. `dflt` is what an unlisted key reads as. -/
namespace Sys2Proof.Machine

variable {α : Type}

/-- The value at a key; `dflt` where the key is not listed. -/
def Tab.get (t : Tab α) (dflt : α) (k : Nat) : α :=
  match t with
  | [] => dflt
  | (j, v) :: r => if j = k then v else Tab.get r dflt k

/-- The table without a key. -/
def Tab.del (t : Tab α) (k : Nat) : Tab α :=
  match t with
  | [] => []
  | (j, v) :: r => if j = k then Tab.del r k else (j, v) :: Tab.del r k

/-- Put an entry before the first larger key. -/
def Tab.ins (t : Tab α) (k : Nat) (v : α) : Tab α :=
  match t with
  | [] => [(k, v)]
  | (j, w) :: r => if k < j then (k, v) :: (j, w) :: r else (j, w) :: Tab.ins r k v

/-- Write a key. Writing what an unlisted key reads as removes the entry, so that equal tables are equal data. (log 10, DEDUCED) -/
def Tab.set [DecidableEq α] (t : Tab α) (dflt : α) (k : Nat) (v : α) : Tab α :=
  if v = dflt then Tab.del t k else Tab.ins (Tab.del t k) k v

/-- Change the value at a key. -/
def Tab.upd [DecidableEq α] (t : Tab α) (dflt : α) (k : Nat) (f : α → α) : Tab α :=
  Tab.set t dflt k (f (Tab.get t dflt k))

/-- The keys listed. -/
def Tab.keys (t : Tab α) : List Nat := t.map Prod.fst

/-- Keep the entries whose key satisfies a test. -/
def Tab.keep (t : Tab α) (p : Nat → Bool) : Tab α := t.filter (fun e => p e.1)

/-- Strictly rising keys. -/
def Tab.rising (t : Tab α) : Bool :=
  match t with
  | [] => true
  | [_] => true
  | (j, _) :: (k, w) :: r => decide (j < k) && Tab.rising ((k, w) :: r)

/-- The canonical form: strictly rising keys, and no entry equal to what an unlisted key reads as. (log 10, DEDUCED) -/
def Tab.wf [DecidableEq α] (t : Tab α) (dflt : α) : Bool :=
  Tab.rising t && t.all (fun e => decide (e.2 ≠ dflt))

/-- Read `n` consecutive values from a key on. -/
def Tab.read (t : Tab α) (dflt : α) (k : Nat) : Nat → List α
  | 0 => []
  | n + 1 => Tab.get t dflt k :: Tab.read t dflt (k + 1) n

/-- Write consecutive values from a key on. -/
def Tab.write [DecidableEq α] (t : Tab α) (dflt : α) (k : Nat) : List α → Tab α
  | [] => t
  | v :: vs => Tab.write (Tab.set t dflt k v) dflt (k + 1) vs

end Sys2Proof.Machine
end

