-- ==== Sys2Proof/Machine/Regs.lean ====
section
/-! DEFINITION. Where a register lies and what its word holds: the address map of R6, R20, R22, R23 and R72, reset values,
and reading and writing one named field. Everything else about a register access is in Access.lean. -/
namespace Sys2Proof.Machine

/-- The flat offset of an engine's block (R20, R72): C0 to C15, P0 to P55, P56 to P111. -/
def engineBase (e : Nat) : Nat :=
  if e < 16 then 0x1000000 + e * 0x10000
  else if e < 72 then 0x2000000 + (e - 16) * 0x10000
  else 0x3000000 + (e - 72) * 0x10000

/-- The domain of an engine (R20). -/
def engineDomain (e : Nat) : Nat := if e < 16 then 1 else if e < 72 then 2 else 3

/-- The flat offset of a client port's block (R22); port 144's gate sequencer lies in D9:0x20 (R377). -/
def portBase (p : Nat) : Nat :=
  if p < 72 then 0xA000000 + p * 0x10000
  else if p < 144 then 0xB000000 + (p - 72) * 0x10000
  else 0x9200000

/-- The domain of a port (R19). -/
def portDomain (p : Nat) : Nat := if p < 72 then 10 else if p < 144 then 11 else 9

/-- The engine of a context (R23). -/
def ctxEngine (c : Nat) : Nat := c / 8

/-- The domain of a context. -/
def ctxDomain (c : Nat) : Nat := engineDomain (ctxEngine c)

/-- The base of instance `i` of a space. -/
def Space.base : Space → Nat → Nat
  | .flat, _ => 0
  | .engine, i => engineBase i
  | .context, i => engineBase (i / 8) + 0x100 + 0x40 * (i % 8)
  | .ctxWindow, i => engineBase (i / 8) + 0x800 + 0x100 * (i % 8)
  | .port, i => portBase i
  | .gatePort, i => portBase i
  | .portGroup, i => 0xA800000 + i * 0x1000000
  | .dsGroup, i => 0x9100200 + 0x20 * i
  | .dsChannel, i => 0x9110000 + 0x10000 * i
  | .usChannel, i => 0x9150000 + 0x10000 * i
  | .allocation, i => 0x5140000 + 0x20 * i
  | .pipeline, i => 0x4010000 + 0x10000 * i
  | .ternarySet, i => 0x4110000 + 0x10000 * i
  | .requester, i => 0x5001000 + 0x40 * i
  | .queue, i => 0x5100000 + 0x10 * i
  | .latencyRing, i => 0x5131000 + 0x20 * i
  | .captureRing, i => 0x5133000 + 0x20 * i
  | .cxPort, i => 0x8001000 + 0x20 * i
  | .cxLane, i => 0x8010000 + 0x10000 * i
  | .secContext, i => 0x8100000 + 0x40 * i
  | .powerDomain, i => 0x30100 + 0x20 * i

/-- A run of equally spaced instances: from `base`, `stride` apart, numbers `lo` to `hi - 1`. -/
def locateRun (base stride lo hi a : Nat) : Option (Nat × Nat) :=
  if base + stride * lo ≤ a ∧ a < base + stride * hi then some ((a - base) / stride, (a - base) % stride) else none

/-- The engine whose block holds a flat offset, and the offset in it. -/
def locateEngine (a : Nat) : Option (Nat × Nat) :=
  match locateRun 0x1000000 0x10000 0 16 a with
  | some x => some x
  | none => match locateRun 0x2000000 0x10000 0 56 a with
    | some (e, o) => some (e + 16, o)
    | none => match locateRun 0x3000000 0x10000 0 56 a with
      | some (e, o) => some (e + 72, o)
      | none => none

/-- The client port whose block holds a flat offset, and the offset in it. -/
def locatePort (a : Nat) : Option (Nat × Nat) :=
  match locateRun 0xA000000 0x10000 0 72 a with
  | some x => some x
  | none => match locateRun 0xB000000 0x10000 0 72 a with
    | some (p, o) => some (p + 72, o)
    | none => none

/-- The instance of a space that holds a flat offset, and the offset in it. -/
def Space.locate : Space → Nat → Option (Nat × Nat)
  | .flat, a => some (0, a)
  | .engine, a => locateEngine a
  | .context, a => (locateEngine a).bind fun (e, o) => (locateRun 0x100 0x40 0 8 o).map fun (c, x) => (e * 8 + c, x)
  | .ctxWindow, a => (locateEngine a).bind fun (e, o) => (locateRun 0x800 0x100 0 8 o).map fun (c, x) => (e * 8 + c, x)
  | .port, a => locatePort a
  | .gatePort, a =>
    match locatePort a with
    | some x => some x
    | none => if 0x9200000 ≤ a ∧ a < 0x9210000 then some (144, a - 0x9200000) else none
  | .portGroup, a => locateRun 0xA800000 0x1000000 0 2 a
  | .dsGroup, a => locateRun 0x9100200 0x20 0 4 a
  | .dsChannel, a => locateRun 0x9110000 0x10000 0 4 a
  | .usChannel, a => locateRun 0x9150000 0x10000 0 2 a
  | .allocation, a => locateRun 0x5140000 0x20 0 512 a
  | .pipeline, a => locateRun 0x4010000 0x10000 0 8 a
  | .ternarySet, a => locateRun 0x4110000 0x10000 0 2 a
  | .requester, a => locateRun 0x5001000 0x40 0 256 a
  | .queue, a => locateRun 0x5100000 0x10 0 4096 a
  | .latencyRing, a => locateRun 0x5131000 0x20 0 64 a
  | .captureRing, a => locateRun 0x5133000 0x20 0 240 a
  | .cxPort, a => locateRun 0x8001000 0x20 0 144 a
  | .cxLane, a => locateRun 0x8010000 0x10000 0 12 a
  | .secContext, a => locateRun 0x8100000 0x40 0 1024 a
  | .powerDomain, a => locateRun 0x30100 0x20 1 13 a

/-- The flat offset of element `k` of instance `i` of a register. -/
def Reg.addr (r : Reg) (i k : Nat) : Nat := r.place.space.base i + r.place.off + k * r.place.stride

/-- A word of a register: the register, its instance and element, and whether it is the high word of a 64-bit register. -/
structure Loc where
  reg : Reg
  i : Nat := 0
  k : Nat := 0
  high : Bool := false
deriving DecidableEq, Repr

/-- Where a flat offset lies in one register, if it does. -/
def Reg.locate (r : Reg) (a : Nat) : Option Loc :=
  match r.place.space.locate a with
  | none => none
  | some (i, o) =>
    let p := r.place
    if o < p.off then none
    else
      let d := o - p.off
      let k := if p.count ≤ 1 then 0 else d / p.stride
      let x := d - k * p.stride
      if k < max p.count 1 ∧ x < (if p.wide then 8 else 4) then some ⟨r, i, k, decide (4 ≤ x)⟩ else none

/-- The domain that holds a register (R6). -/
def Reg.domain (r : Reg) (i : Nat) : Nat := r.addr i 0 / 0x1000000

/-- The register word at a flat offset, if the block there has one. -/
def Loc.find (a : Nat) : Option Loc :=
  (Reg.all.filter (fun r => r.place.space != .flat || r.place.off / 0x10000 == a / 0x10000)).findSome? (fun r => r.locate a)

/-- The blocks of R20; an access to any other is unmapped (R21). -/
def blockListed (dom blk : Nat) : Bool :=
  match dom with
  | 0 => blk ≤ 6
  | 1 => blk ≤ 0x0F || blk == 0x40 || blk == 0x50
  | 2 => blk ≤ 0x37
  | 3 => blk ≤ 0x37
  | 4 => blk ≤ 8 || (0x10 ≤ blk && blk ≤ 0x12) || blk == 0x18
  | 5 => blk ≤ 1 || (0x10 ≤ blk && blk ≤ 0x14)
  | 6 => blk == 0
  | 7 => blk == 0
  | 8 => blk ≤ 0x0C || blk == 0x10 || blk == 0x20
  | 9 => blk ≤ 1 || (0x10 ≤ blk && blk ≤ 0x16) || blk == 0x20
  | 10 => blk ≤ 0x47 || blk == 0x80
  | 11 => blk ≤ 0x47 || blk == 0x80
  | 12 => blk ≤ 3
  | _ => false

/-- The reset mapping of queues to requesters (R417). -/
def queueRequester (q : Nat) : Nat :=
  if q < 1152 then 128 + q % 8
  else if q < 3200 then 136 + (q - 1152) % 4
  else if q < 3328 then 144
  else if q < 3344 then 145
  else if q < 3856 then 146
  else 147

/-- The reset word that a register's fields give. -/
def Reg.fieldReset (r : Reg) : Nat := r.fields.foldl (fun a f => a + f.rst * 2 ^ f.lo) 0

/-- The reset value of a register; the registers whose reset depends on the instance are the ones the manual gives so. -/
def Reg.reset (r : Reg) (i k : Nat) : Nat :=
  match r with
  | .MG_EVT_CFG => 1 + k % 1024 * 256 + (if k = 14 ∨ k = 16 then 10 * 2 ^ 24 else 0)
  | .LD_QREQ => queueRequester k
  | .LD_POOL_REGION => if k = 0 then 16 else if k = 1 then 48 else if k = 2 then 96 else 64
  | .TM_Q_CFG => r.fieldReset + (if i < 1152 then i % 8 * 2 else 0)
  | .CX_SC_CFG => if 1016 ≤ i then 16 else 0
  | .TM_ALLOC_MAP => if i = 511 then 0x8000 else 0
  | _ => r.fieldReset

/-- The key under which a register's value is held. -/
def Reg.key (r : Reg) (i k : Nat) : Nat := (r.ctorIdx * 4096 + i) * 4096 + k

/-- The register of a key. -/
def Reg.ofKey (n : Nat) : Reg := (Reg.all[n / 16777216]?).getD .KT_BOOT_STATUS

/-- What an unlisted register reads as: its reset value. -/
def regDefault (n : Nat) : Quad := BitVec.ofNat 64 ((Reg.ofKey n).reset (n / 4096 % 4096) (n % 4096))

/-- The value of a register. -/
def State.rdReg (s : State) (r : Reg) (i k : Nat := 0) : Quad :=
  Tab.get s.regs (BitVec.ofNat 64 (r.reset i k)) (r.key i k)

/-- Set the value of a register. -/
def State.wrReg (s : State) (r : Reg) (v : Quad) (i k : Nat := 0) : State :=
  { s with regs := Tab.set s.regs (BitVec.ofNat 64 (r.reset i k)) (r.key i k) v }

/-- The value of a field. -/
def State.rd (s : State) (f : Fld) (i k : Nat := 0) : Nat := bits (s.rdReg f.reg i k).toNat f.lo f.len

/-- A one-bit field as a truth value. -/
def State.on (s : State) (f : Fld) (i k : Nat := 0) : Bool := s.rd f i k == 1

/-- Set a field. -/
def State.wr (s : State) (f : Fld) (v : Nat) (i k : Nat := 0) : State :=
  s.wrReg f.reg (BitVec.ofNat 64 (putBits (s.rdReg f.reg i k).toNat f.lo f.len v)) i k

/-- Set or clear a one-bit field. -/
def State.flag (s : State) (f : Fld) (b : Bool) (i k : Nat := 0) : State := s.wr f (b2n b) i k

/-- Add to a counter field, which saturates at all-ones. -/
def State.count (s : State) (f : Fld) (i k : Nat := 0) (n : Nat := 1) : State :=
  s.wr f (satAdd f.len (s.rd f i k) n) i k

/-- Return the registers of a domain that `keep` does not name to their reset values. -/
def State.resetDomain (s : State) (d : Nat) (keep : Reg → Bool) : State :=
  let stay := fun n => (Reg.ofKey n).domain (n / 4096 % 4096) ≠ d || keep (Reg.ofKey n)
  { s with regs := Tab.keep s.regs stay, latched := Tab.keep s.latched stay, lowHalf := Tab.keep s.lowHalf stay }

end Sys2Proof.Machine
end

