-- ==== Sys2Proof/Machine/Ops.lean ====
section
/-! DEFINITION. The shared operations of the block: time, sleep, votes, events, messages and result slots. -/
namespace Sys2Proof.Machine

/-! ## Pieces of the state -/

/-- A context. -/
def State.ctx (s : State) (c : Nat) : Ctx := Tab.get s.pre.ctxs {} c

/-- Replace a context. -/
def State.setCtx (s : State) (c : Nat) (x : Ctx) : State :=
  { s with pre := { s.pre with ctxs := Tab.set s.pre.ctxs {} c x } }

/-- An engine. -/
def State.eng (s : State) (e : Nat) : Eng := Tab.get s.pre.engs {} e

/-- Replace an engine. -/
def State.setEng (s : State) (e : Nat) (x : Eng) : State :=
  { s with pre := { s.pre with engs := Tab.set s.pre.engs {} e x } }

/-- A gate sequencer. -/
def State.gate (s : State) (p : Nat) : GateSeq := Tab.get s.pre.gates {} p

/-- Replace a gate sequencer. -/
def State.setGate (s : State) (p : Nat) (x : GateSeq) : State :=
  { s with pre := { s.pre with gates := Tab.set s.pre.gates {} p x } }

/-- Record what the terminal puts on its outside. (log 83, DESIGN CHOICE) -/
def State.emit (s : State) (o : Out) : State := { s with outs := o :: s.outs }

/-- The code of a source (R581). -/
def srcCode : Src → Nat
  | .hw => 0
  | .serial => 1
  | .host => 2
  | .proxy => 3
  | .ctx c => 0x8000 + c

/-- The requester that a latch or a staging set belongs to (R264, R451): each port has one, and each engine has one. -/
def requesterOf : Src → Nat
  | .hw => 0
  | .serial => 1
  | .host => 2
  | .proxy => 3
  | .ctx c => 16 + c / 8

/-- An access has head-end authority: through the proxy, or from a context of authority 0b11 (R78, R533). -/
def State.headEnd (s : State) : Src → Bool
  | .proxy => true
  | .ctx c => (s.ctx c).auth = 3
  | _ => false

/-! ## Time (R262) -/

/-- TB_NS. -/
def State.ns (s : State) : BitVec 32 := (s.tb.acc.extractLsb' 44 32)

/-- TB_WRAP. -/
def State.wrap (s : State) : BitVec 32 := (s.tb.acc.extractLsb' 76 32)

/-- The top 8 bits of the fraction. -/
def State.frac (s : State) : BitVec 8 := (s.tb.acc.extractLsb' 36 8)

/-- The present time in the 40-bit time-stamp layout of R18. -/
def State.stamp40 (s : State) : Nat := s.ns.toNat * 256 + s.frac.toNat

/-- Nanoseconds since the timebase started, which no step of TB_NS changes. (log 58, DESIGN CHOICE) -/
def State.ns64 (s : State) : Nat := s.tb.gained / 2 ^ 44

/-- TB_INCR_NOM: calibrated, or the default where the calibration check has failed (R118, R263). -/
def State.nominal (s : State) : BitVec 48 := if s.boot.calibBad then Config.incrDefault else Config.incrNom

/-- Time-stamps are valid (R260). -/
def State.tsValid (s : State) : Bool := s.on Fld.TB_STATUS_TSVALID

/-- The bits of a register whose fields satisfy a test. -/
def Reg.mask (r : Reg) (p : Access → Bool) : Nat := r.fields.foldl (fun a f => if p f.acc then a ||| (2 ^ f.len - 1) * 2 ^ f.lo else a) 0

/-- A quantity that is measured every `period` ns: a free value for each update, kept to the fields of its register; 0 before the
first since its domain got its power. (log 41, DESIGN CHOICE) -/
def State.measured (s : State) (r : Reg) (i k period : Nat) : Nat :=
  if s.ns64 / period = Tab.get s.pow.upAt 0 (r.domain i) / period then 0 else (Config.measured (r.key i k) (s.ns64 / period)).toNat &&& r.mask (fun _ => true)

/-- The domains of a mask get their power; when, is kept for those that had none. -/
def State.powerOn (s : State) (mask : Nat) : State :=
  let new := (List.range 13).filter fun d => bit mask d && !bit s.boot.powered d
  { s with boot := { s.boot with powered := s.boot.powered ||| mask }
           pow := { s.pow with upAt := new.foldl (fun t d => Tab.set t 0 d s.ns64) s.pow.upAt } }

/-- extend of R270: the count of TB_NS since power-on that a 32-bit value stands for, by the last observation in the epoch record. -/
def State.extend (s : State) (x : BitVec 32) : BitVec 64 :=
  let obs := leNat (Tab.read s.pre.shared 0 0x208 8)
  BitVec.ofNat 64 obs + (x - BitVec.ofNat 32 obs).signExtend 64

/-- A target time has been reached: the signed difference target − TB_NS is not above zero (R57). -/
def reached (now target : BitVec 32) : Bool := decide ((target - now).toInt ≤ 0)

/-! ## Sleep (R114, R495) -/

/-- A domain counts as asleep: it has no power, or it is not at Full and settled. D0 never sleeps. -/
def State.asleep (s : State) (d : Nat) : Bool :=
  d ≠ 0 && (!bit s.boot.powered d || s.rd Fld.PW_DOM_STATUS_DEPTH d ≠ 0 || s.on Fld.PW_DOM_STATUS_ENTERING d
    || s.on Fld.PW_DOM_STATUS_EXITING d)

/-! ## Events (R545 to R552) -/

/-- Pack payload items from bit 0; an item past bit 63 is omitted together with every item after it (R547). (log 35, DEDUCED) -/
def packItems : List (Nat × Nat) → Nat → Nat
  | [], _ => 0
  | (w, v) :: r, at_ => if at_ + w > 64 then 0 else v % 2 ^ w * 2 ^ at_ + packItems r (at_ + w)

/-- The two words of a record, with the phase it is written with (R546). (log 35, DEDUCED) -/
def recordBits (r : EvRecord) (phase : Bool) : BitVec 128 :=
  BitVec.ofNat 128 (r.ev % 1024 + b2n phase * 2 ^ 15 + min r.count 255 * 2 ^ 16 + b2n r.tsv * 2 ^ 24
    + b2n r.latched * 2 ^ 25 + r.ns.toNat * 2 ^ 32 + r.payload.toNat * 2 ^ 64)

/-- A vector's message is sent, or its pending bit set while it is masked (R552). (log 86, DESIGN CHOICE) -/
def State.sendVector (s : State) (v : Nat) : State :=
  let s1 := { s with cp := { s.cp with vecPend := Tab.set s.cp.vecPend 0 v 0 } }
  if s.on Fld.MG_MSIX_CTRL_MASK 0 v then
    s1.wrReg .MG_MSIX_PBA (BitVec.ofNat 64 ((s1.rdReg .MG_MSIX_PBA 0 (v / 64)).toNat ||| 2 ^ (v % 64))) 0 (v / 64)
  else s1.emit (.msix v)

/-- A record has been written to the ring: it is pending on its vector, which sends at THRESH records or at once where ITVL
is 0 (R552). -/
def State.signal (s : State) (n : Nat) : State :=
  let v := s.rd Fld.MG_EVT_CFG_VEC 0 n
  let k := Tab.get s.cp.vecPend 0 v + 1
  let first := if k = 1 then Tab.set s.cp.vecAt 0 v s.ns64 else s.cp.vecAt
  let s1 := { s with cp := { s.cp with vecPend := Tab.set s.cp.vecPend 0 v k, vecAt := first } }
  if s.rd Fld.MG_VEC_MOD_ITVL 0 v = 0 ∨ s.rd Fld.MG_VEC_MOD_THRESH 0 v ≤ k then s1.sendVector v else s1

/-- The ring can take a record: WR + 1 is not RD (R548). -/
def State.ringRoom (s : State) : Bool :=
  let n := 2 ^ s.rd Fld.MG_RING_CTRL_SIZE
  (s.rd Fld.MG_RING_WR_INDEX + 1) % n ≠ s.rd Fld.MG_RING_RD_INDEX

/-- Write one record into the ring's next entry; the phase inverts at each wrap (R548). -/
def State.ringPut (s : State) (r : EvRecord) : State :=
  let n := 2 ^ s.rd Fld.MG_RING_CTRL_SIZE
  let w := s.rd Fld.MG_RING_WR_INDEX
  let a := (s.rdReg .MG_RING_BASE).toNat + 16 * w
  let s1 := { s with cp := { s.cp with
    hostMem := Tab.set s.cp.hostMem 0 a (recordBits r s.cp.ringPhase)
    ringPhase := if w + 1 = n then !s.cp.ringPhase else s.cp.ringPhase } }
  (s1.wr Fld.MG_RING_WR_INDEX ((w + 1) % n)).signal r.ev

/-- A record reaches the ring: when it is full the record is lost and counted; when space has returned an EventRingOverflow
(961) record with the lost count comes first (R548). (log 36, DEDUCED) -/
def State.ringWrite (s : State) (r : EvRecord) : State :=
  let lost := fun (t : State) => ({ t with cp := { t.cp with ringLost := t.cp.ringLost + 1 } }).count Fld.MG_RING_LOST_COUNT
  if s.ringRoom then
    if s.cp.ringLost = 0 then s.ringPut r
    else
      let o : EvRecord := { ev := 961, count := 1, tsv := s.tsValid, ns := s.ns, payload := BitVec.ofNat 64 (s.cp.ringLost % 2 ^ 32) }
      let s0 := if s.on Fld.MG_EVT_CFG_EN 0 961 then s.ringPut o else s
      let s1 := { s0 with cp := { s0.cp with ringLost := 0 } }
      if s1.ringRoom then s1.ringPut r else lost s1
  else lost s

/-- A record goes to the Kettle latch; one that finds the latch full is counted (R550). -/
def State.latchPut (s : State) (r : EvRecord) : State :=
  if s.cp.latch.length < 64 then { s with cp := { s.cp with latch := s.cp.latch ++ [{ r with latched := true }] } }
  else ({ s with cp := { s.cp with latchLost := s.cp.latchLost + 1 } }).count Fld.MG_LATCH_STAT_LOST

/-- A record is written: to the ring when it can take records and the latch is empty, otherwise to the latch (R550). -/
def State.record (s : State) (r : EvRecord) : State :=
  if !s.asleep 12 && s.on Fld.MG_RING_CTRL_EN && s.cp.latch.isEmpty then s.ringWrite r else s.latchPut r

/-- The key of a limit window: a chapter's own (one for each object it names) or RATE's (R549). -/
def windowKey (rate : Bool) (n obj : Nat) : Nat := (obj * 1024 + n) * 2 + b2n rate

/-- How long the window of an event's limit lasts, in ns (R549): a second, or the minute of TodInputError and TodOutputMissed (R287, R288). -/
def windowTime (rate : Bool) (ev : Nat) : Nat := if !rate && (ev = 71 || ev = 73) then 60000000000 else 1000000000

/-- One occurrence at time `now` meets a limit of `n` records per second (R549): it is written at once, or accumulated. (log 36, DEDUCED) -/
def limitOne (now : Nat) (w : EvWindow) (n : Nat) (r : EvRecord) : EvWindow × Bool :=
  if !w.isOpen then ({ isOpen := true, openAt := now, wrote := 1 }, true)
  else if w.wrote < n then ({ w with wrote := w.wrote + 1 }, true)
  else ({ w with acc := w.acc + r.count, first := w.first.getD r |> some }, false)

/-- The record passes RATE (R549). (log 36, DEDUCED) -/
def State.rateLimit (s : State) (r : EvRecord) : State :=
  let rate := s.rd Fld.MG_EVT_CFG_RATE 0 r.ev
  if rate = 0 then s.record r
  else
    let k := windowKey true r.ev 0
    let x := limitOne s.ns64 (Tab.get s.cp.windows {} k) rate r
    let s1 := { s with cp := { s.cp with windows := Tab.set s.cp.windows {} k x.1 } }
    if x.2 then s1.record r else s1

/-- Raise an event: nothing while it is disabled; `limit` is the owning chapter's limit in records per second for `obj`
(0: none), applied before RATE, and `cnt` how many occurrences are taken together (R549). (log 35, DEDUCED) -/
def State.raise (s : State) (n : Nat) (items : List (Nat × Nat)) (limit : Nat := 0) (obj : Nat := 0) (cnt : Nat := 1) : State :=
  if !s.on Fld.MG_EVT_CFG_EN 0 n then s
  else
    let r : EvRecord := { ev := n, count := cnt, tsv := s.tsValid, ns := s.ns, payload := BitVec.ofNat 64 (packItems items 0) }
    if limit = 0 then s.rateLimit r
    else
      let k := windowKey false n obj
      let x := limitOne s.ns64 (Tab.get s.cp.windows {} k) limit r
      let s1 := { s with cp := { s.cp with windows := Tab.set s.cp.windows {} k x.1 } }
      if x.2 then s1.rateLimit r else s1

/-- Raise an event `k` times under a limit of one record per second (R549): the first is written where a window opens, the rest are
accumulated. -/
def State.raiseMany (s : State) (n k : Nat) (items : List (Nat × Nat)) (obj : Nat) : State :=
  if k = 0 then s
  else if k = 1 then s.raise n items 1 obj
  else (s.raise n items 1 obj).raise n items 1 obj (k - 1)

/-! ## Result slots (R543) -/

/-- A completion of a result slot whose status register has READY, STALE and NOTREADY in bits 0 to 2 and SEQ in `seq`. -/
def State.completeSlot (s : State) (r : Reg) (seq : Fld) (i k : Nat := 0) : State :=
  (((s.wr ⟨r, 0, 1⟩ 1 i k).wr ⟨r, 1, 1⟩ 0 i k).wr ⟨r, 2, 1⟩ 0 i k).wr seq (s.rd seq i k + 1) i k

/-- A request to a result slot: NOTREADY is set and READY cleared. -/
def State.requestSlot (s : State) (r : Reg) (i k : Nat := 0) : State :=
  (s.wr ⟨r, 0, 1⟩ 0 i k).wr ⟨r, 2, 1⟩ 1 i k

/-! ## Votes and the Kettle's limits (R495, R496, R502, R505) -/

/-- A listed register entry: its register, instance and value. -/
def regEntry (e : Nat × Quad) : Reg × Nat × Nat := (Reg.ofKey e.1, e.1 / 4096 % 4096, e.2.toNat)

/-- Some enabled client receive direction whose LPI state is `lpi`. -/
def State.someRx (s : State) (lpi : Bool) : Bool :=
  s.regs.any fun e => match regEntry e with
    | (.LN_CTRL, p, v) => bit v 0 && (s.on Fld.LN_STATUS_RXLPI p == lpi)
    | _ => false

/-- The deepest depth R502 allows a domain. -/
def State.cap (s : State) (d : Nat) : Nat :=
  let m := s.rd Fld.PW_CTRL_MAXDEPTH
  if 2 ≤ d ∧ d ≤ 11 then
    if s.someRx false || s.rd Fld.OP_DS_STATUS_RXON ≠ 0 then min m 1
    else if s.someRx true then min m (if s.on Fld.PW_CTRL_LPINAP then 2 else 1)
    else m
  else if d = 12 ∧ s.on Fld.MG_PCIE_STATUS_UP then min m 2
  else m

/-- The HBM domain that holds an offset of an interleaved partition: bit 12 chooses the stack (R412). (log 11, DESIGN CHOICE) -/
def interleavedDomain (o : Nat) : Nat := if bit o 12 then 7 else 6

/-- The HBM domain of a packet-store cell (R412). (log 11, DESIGN CHOICE) -/
def cellDomain (c : Nat) : Nat := if bit c 26 then 7 else 6

/-- The domain that a hardware call acts in; 0 where it acts in D0 or in the caller's own domain (R95). -/
def callDomain (n : Nat) : Nat :=
  match n with
  | 0x02 | 0x03 | 0x05 | 0x06 | 0x10 | 0x11 | 0x30 | 0x31 => 5
  | 0x04 | 0x20 | 0x21 => 4
  | 0x40 | 0x41 => 8
  | _ => 0

/-- The domain of a K access that reaches cells (R44), else none. -/
def Ctx.cellsDomain (x : Ctx) (addr len : Nat) : List Nat :=
  if addr + len ≤ 256 then [] else match x.pkt with
    | some p => [cellDomain (bits p.handle 0 30)]
    | none => []

/-- The domains in which a context's waiting access holds a data-path vote (R48, R84, R95). -/
def Ctx.waitDomains (x : Ctx) : List Nat :=
  match x.wait with
  | some (.load _ .s _ _ _ _) => [1]
  | some (.load _ .h a _ _ _) => [interleavedDomain a]
  | some (.load _ .k a n _ _) => x.cellsDomain a n
  | some (.atomic _ _ _ _ _ _ _) => [1]
  | some (.hcall _ n _ none) => [callDomain n]
  | _ => []

/-- The domains that a posted store still has to reach (R47, R48). -/
def Ctx.storeDomains (x : Ctx) : List Nat :=
  x.posted.flatMap fun w => match w.sp with
    | .s => [1]
    | .h => [interleavedDomain w.addr]
    | .k => x.cellsDomain w.addr w.data.length
    | .l => []

/-- The domains of a load in progress (R132). -/
def State.loadVotes (s : State) : List Nat :=
  s.pre.engs.flatMap (fun e => match e.2.load with
      | some _ => engineDomain e.1 :: (if bit (s.rdReg .PR_LOAD_SRC e.1).toNat 62 then [1] else [6, 7])
      | none => [])
    ++ s.pre.gates.flatMap (fun g => match g.2.load with
      | some _ => portDomain g.1 :: (if bit (s.rdReg .GT_LOAD_SRC g.1).toNat 62 then [1] else [6, 7])
      | none => [])

/-- An XGEM frame carries an encrypted fragment (R154). -/
def keyedFragment (x : Xgem) : Bool := match x with | .frag _ k _ _ _ => k ≠ 0 | _ => false

/-- An XGEM frame needs the cipher engine: it carries an encrypted fragment, or completes an SDU that began with one (R153). -/
def State.keyedXgem (s : State) (ch : Nat) (x : Xgem) : Bool :=
  keyedFragment x || (match x with
    | .frag port _ true _ _ => (Tab.get s.fib.reasm none (65536 * ch + port)).any (fun r => r.key ≠ 0)
    | _ => false)

/-- A downstream frame of a channel needs the cipher engine. -/
def State.keyedFrame (s : State) (ch : Nat) (f : DsFrame) : Bool := f.xgem.any (s.keyedXgem ch)

/-- A boundary store holds work for a domain (R25, R29): frames for the convergence, or for a MAC, in D9 to D11, and for the cipher engine in D8
where they need it; and SDUs held for reordering are in D6, D7 and D9. -/
def State.storesFor (s : State) (d : Nat) : Bool :=
  s.fib.chans.any (fun e => !e.2.store.isEmpty && (d = 9 || (d = 8 && e.2.store.any (fun x => s.keyedFrame e.1 x.frame))))
    || ((d = 6 || d = 7 || d = 9) && s.fib.groups.any (fun e => !e.2.held.isEmpty))
    || s.macs.any (fun e => !e.2.inbox.isEmpty && (d = portDomain e.1 || (d = 8 && s.rd Fld.CX_PORT_CFG_VALIDATE e.1 ≠ 0)))

/-- The domains that serve the packets of a queue (R16, R25): the client port's, the engine's, Sieve's, the HBM's, or the shared fibre's. -/
def queueDomains (q : Nat) : List Nat :=
  if q < 1152 then [portDomain (q / 8)]
  else if q < 3200 then [9]
  else if q < 3328 then [engineDomain (q - 3200)]
  else if q < 3344 then [4]
  else if q < 3856 then [9]
  else [6, 7]

/-- A port's client lane can send. -/
def State.portSends (s : State) (p : Nat) : Bool := decide (s.rd Fld.LN_STATUS_STATE p = 4) && s.on Fld.LN_CTRL_TXEN p

/-- A queue's packets can be served as soon as their domain is awake: the client port sends, a context waits for a packet, or the queue is the
back burner's or a capture queue. Upstream frames wait for their grants, which are known events (R236). -/
def State.queueServed (s : State) (q : Nat) : Bool :=
  if q < 1152 then s.portSends (q / 8)
  else if q < 3200 then false
  else if q < 3328 then s.pre.ctxs.any (fun e => ctxEngine e.1 == q - 3200 && (match e.2.wait with | some (.pktNext _) => true | _ => false))
  else if q < 3344 then true
  else 3856 ≤ q

/-- Work is pending that holds the data-path vote of a domain (R25, R48, R84, R95, R132, R550). (log 55, DEDUCED) -/
def State.dataPending (s : State) (d : Nat) : Bool :=
  (4 ≤ d && d ≤ 7 && s.sv.rx.any (fun e => !e.2.isEmpty)) || (d = 4 && !s.sv.fragWait.isEmpty)
    || s.storesFor d
    || s.ld.xf.any (fun e => portDomain e.1 = d && (e.2.bank0.isSome || e.2.bank1.isSome) && s.portSends e.1)
    || s.tm.queues.any (fun e => !e.2.isEmpty && (queueDomains e.1).contains d && s.queueServed e.1)
    || s.pre.ctxs.any (fun e => e.2.waitDomains.contains d || e.2.storeDomains.contains d)
    || s.pre.flights.any (fun f => (match f.dest with | .ctx c => ctxDomain c | .gate p => portDomain p) == d)
    || s.loadVotes.contains d
    || (d == 12 && !s.cp.latch.isEmpty && s.on Fld.MG_RING_CTRL_EN)

/-- A context that is Ready, or whose recv has a message to take. -/
def Ctx.active (x : Ctx) : Bool :=
  x.st == .ready || (!x.mbx.isEmpty && (match x.wait with | some (.recv _ _ _) => true | _ => false))

/-- The vote slots held in a domain (R496). -/
def State.slots (s : State) (d : Nat) : Nat :=
  let prog := s.pow.owner.foldl (fun a e => if e.1 / 32 = d then a ||| 2 ^ (e.1 % 32) else a) 0
  let ready := s.pre.ctxs.any (fun e => ctxDomain e.1 == d && e.2.active)
    || s.pre.gates.any (fun e => portDomain e.1 == d && e.2.st == .ready)
  prog + b2n (bit (s.rd Fld.PW_VOTE_HOST_DOM) (d - 1)) * 2 ^ 28 + b2n (bit (s.rd Fld.PW_VOTE_SER_DOM) (d - 1)) * 2 ^ 29
    + b2n (Tab.get s.pow.dataVotes 0 d ≠ 0 || ready || s.dataPending d) * 2 ^ 30 + b2n (Tab.get s.pow.kettleVotes 0 d ≠ 0) * 2 ^ 31

/-- The terminal is in Timekeep and not on its way out. -/
def State.keepsTime (s : State) : Bool := s.pow.timekeep && !s.pow.tkExiting

/-- A context of D1 is Ready, or has a message to take. -/
def State.visiting (s : State) : Bool := s.pre.ctxs.any (fun e => ctxDomain e.1 == 1 && e.2.active)

/-- The domain is to be at Full: a vote is held in it. In Timekeep no vote is honoured, but D1 wakes at a deadline and stays at Full while
a context of it is Ready (R517, R519). -/
def State.voted (s : State) (d : Nat) : Bool :=
  if s.keepsTime then
    d = 1 && (bit (Tab.get s.pow.kettleVotes 0 1) 1 || (s.rd Fld.PW_DOM_STATUS_DEPTH 1 = 0 && s.visiting))
  else s.slots d ≠ 0

/-- The known events of a context (R505): armed timers, the twait target and the pw.next time. -/
def Ctx.events (x : Ctx) : List (BitVec 32) :=
  (x.timers.filter (fun t => t.2.armed)).map (fun t => t.2.target)
    ++ (match x.wait with | some (.twait t) => [t] | _ => []) ++ (match x.pnext with | some t => [t] | none => [])

/-- The earlier of two known events, as TB_NS counts from now. -/
def earlier (now : BitVec 32) (a b : BitVec 32 × Nat) : BitVec 32 × Nat :=
  if (a.1 - now).toInt ≤ (b.1 - now).toInt then a else b

/-- The earliest known event that needs a domain, and the context that declared it, 0x3FF for a gate edge (R505); in Timekeep only
those of contexts with TKWAKE count (R519). -/
def State.nextEvent (s : State) (d : Nat) : Option (BitVec 32 × Nat) :=
  let cs := s.pre.ctxs.flatMap fun e =>
    if (ctxDomain e.1 = d ∨ bit (s.rd Fld.PW_NEED_DOM 0 e.1) (d - 1)) ∧ (!s.keepsTime || s.on Fld.PW_NEED_TKWAKE 0 e.1) then
      e.2.events.map (fun t => (t, e.1)) else []
  let gs := s.pre.gates.flatMap fun e =>
    if portDomain e.1 = d ∧ (if e.1 = 144 then s.rd Fld.TC_ACT_STATUS_STATE = 5 else s.on Fld.LN_CTRL_TXEN e.1) then
      e.2.edges.map (fun x => (x.1, 0x3FF)) else []
  match cs ++ gs with
  | [] => none
  | x :: r => some (r.foldl (earlier s.ns) x)

/-- The word of PW_DOM_NEXT. -/
def nextWord : Option (BitVec 32 × Nat) → Nat
  | none => 0
  | some (t, c) => t.toNat + c * 2 ^ 32 + 2 ^ 63

/-- Merge causes into the picker message that waits (R504), while EN = 1: bits [12:1] domains, bits 16 to 19 kinds. (log 55, DEDUCED) -/
def State.pickCause (s : State) (d kind : Nat) : State :=
  if !s.on Fld.PW_PICK_DEST_EN then s else
  { s with pow := { s.pow with pickCause := s.pow.pickCause ||| 2 ^ d ||| 2 ^ kind } }

/-- Cast or release a request of the Kettle's, slot 31 (R496): `b` 0 a wake time, 1 a deadline, which lasts until the known event
changes. -/
def State.kettleVote (s : State) (d b : Nat) (cast : Bool) : State :=
  { s with pow := { s.pow with kettleVotes := Tab.upd s.pow.kettleVotes 0 d (fun n => putBits n b 1 (b2n cast)) } }

/-- Start an entry or an exit of a domain as its votes, target and limit now require (R495, R502). `goal` is the depth that the
entry or exit leads to. -/
def State.moveDomain (s : State) (d : Nat) : State :=
  let want := if s.voted d || s.rd Fld.KT_BOOT_STATUS_STAGE < 8 then 0
    else if s.keepsTime then 3
    else min (s.rd Fld.PW_DOM_TARGET_DEPTH d) (s.rd Fld.PW_DOM_STATUS_CAP d)
  let depth := s.rd Fld.PW_DOM_STATUS_DEPTH d
  let goal := Tab.get s.pow.goal 0 d
  let aim := fun (t : State) => { t with pow := { t.pow with goal := Tab.set t.pow.goal 0 d want } }
  if !bit s.boot.powered d || depth = 4 then s
  else if s.on Fld.PW_DOM_STATUS_ENTERING d then
    if want < goal then
      aim ((s.flag Fld.PW_DOM_STATUS_ENTERING false d).flag Fld.PW_DOM_STATUS_EXITING true d)
    else s
  else if s.on Fld.PW_DOM_STATUS_EXITING d then
    if want < goal then aim s else s
  else if depth < want then aim (s.flag Fld.PW_DOM_STATUS_ENTERING true d)
  else if want < depth then aim (s.flag Fld.PW_DOM_STATUS_EXITING true d)
  else s

/-- Bring one domain's limit, known event and motion up to date (R502 to R505). -/
def State.settleDomain (s : State) (d : Nat) : State :=
  let cap := s.cap d
  let s1 := if cap = s.rd Fld.PW_DOM_STATUS_CAP d then s else (s.wr Fld.PW_DOM_STATUS_CAP cap d).pickCause d 19
  let nx := BitVec.ofNat 64 (nextWord (s1.nextEvent d))
  let s2 := if nx = s1.rdReg .PW_DOM_NEXT d then s1 else ((s1.wrReg .PW_DOM_NEXT nx d).kettleVote d 1 false).pickCause d 18
  let held := s2.slots d ≠ 0
  let s3 := if held == bit s2.pow.heldWas d then s2
    else ({ s2 with pow := { s2.pow with heldWas := putBits s2.pow.heldWas d 1 (b2n held) } }).pickCause d 17
  s3.moveDomain d

/-- Bring every domain up to date. Called wherever a vote, a target, a limit or a known event may have changed. (log 88, DESIGN CHOICE) -/
def State.settle (s : State) : State := (List.range' 1 12).foldl State.settleDomain s

/-- Cast or release one data-path vote, slot 30 (R496). -/
def State.dataVote (s : State) (d : Nat) (cast : Bool) : State :=
  { s with pow := { s.pow with dataVotes := Tab.upd s.pow.dataVotes 0 d (fun n => if cast then n + 1 else n - 1) } }

/-- Take the lowest free vote slot of a domain for a context, none where all are held (R497). (log 27, DESIGN CHOICE) -/
def State.takeSlot (s : State) (d c : Nat) : Option (Nat × State) :=
  ((List.range 28).find? (fun k => Tab.get s.pow.owner 0 (32 * d + k) = 0)).map fun k =>
    (k, ({ s with pow := { s.pow with owner := Tab.set s.pow.owner 0 (32 * d + k) (c + 1) } }).settle)

/-- Give a vote slot of a domain back. -/
def State.freeSlot (s : State) (d k : Nat) : State :=
  ({ s with pow := { s.pow with owner := Tab.set s.pow.owner 0 (32 * d + k) 0 } }).settle

/-- The base program set runs a role in a context: it is bound with LOADER 0b11 and has not ended. -/
def State.roleRuns (s : State) (c : Nat) : Bool :=
  (s.ctx c).loader = 3 && (match (s.ctx c).st with | .ready => true | .waiting => true | _ => false)

/-- Set PW_STATUS.STATE from the shallowest depth, raising PowerStateChanged (17) at a change (R494, R526). -/
def State.deviceState (s : State) : State :=
  let now := if s.pow.timekeep then 4
    else (List.range' 1 12).foldl (fun a d => min a (s.rd Fld.PW_DOM_STATUS_DEPTH d)) 3
  let old := s.rd Fld.PW_STATUS_STATE
  if now = old then s else (s.wr Fld.PW_STATUS_STATE now).raise 17 [(8, old), (8, now)]

/-! ## Downstream receivers (R139, R146, R171) -/

/-- A downstream channel. -/
def State.chan (s : State) (n : Nat) : Channel := Tab.get s.fib.chans {} n

/-- Replace a downstream channel. -/
def State.setChan (s : State) (n : Nat) (x : Channel) : State := { s with fib := { s.fib with chans := Tab.set s.fib.chans {} n x } }

/-- The synchronisation state of a channel (R146): 0 Hunt, 1 PreSync, 2 Sync, 3 ReSync, 4 Frozen. -/
def State.sync (s : State) (n : Nat) : Nat := s.rd Fld.TC_DSC_STATUS_SYNC n

/-- Set the synchronisation state; INSYNC follows it. -/
def State.setSync (s : State) (n st : Nat) : State :=
  (s.wr Fld.TC_DSC_STATUS_SYNC st n).wr Fld.TC_DS_MODE_INSYNC (putBits (s.rd Fld.TC_DS_MODE_INSYNC) n 1 (b2n (decide (st = 2))))

/-- Turn the receiver of a channel on: it starts in Hunt. `sleep`: role 14 turns it on, so that it counts as Frozen for a while
(R510). -/
def State.receiverOn (s : State) (sleep : Bool) (n : Nat) : State :=
  if bit (s.rd Fld.OP_DS_STATUS_RXON) n then s
  else
    let s1 := s.wr Fld.OP_DS_STATUS_RXON (putBits (s.rd Fld.OP_DS_STATUS_RXON) n 1 1)
    let s2 := s1.wr Fld.OP_DS_STATUS_SETTLED (putBits (s1.rd Fld.OP_DS_STATUS_SETTLED) n 1 1)
    ((s2.setChan n { s2.chan n with run := 0, win := [], grace := sleep, onAt := s2.ns64 }).setSync n 0).wr
      Fld.TC_DSC_STATUS_MISSED 0 n

/-- Turn on the receivers of every channel in use. -/
def State.receiversOn (s : State) (sleep : Bool) : State :=
  (if s.on Fld.TC_DS_MODE_BONDED then [0, 1, 2, 3] else [0]).foldl (fun t n => t.receiverOn sleep n) s

/-! ## Messages (R81 to R93) -/

/-- A status of R94: bit 63 and the code. -/
def statusWord (k : Nat) : Quad := BitVec.ofNat 64 (2 ^ 63 + k)

/-- The destination that a destination word names; `none` where R81 refuses it. -/
def destOf (w : Quad) : Option Agent :=
  let d := bits w.toNat 0 10
  if bits w.toNat 45 19 ≠ 0 then none
  else if bit w.toNat 36 && bits w.toNat 20 8 > 143 then none
  else match bits w.toNat 18 2 with
    | 0 => some (.ctx d)
    | 1 => if d ≤ 144 then some (.gate d) else none
    | _ => none

/-- The number of an agent in a header. -/
def agentNumber : Agent → Nat
  | .ctx c => c
  | .gate p => p

/-- The header of a message, as recv returns it (R82). -/
def Msg.header (m : Msg) : Quad :=
  let base := fun (src sgen srck auth : Nat) =>
    src + sgen * 2 ^ 10 + srck * 2 ^ 18 + (m.body.length - 1) % 8 * 2 ^ 21 + m.tag % 256 * 2 ^ 24 + auth * 2 ^ 38 + 2 ^ 63
  let auth := match m.sender with
    | .ctx _ _ a => a
    | .host _ => 2
    | .gate _ _ a => a
    | _ => 0
  match m.bounce with
  | some (d, g, bport) =>
    BitVec.ofNat 64 (base (agentNumber d) g (match d with | .ctx _ => 0 | .gate _ => 5) auth + 2 ^ 32 + 2 ^ 36 + b2n bport * 2 ^ 37)
  | none =>
    BitVec.ofNat 64 (match m.sender with
      | .ctx c g a => base c g 0 a
      | .host e => base e 0 1 2
      | .block k => base k 0 3 0
      | .timer t => base t 0 4 0
      | .gate p g a => base p g 5 a)

/-- A port's role generation; port 144's is always 0 (R90). -/
def State.portGen (s : State) (p : Nat) : Nat := if p < 144 then s.rd Fld.MC_ROLE_GEN p else 0

/-- The mailbox of an agent. -/
def State.mailbox (s : State) : Agent → List Msg
  | .ctx c => (s.ctx c).mbx
  | .gate p => (s.gate p).mbx

/-- Replace the mailbox of an agent. -/
def State.setMailbox (s : State) (a : Agent) (l : List Msg) : State :=
  match a with
  | .ctx c => s.setCtx c { s.ctx c with mbx := l }
  | .gate p => s.setGate p { s.gate p with mbx := l }

/-- The entries of an agent's mailbox: 16 for a context, 4 for a gate sequencer (R83). -/
def mailboxSize : Agent → Nat
  | .ctx _ => 16
  | .gate _ => 4

/-- An ordinary message is accepted while at least 3 entries are free (R83). -/
def State.roomOrdinary (s : State) (a : Agent) : Bool := (s.mailbox a).length + 3 ≤ mailboxSize a

/-- A bounce or a timer message is accepted while an entry is free. -/
def State.roomAny (s : State) (a : Agent) : Bool := (s.mailbox a).length < mailboxSize a

/-- Put a message at the end of a mailbox. -/
def State.pushMail (s : State) (a : Agent) (m : Msg) : State := s.setMailbox a (s.mailbox a ++ [m])

/-- The destination is loaded. -/
def State.loaded (s : State) : Agent → Bool
  | .ctx c => (s.ctx c).loader ≠ 0
  | .gate p => (s.gate p).loader ≠ 0

/-- The generation that fails the check of R91: the failed generation and BPORT, or none. -/
def State.staleGen (s : State) (a : Agent) (w : Quad) : Option (Nat × Bool) :=
  let dgen := bits w.toNat 10 8
  let pgen := bits w.toNat 28 8
  match a with
  | .ctx c =>
    if dgen ≠ (s.ctx c).gen.toNat then some (dgen, false)
    else if bit w.toNat 36 && pgen ≠ s.portGen (bits w.toNat 20 8) then some (pgen, true)
    else none
  | .gate p => if pgen ≠ s.portGen p then some (pgen, true) else none

/-- The number of a sender, for BounceLost (902). -/
def senderNumber : Sender → Nat
  | .ctx c _ _ => c
  | .host e => e
  | .block k => k
  | .timer t => t
  | .gate p _ _ => p

/-- A bounce is discarded and counted (R93). -/
def State.bounceLost (s : State) (m : Msg) (a : Agent) : State :=
  let s1 := match m.sender, a with
    | .ctx c _ _, _ => s.count Fld.PR_ENG_BOUNCE_LOST (ctxEngine c)
    | .host e, _ => s.count Fld.PR_ENG_BOUNCE_LOST e
    | _, .ctx d => s.count Fld.PR_ENG_BOUNCE_LOST (ctxEngine d)
    | _, .gate _ => s
  s1.raise 902 [(16, senderNumber m.sender), (16, agentNumber a)]

/-- Return a message to its sender as a bounce (R91, R93); a host message sets BOUNCED and BTAG (R89). -/
def State.bounce (s : State) (m : Msg) (a : Agent) (g : Nat) (bport : Bool) : State :=
  let b := { m with bounce := some (a, g, bport) }
  match m.sender with
  | .ctx c gen _ =>
    let s1 := s.count Fld.PR_ENG_BOUNCE_BOUNCED (ctxEngine c)
    if (s1.ctx c).gen.toNat = gen ∧ s1.roomAny (.ctx c) then s1.pushMail (.ctx c) b else s1.bounceLost m a
  | .host e =>
    (((s.count Fld.PR_ENG_BOUNCE_BOUNCED e).flag Fld.PR_HMSG_STATUS_BOUNCED true e).wr Fld.PR_HMSG_STATUS_BTAG m.tag e).raise
      901 [(16, e), (16, m.tag), (8, b2n bport)]
  | .gate p _ _ => if s.roomAny (.gate p) then s.pushMail (.gate p) b else s.bounceLost m a
  | _ => s.bounceLost m a

/-- A message arrives at its destination (R84, R91, R83): the status that its sender receives, and what becomes of it. -/
def State.arrive (s : State) (m : Msg) (a : Agent) : State × Nat :=
  if !s.loaded a then (s, 0x0C)
  else match s.staleGen a (m.dword.getD 0) with
    | some (g, bport) => (s.bounce m a g bport, 0)
    | none =>
      if s.roomOrdinary a then (s.pushMail a m, 0)
      else
        (match a with
          | .ctx c => s.count Fld.PR_CTX_MBX_REFUSED c
          | .gate _ => s, 0x0B)

/-- The blocks that send messages from a target register: 0 the PLOAM messages of R191, 1 the picker messages of R504; a larger
number 2 + c stands for transmit stamps to context c (R277). -/
def State.blockTarget (s : State) (kind : Nat) (m : Msg) : Option Quad :=
  if kind = 0 then some (s.rdReg .TC_PLOAM_TARGET &&& 0x1FFFFFFFFFFF)
  else if kind = 1 then some (s.rdReg .PW_PICK_DEST &&& 0x1FFFFFFFFFFF)
  else m.dword

/-- Try to deliver a hardware block's message: `none` while the block must hold it (R88). (log 84, DESIGN CHOICE) -/
def State.tryBlock (s : State) (kind : Nat) (m : Msg) : Option State :=
  match s.blockTarget kind m with
  | none => none
  | some w =>
    match destOf w with
    | none => none
    | some a =>
      if !s.loaded a then (if kind ≥ 2 then some s else none)
      else
        let m1 := { m with dword := some w, tag := if kind < 2 then bits w.toNat 37 8 else m.tag }
        match s.staleGen a w with
        | some (g, bport) => some (s.bounce m1 a g bport)
        | none => if s.roomOrdinary a then some (s.pushMail a m1) else none

/-- A hardware block sends a message; it waits behind any message the block already holds (R88). Time-stamps are held for each context they go to,
so that one mailbox that is full holds up no other. (log 84, DESIGN CHOICE) -/
def State.sendBlock (s : State) (kind : Nat) (m : Msg) : State :=
  let hold := { s with pre := { s.pre with held := s.pre.held ++ [(kind, m)] } }
  if s.pre.held.any (fun x => x.1 == kind) then hold
  else match s.tryBlock kind m with
    | some t => t.settle
    | none => hold

end Sys2Proof.Machine
end

