-- ==== Sys2Proof/Machine/Ladle.lean ====
section
/-! DEFINITION. Ladle (R411 to R438): the HBM partitions, the pools and their free lists, allocation under reserve and cap,
the free checks against the ledger, and the express FIFO banks. -/
namespace Sys2Proof.Machine

/-! ## Partitions and pools -/

/-- Cells per buffer of a pool (R415). -/
def poolCells (p : Nat) : Nat := if p = 0 then 1 else if p = 1 then 4 else if p = 2 then 10 else 40

/-- Largest LENGTH of a pool (R415). -/
def poolLargest (p : Nat) : Nat := poolCells p * 256

/-- The smallest pool whose largest LENGTH covers a length; none above 10,240 (R416). -/
def poolFor (len : Nat) : Option Nat :=
  if len ≤ 256 then some 0 else if len ≤ 1024 then some 1 else if len ≤ 2560 then some 2 else if len ≤ 10240 then some 3 else none

/-- Size in bytes of an applied partition (R411): 0 packet store, 1 ledger, 2 reorder, 3 Preoth data, 4 latency rings, 5 capture. -/
def State.partBytes (s : State) (n : Nat) : Nat := (s.ld.parts[n]?).getD 0 * 0x4000000

/-- The key of a byte of an interleaved partition in the model's HBM. (log 11, DESIGN CHOICE) -/
def hbmKey (part o : Nat) : Nat := part * 0x10000000000 + o

/-- Where the half of a partition begins in each stack: after the halves of those before it in the table of R411. -/
def halfBase (parts : List Nat) (n : Nat) : Nat := (parts.take n).foldl (· + ·) 0 * 0x2000000

/-- The stack of an offset of an interleaved partition, and its place in that stack (R412). -/
def State.hbmPlace (s : State) (part o : Nat) : Nat × Nat :=
  (b2n (bit o 12), halfBase s.ld.parts part + o / 8192 * 4096 + o % 4096)

/-- The stack of a packet-store cell, and its place in that stack (R412). -/
def cellPlace (c : Nat) : Nat × Nat := (b2n (bit c 26), bits c 0 26 * 256)

/-- Read bytes of a partition. A byte nothing has written reads 0. (log 9, DESIGN CHOICE) -/
def State.hbmRead (s : State) (part o n : Nat) : List Byte := Tab.read s.hbm 0 (hbmKey part o) n

/-- Write bytes of a partition. (log 9, DESIGN CHOICE) -/
def State.hbmWrite (s : State) (part o : Nat) (b : List Byte) : State := { s with hbm := Tab.write s.hbm 0 (hbmKey part o) b }

/-- Cells of a pool's region in one stack. -/
def State.regionCells (s : State) (p : Nat) : Nat := (s.ld.regions[p]?).getD 0 * 262144

/-- The first cell of a pool's region, from a stack's offset 0 (R415). -/
def State.regionStart (s : State) (p : Nat) : Nat := (s.ld.regions.take p).foldl (· + ·) 0 * 262144

/-- Whole buffers of a pool in one stack. -/
def State.poolBuffers (s : State) (p : Nat) : Nat := s.regionCells p / poolCells p

/-! ## Handles (R419) -/

/-- The handle of a buffer. (log 12, DESIGN CHOICE) -/
def mkHandle (pool gen idx : Nat) : Nat := pool * 2 ^ 38 + gen * 2 ^ 30 + idx

/-- A handle is well formed: reserved bits 0, and its index the first cell of a buffer in its pool's region. -/
def State.handleFormed (s : State) (h : Nat) : Bool :=
  let pool := bits h 38 2
  let cell := bits h 0 26
  let start := s.regionStart pool
  bits h 27 3 = 0 && h / 2 ^ 40 = 0 && decide (start ≤ cell) && (cell - start) % poolCells pool = 0
    && decide ((cell - start) / poolCells pool < s.poolBuffers pool)

/-! ## Free lists (R420, R422) -/

/-- The free list of a pool in a stack. -/
def State.flist (s : State) (p st : Nat) : FreeList := Tab.get s.ld.lists {} (2 * p + st)

/-- Replace a free list. -/
def State.setFlist (s : State) (p st : Nat) (l : FreeList) : State :=
  { s with ld := { s.ld with lists := Tab.set s.ld.lists {} (2 * p + st) l } }

/-- The ledger entry of a cell. -/
def State.ledger (s : State) (c : Nat) : Ledger := Tab.get s.ld.ledger {} c

/-- Replace a ledger entry. -/
def State.setLedger (s : State) (c : Nat) (e : Ledger) : State := { s with ld := { s.ld with ledger := Tab.set s.ld.ledger {} c e } }

/-- The first cell of the k-th buffer of a pool in a stack. -/
def State.bufferAt (s : State) (p st k : Nat) : Nat := st * 2 ^ 26 + s.regionStart p + k * poolCells p

/-- Which buffer of a pool in a stack begins at a cell. -/
def State.bufferNo (s : State) (p st c : Nat) : Option Nat :=
  let o := bits c 0 26 - s.regionStart p
  if b2n (bit c 26) = st ∧ s.regionStart p ≤ bits c 0 26 ∧ o % poolCells p = 0 ∧ o / poolCells p < s.poolBuffers p then some (o / poolCells p)
  else none

/-- The quarantined buffers of a pool in a stack among those that were never given out; none of them is free (R430). -/
def State.freshQuar (s : State) (p st : Nat) : Nat :=
  s.ld.ledger.foldl (fun a e => match s.bufferNo p st e.1 with
    | some k => if e.2.quar && decide ((s.flist p st).fresh ≤ k) then a + 1 else a
    | none => a) 0

/-- From a buffer that was never given out on, the first that is not quarantined (R430); the fuel bounds the quarantined ones. -/
def State.skipQuar (s : State) (p st : Nat) : Nat → Nat → Nat
  | 0, k => k
  | n + 1, k => if (s.ledger (s.bufferAt p st k)).quar then s.skipQuar p st n (k + 1) else k

/-- The first buffer of a pool in a stack that was never given out; `poolBuffers` where there is none. -/
def State.nextFresh (s : State) (p st : Nat) : Nat := s.skipQuar p st s.ld.ledger.length (s.flist p st).fresh

/-- Free buffers of a pool in a stack. -/
def State.freeCount (s : State) (p st : Nat) : Nat :=
  let l := s.flist p st
  l.front.length + (s.poolBuffers p - l.fresh - s.freshQuar p st) + l.returned.length + l.prefetch.length

/-- Buffers held by a requester in a pool. -/
def State.used (s : State) (r p : Nat) : Nat := Tab.get s.ld.used 0 (4 * r + p)

/-- Set the buffers held by a requester. -/
def State.setUsed (s : State) (r p n : Nat) : State := { s with ld := { s.ld with used := Tab.set s.ld.used 0 (4 * r + p) n } }

/-- A requester's reserve. -/
def State.rsv (s : State) (r p : Nat) : Nat := s.rd ⟨.LD_REQ_RSV, 0, 27⟩ r p

/-- A requester's cap. -/
def State.reqCap (s : State) (r p : Nat) : Nat := s.rd ⟨.LD_REQ_CAP, 0, 27⟩ r p

/-- The reserves of a pool that are not yet used, over all requesters; an unlisted reserve is 0. -/
def State.heldBack (s : State) (p : Nat) : Nat :=
  s.regs.foldl (fun a e => match regEntry e with
    | (.LD_REQ_RSV, r, v) => if e.1 % 4096 = p then a + (v - s.used r p) else a
    | _ => a) 0

/-- The sum of the reserves of a pool. -/
def State.reserved (s : State) (p : Nat) : Nat :=
  s.regs.foldl (fun a e => match regEntry e with
    | (.LD_REQ_RSV, _, v) => if e.1 % 4096 = p then a + v else a
    | _ => a) 0

/-- A requester may take a buffer from a pool (R420). -/
def State.mayTake (s : State) (r p : Nat) : Bool :=
  decide (s.used r p < s.rsv r p)
    || (decide (s.used r p < s.reqCap r p) && decide (s.heldBack p < s.freeCount p 0 + s.freeCount p 1))

/-- Take one buffer from the head of a free list into the prefetch: a returned buffer only after every buffer that was never
given out, and never one that is quarantined. (log 12, DESIGN CHOICE) -/
def State.refillOne (s : State) (p st : Nat) : State :=
  let l := s.flist p st
  match l.front with
  | x :: r => s.setFlist p st { l with front := r, prefetch := l.prefetch ++ [x] }
  | [] =>
  if s.nextFresh p st < s.poolBuffers p then
    s.setFlist p st { l with fresh := s.nextFresh p st + 1, prefetch := l.prefetch ++ [s.bufferAt p st (s.nextFresh p st)] }
  else match l.returned with
    | [] => s
    | x :: r => s.setFlist p st { l with returned := r, prefetch := l.prefetch ++ [x] }

/-- Cast the data-path vote that wakes a sleeping domain (R25, R48); when its exit is complete, only the work that is still pending
holds it. (log 55, DEDUCED) -/
def State.wakeFor (s : State) (d : Nat) : State :=
  if s.asleep d && !bit s.pow.wakes d then
    (({ s with pow := { s.pow with wakes := s.pow.wakes + 2 ^ d } }).dataVote d true).settle
  else s

/-- The stack a request is served from (R422): the one whose prefetch holds more, ties alternating; the other where one has none, is being
rebuilt or is asleep. Where every stack that could serve is asleep, the request is served from one of them as it is woken (R25). (log 55, DEDUCED) -/
def State.serveStack (s : State) (p : Nat) : Option Nat :=
  let has := fun st => let l := s.flist p st; !l.prefetch.isEmpty && !l.rebuilding
  let awake := fun st => has st && !s.asleep (6 + st)
  let can := if awake 0 || awake 1 then awake else has
  let n := fun st => (s.flist p st).prefetch.length
  match can 0, can 1 with
  | false, false => none
  | true, false => some 0
  | false, true => some 1
  | true, true => if n 0 > n 1 then some 0 else if n 1 > n 0 then some 1 else some (Tab.get s.ld.tie 0 p)

/-- REACHED of a pool follows its free counts; LadlePoolLow (705) is raised at a change (R437, R438). -/
def State.poolLow (s : State) (p : Nat) : State :=
  let low := s.rd ⟨.LD_POOL_LOW, 0, 26⟩ 0 p
  let hit := fun st => decide (s.freeCount p st < low)
  let now := hit 0 || hit 1
  if now == s.on ⟨.LD_POOL_LOW, 31, 1⟩ 0 p then s
  else
    let st := if hit 0 then 0 else if hit 1 then 1 else 0
    (s.flag ⟨.LD_POOL_LOW, 31, 1⟩ now 0 p).raise 705 [(8, p), (8, st), (16, s.freeCount p st), (8, b2n now)]

/-- A prefetch refill finds damage: the buffer is quarantined and its list rebuilt (R430). -/
def State.listDamage (s : State) (p st idx : Nat) : State :=
  let s1 := s.setLedger idx { s.ledger idx with quar := true }
  let l := s1.flist p st
  (((s1.setFlist p st { l with rebuilding := true, returned := l.returned.filter (· ≠ idx),
                               front := l.front.filter (· ≠ idx), prefetch := l.prefetch.filter (· ≠ idx) }).count ⟨.LD_LEDGER_ERR, 0, 8⟩).raise
    707 [(8, p), (8, st), (16, idx)]).poolLow p

/-- Move one handle to the prefetch and look at its ledger entry, whose ALLOC = 1 is list damage (R430); and whether a handle was moved and
found good. -/
def State.refillCheck (s : State) (p st : Nat) : State × Bool :=
  let s1 := s.refillOne p st
  match (s1.flist p st).prefetch.getLast? with
  | none => (s1, false)
  | some idx =>
    if (s1.flist p st).prefetch.length = (s.flist p st).prefetch.length then (s1, false)
    else if (s1.ledger idx).alloc then (s1.listDamage p st idx, false)
    else (s1, true)

/-- Before an allocation each awake stack's empty prefetch gets a handle, where no awake stack has one; a sleeping stack's, where no stack has any
(R422). -/
def State.prefetched (s : State) (p : Nat) : State :=
  let can := fun (t : State) (st : Nat) => !(t.flist p st).prefetch.isEmpty && !(t.flist p st).rebuilding
  let fill := fun (t : State) (st : Nat) => if (t.flist p st).prefetch.isEmpty && !(t.flist p st).rebuilding then (t.refillCheck p st).1 else t
  let awake := fun (t : State) => (!t.asleep 6 && can t 0) || (!t.asleep 7 && can t 1)
  if awake s then s
  else
    let s1 := if s.asleep 6 then s else fill s 0
    let s2 := if s1.asleep 7 then s1 else fill s1 1
    if can s2 0 || can s2 1 then s2 else fill (fill s2 0) 1

/-- Allocate a buffer of pool `p` for requester `r` (R420 to R425): the handle, or none. -/
def State.alloc (s : State) (r p : Nat) : State × Option Nat :=
  if !s.mayTake r p then (s, none)
  else
    let s0 := s.prefetched p
    match s0.serveStack p with
    | none => (s0, none)
    | some st =>
      let s0 := (s0.wakeFor 6).wakeFor 7
      let l := s0.flist p st
      match l.prefetch with
      | [] => (s0, none)
      | idx :: rest =>
        let e := s0.ledger idx
        let g0 := (e.gen + 1) % 256
        let g := if idx = 0 ∧ g0 = 0 then 1 else g0
        let s1 := (s0.setFlist p st { l with prefetch := rest }).setLedger idx { owner := r, gen := g, pool := p, alloc := true }
        let s2 := { s1 with ld := { s1.ld with tie := Tab.set s1.ld.tie 0 p (1 - st) } }
        ((s2.setUsed r p (s2.used r p + 1)).poolLow p, some (mkHandle p g idx))

/-- Why a free is refused (R426): the cause code and the status of ld.free, or none. -/
def State.freeCheck (s : State) (r h : Nat) : Option (Nat × Nat) :=
  let e := s.ledger (bits h 0 27)
  if !s.handleFormed h then some (1, 0x06)
  else if !e.alloc || e.quar then some (2, 0x04)
  else if bits h 30 8 ≠ e.gen then some (3, 0x04)
  else if r ≠ e.owner then some (4, 0x04)
  else none

/-- Give a buffer back: ALLOC is cleared, the buffer joins the tail of its list and the owner's USED falls (R426). -/
def State.release (s : State) (h : Nat) : State :=
  let idx := bits h 0 27
  let e := s.ledger idx
  let st := b2n (bit idx 26)
  let s1 := s.setLedger idx { e with alloc := false }
  let l := s1.flist e.pool st
  ((s1.setFlist e.pool st { l with returned := l.returned ++ [idx] }).setUsed e.owner e.pool (s1.used e.owner e.pool - 1)).poolLow e.pool

/-- A free by a requester (R426): the status, 0 for success. A refusal is counted and raises LadleFreeRefused (704). -/
def State.freeBuffer (s : State) (r h : Nat) : State × Nat :=
  match s.freeCheck r h with
  | none => (s.release h, 0)
  | some (cause, status) =>
    ((s.count ⟨.LD_REQ_CNT, 16, 16⟩ r).raise 704
      [(8, cause), (40, h), (16, r), (16, (s.ledger (bits h 0 27)).owner)] 16 r, status)

/-- The data path frees a packet's buffer in its owner's name (R427); a packet in an express FIFO holds none. (log 88, DESIGN CHOICE) -/
def State.freePacket (s : State) (p : Packet) : State :=
  if p.handle = 0 then s else (s.freeBuffer (s.ledger (bits p.handle 0 27)).owner p.handle).1

/-- The port that a queue belongs to: its client port, or 144 for the shared fibre (R16). -/
def egressPort (q : Nat) : Nat := if q < 1152 then q / 8 else 144

/-- Return the transmit stamp of an emitted frame to the context that asked for it (R277). -/
def State.stampMessage (s : State) (p : Packet) (port ts : Nat) (valid onestep dropped : Bool) : State :=
  match p.stamp with
  | none => s
  | some (c, g, tag) =>
    let word := ts + b2n valid * 2 ^ 40 + b2n onestep * 2 ^ 41 + b2n dropped * 2 ^ 42
    s.sendBlock (2 + c) { sender := .block port, tag := tag, body := [BitVec.ofNat 64 word]
                          dword := some (BitVec.ofNat 64 (c + g * 2 ^ 10)) }

/-- Discard a packet: its buffer is freed and an emitted frame is reported as dropped (R427, R277). (log 88, DESIGN CHOICE) -/
def State.discard (s : State) (p : Packet) : State := (s.freePacket p).stampMessage p (egressPort p.queue) 0 false false true

/-- Take a buffer for a packet of a length, trying the next larger pool once where FALLUP is set (R416, R424). A requester that
receives none is counted in LD_REQ_CNT.NONE and LadlePoolExhausted (706) is raised. -/
def State.store (s : State) (r len : Nat) : State × Option Nat :=
  match poolFor len with
  | none => (s, none)
  | some p =>
    match s.alloc r p with
    | (s1, some h) => (s1, some h)
    | (s1, none) =>
      let refuse := fun (t : State) => ((t.count ⟨.LD_REQ_CNT, 0, 16⟩ r).raise 706 [(8, p)] 1 p, none)
      if s1.on ⟨.LD_REQ_CFG, 0, 1⟩ r && p < 3 then
        match s1.alloc r (p + 1) with
        | (s2, some h) => (s2.count ⟨.LD_REQ_UPSIZE, 0, 32⟩ r, some h)
        | (s2, none) => refuse s2
      else refuse s1

/-! ## Rebuilding (R413, R430) -/

/-- Initialise the ledger and the free lists, as stage 5 of R113 does (R425); a quarantined buffer stays withdrawn until the next cold reset
(R430), and REACHED follows the new free counts (R437). -/
def State.initLadle (s : State) : State :=
  (List.range 4).foldl State.poolLow
    { s with ld := { s.ld with ledger := (s.ld.ledger.filter (fun e => e.2.quar)).map (fun e => (e.1, { quar := true }))
                               lists := [], used := [], tie := [] } }

/-- Apply the sizes written in hold when GO ends it (R413, R414): the contents of every partition whose base or size changed are
lost, and PartitionApplied (709) is raised. Region sums that do not equal the half of the packet store are refused
(log 11, DESIGN CHOICE) (log 13, DEDUCED) -/
def State.applyPartitions (s : State) : State :=
  let ps := s.rd ⟨.LD_PART_PS, 0, 9⟩
  let ro := s.rd ⟨.LD_PART_RO, 0, 9⟩
  let pd := s.rd ⟨.LD_PART_PD, 0, 9⟩
  let ls := s.rd ⟨.LD_PART_LS, 0, 9⟩
  let parts := [ps, 8, ro, pd, ls, 504 - ps - ro - pd - ls]
  let regions := (List.range 4).map (fun k => s.rd ⟨.LD_POOL_REGION, 0, 9⟩ 0 k)
  if parts = s.ld.parts ∧ regions = s.ld.regions then s
  else if regions.foldl (· + ·) 0 * 2 ≠ ps then s.raise 710 [(16, 0x120), (16, 0)]
  else
    let same := fun n => halfBase s.ld.parts n = halfBase parts n ∧ s.ld.parts[n]? = parts[n]?
    let s1 := { s with ld := { s.ld with parts := parts, regions := regions }
                       hbm := Tab.keep s.hbm (fun k => same (k / 0x10000000000)) }
    let caps := (List.range 4).foldl (fun a g => a + s1.rd ⟨.TC_DS_GRP_CTRL, 0, 16⟩ g) 0
    let s2 := if ro * 0x4000000 < caps * 0x10000 then
        (List.range 4).foldl (fun t g => t.wr ⟨.TC_DS_GRP_CTRL, 0, 16⟩ (ro * 0x4000000 / 4 / 0x10000) g) s1 else s1
    s2.initLadle.raise 709 [(16, ps), (16, ro), (16, pd), (16, ls)]

/-! ## Register writes -/

/-- Which partition or region a refused write names (R438): the partition's place in the table of R411, or the pool. (log 128, DESIGN CHOICE) -/
def partitionItem (l : Loc) : Nat :=
  match l.reg with
  | .LD_PART_PS => 0
  | .LD_PART_RO => 2
  | .LD_PART_PD => 3
  | .LD_PART_LS => 4
  | _ => l.k

/-- A partition or pool-region write (R413): accepted only in hold, from the serial port or the host link, within its range. (log 13, DEDUCED) -/
def State.partitionWrite (s : State) (l : Loc) (v : Nat) (src : Src) : State :=
  let u := bits v 0 9
  let other := fun (r : Reg) => s.rd ⟨r, 0, 9⟩
  let fits := fun (r : Reg) => (if r = l.reg then u else other r)
  let total := fits .LD_PART_PS + fits .LD_PART_RO + fits .LD_PART_PD + fits .LD_PART_LS
  let inRange := match l.reg with
    | .LD_PART_PS => 64 ≤ u && u ≤ 480 && u % 2 = 0
    | .LD_PART_RO => u ≤ 16
    | .LD_PART_PD => 4 ≤ u && u ≤ 64
    | .LD_PART_LS => 1 ≤ u && u ≤ 16
    | _ => 1 ≤ u
  if s.on Fld.KT_BOOT_STATUS_HOLDING && (src = .serial || src = .host) && inRange && (l.reg = .LD_POOL_REGION || total ≤ 504)
  then s.wr ⟨l.reg, 0, 9⟩ u l.i l.k
  else s.raise 710 [(16, l.reg.place.off % 65536 + 4 * l.k), (16, partitionItem l)]

/-- A reserve or cap write (R421). -/
def State.reserveWrite (s : State) (l : Loc) (v : Nat) : State :=
  let u := bits v 0 27
  let p := l.k
  let bad :=
    if l.reg = .LD_REQ_RSV then
      decide (s.poolBuffers p * 2 < s.reserved p - s.rsv l.i p + u) || decide (s.reqCap l.i p < u)
    else decide (u < s.rsv l.i p)
  if bad then s.raise 710 [(16, l.reg.place.off + 4 * p), (16, l.i)] else s.wr ⟨l.reg, 0, 27⟩ u l.i p

/-- The word of a ledger entry (R425). -/
def Ledger.word (e : Ledger) : Nat :=
  e.owner % 256 + e.gen % 256 * 2 ^ 8 + e.pool % 4 * 2 ^ 16 + b2n e.alloc * 2 ^ 18 + b2n e.quar * 2 ^ 19

/-- The high-word write of LD_LOOK looks a handle's entry up into its result slot (R437). -/
def State.ledgerLookup (s : State) (hi : Nat) : State :=
  let h := (Tab.get s.lowHalf 0 (Reg.LD_LOOK.key 0 0)).toNat + bits hi 0 8 * 2 ^ 32
  (s.wrReg .LD_LOOK_ENTRY (BitVec.ofNat 64 (s.ledger (bits h 0 27)).word)).completeSlot .LD_LOOK_STAT ⟨.LD_LOOK_STAT, 8, 8⟩

/-! ## Express FIFOs (R432 to R434) -/

/-- A port's express FIFO. -/
def State.express (s : State) (p : Nat) : Express := Tab.get s.ld.xf {} p

/-- Replace a port's express FIFO. -/
def State.setExpress (s : State) (p : Nat) (x : Express) : State := { s with ld := { s.ld with xf := Tab.set s.ld.xf {} p x } }

/-- The bank next in turn is free. -/
def Express.bankFree (x : Express) : Bool := if x.next then x.bank1.isNone else x.bank0.isNone

/-- Put a frame into the bank next in turn. -/
def Express.put (x : Express) (p : Packet) : Express :=
  if x.next then { x with bank1 := some p, next := false } else { x with bank0 := some p, next := true }

/-- The frame of a bank. -/
def Express.bank (x : Express) (b : Bool) : Option Packet := if b then x.bank1 else x.bank0

/-- The frames that wait in the banks, with their bank, in the order in which they entered: with both banks full the first is in the bank next in
turn. The frame that is being sent keeps its bank until its last byte has passed (R434), and does not wait. -/
def Express.waiting (x : Express) : List (Bool × Packet) :=
  [x.next, !x.next].filterMap fun b => if x.out = some b then none else (x.bank b).map (b, ·)

/-- A bank is free again (R434). -/
def Express.free (x : Express) (b : Bool) : Express :=
  let y := if x.out = some b then { x with out := none } else x
  if b then { y with bank1 := none } else { y with bank0 := none }

/-- Up to 64 handles are moved from the head of a list to its prefetch (R422), until one shows list damage (R430). -/
def refillLoop (p st : Nat) : Nat → State → State
  | 0, s => s
  | n + 1, s =>
    if 64 ≤ (s.flist p st).prefetch.length then s
    else match s.refillCheck p st with
      | (s1, true) => refillLoop p st n s1
      | (s1, false) => s1

/-- LADLE_PREFETCH_REFILL (R422, R430, R431). `bad`: the next-pointer found is not well formed; `err`: what the HBM's ECC shows of the ledger
entry read. -/
def execLadlePrefetchRefill (p st : Nat) (bad : Bool) (err : EccErr) (s : State) : Host.Outcome State Fault Refusal :=
  if 4 ≤ p ∨ 2 ≤ st then .fault .noSuchObject
  else if (s.flist p st).rebuilding then .next s
  else if bad || err = .double then
    match (s.refillOne p st).flist p st |>.prefetch.getLast? with
    | some idx => .next ((s.refillOne p st).listDamage p st idx)
    | none => .next s
  else
    let s1 := refillLoop p st 64 s
    .next (if err = .single then s1.count Fld.LD_LEDGER_ERR_CORR else s1)

/-- Insert into a rising list. -/
def insertRising (x : Nat) : List Nat → List Nat
  | [] => [x]
  | y :: r => if x ≤ y then x :: y :: r else y :: insertRising x r

/-- LEDGER_REBUILD_DONE (R430): the scan of the ledger ends and the list is served again, in the order of the ledger: the buffers
given out before lie below those that never were. -/
def execLedgerRebuildDone (p st : Nat) (s : State) : Host.Outcome State Fault Refusal :=
  if 4 ≤ p ∨ 2 ≤ st then .fault .noSuchObject
  else
    let l := s.flist p st
    if !l.rebuilding then .next s
    else .next (s.setFlist p st { l with rebuilding := false, front := (l.front ++ l.returned).foldr insertRising [], returned := [] })

end Sys2Proof.Machine
end

