-- ==== Sys2Proof/Machine/Cipher.lean ====
section
/-! DEFINITION. The cipher engine (R464 to R492): lanes and the compare, MACsec on client ports, security contexts and packet
numbers, root slots, KEK slots and unwraps. The standards it names are constants of Config. -/
namespace Sys2Proof.Machine

/-! ## Lanes (R464 to R468) -/

/-- CX_CAP follows the lanes that are not quarantined (R468). -/
def State.capFollow (s : State) : State :=
  let m := (List.range 12).foldl (fun a l => if s.on Fld.CX_LANE_STAT_QUAR l then a else a + 2 ^ l) 0
  let n := (List.range 12).foldl (fun a l => if s.on Fld.CX_LANE_STAT_QUAR l then a else a + 1) 0
  (s.wr Fld.CX_CAP_INSERV m).wr Fld.CX_CAP_GBPS (100 * n)

/-- The lane a new frame goes to: the one the outside names, or the first that is not quarantined; none when all are. -/
def State.cipherLane (s : State) (l : Nat) : Option Nat :=
  if l < 12 ∧ !s.on Fld.CX_LANE_STAT_QUAR l then some l else (List.range 12).find? (fun k => !s.on Fld.CX_LANE_STAT_QUAR k)

/-- The lane a frame goes to that may be suspended: one that holds no suspended frame, since a lane holds at most one (R464). -/
def State.ownLane (s : State) (l : Nat) : Option Nat :=
  let ok := fun k => !s.on Fld.CX_LANE_STAT_QUAR k && !s.on Fld.CX_LANE_STAT_SUSP k
  if l < 12 ∧ ok l then some l else (List.range 12).find? ok

/-- A lane is quarantined: when, and whether event triage is to revive it, which it leaves after a second quarantine within 1 h (R467).
(log 116, DESIGN CHOICE) -/
def State.quarantined (s : State) (l : Nat) : State :=
  let soon := match Tab.get s.cx.quar none l with
    | some (t, _) => decide (s.ns64 < t + 3600000000000)
    | none => false
  { s with cx := { s.cx with quar := Tab.set s.cx.quar none l (some (s.ns64, !soon)) } }

/-- A mismatch of pipelines A and B (R465, R466): counted and raised; the fourth within 1 s quarantines the lane. -/
def State.cipherMismatch (s : State) (l kind : Nat) : State :=
  let now := s.ns64
  let times := (now :: Tab.get s.cx.mism [] l).take 4
  let s1 := ({ s with cx := { s.cx with mism := Tab.set s.cx.mism [] l times } }.count Fld.CX_LANE_STAT_MISMATCH l).raise 832
    [(8, l), (16, (Config.frameKind kind).toNat)]
  if times.length = 4 ∧ times.all (fun t => now - t < 1000000000) ∧ !s1.on Fld.CX_LANE_STAT_QUAR l then
    (((s1.quarantined l).flag Fld.CX_LANE_STAT_QUAR true l).capFollow).raise 833 [(8, l), (8, (Config.quarantineCause false).toNat)]
  else s1

/-- Bytes protected or verified by a lane. -/
def State.laneBytes (s : State) (l n : Nat) : State := s.count Fld.CX_LANE_BYTES_COUNT l 0 n

/-! ## Contexts and packet numbers (R477, R478, R480) -/

/-- The key of a context. -/
def State.cxKey (s : State) (c : Nat) : CxKey := Tab.get s.cx.keys {} c

/-- A context holds a key. -/
def State.keyv (s : State) (c : Nat) : Bool := s.on Fld.CX_SC_CFG_KEYV c

/-- The PN register of a context. -/
def State.pn (s : State) (c : Nat) : Nat := (s.rdReg .CX_SC_PN c).toNat

/-- The last PN of a suite. -/
def lastPn (suite : Nat) : Nat := if 2 ≤ suite then 2 ^ 64 - 1 else 2 ^ 32 - 1

/-- CLEAR (R478): the key, KEYV, EXH, THRESH and the counters. -/
def State.clearContext (s : State) (c : Nat) : State :=
  let s1 := { s with cx := { s.cx with keys := Tab.set s.cx.keys {} c {}, rxNext := Tab.set s.cx.rxNext 0 c 0 } }
  let s2 := ((s1.flag Fld.CX_SC_CFG_KEYV false c).flag Fld.CX_SC_CFG_EXH false c).flag Fld.CX_SC_CFG_THRESH false c
  (s2.wrReg .CX_SC_PKTS 0 c).wrReg .CX_SC_ERR 0 c

/-- Entry to O1.1 clears the shared-fibre contexts and TXIDX (R476). -/
def State.clearFibreKeys (s : State) : State :=
  ((List.range' 1016 5).foldl State.clearContext s).wr Fld.CX_PON_KEY_TXIDX 0

/-- Use the next PN of a transmit context (R477): the PN the frame carries, and the threshold and exhaustion that follow. -/
def State.takePn (s : State) (c : Nat) : State × Nat :=
  let n := s.pn c
  let last := lastPn (s.rd Fld.CX_SC_CFG_SUITE c)
  if last ≤ n then ((s.flag Fld.CX_SC_CFG_EXH true c).raise 836 [(16, c)], n)
  else
    let s1 := s.wrReg .CX_SC_PN (BitVec.ofNat 64 (n + 1)) c
    if (s1.rdReg .CX_SC_THR c).toNat ≤ n + 1 ∧ !s1.on Fld.CX_SC_CFG_THRESH c then
      ((s1.flag Fld.CX_SC_CFG_THRESH true c).raise 835 [(16, c)], n)
    else (s1, n)

/-- cx.pnleft (R477): the last value minus the next PN, plus 1, saturating at 2⁶² − 1; 0 when exhausted. -/
def State.pnLeft (s : State) (c : Nat) : Nat :=
  if s.on Fld.CX_SC_CFG_EXH c then 0 else min (lastPn (s.rd Fld.CX_SC_CFG_SUITE c) - s.pn c + 1) (2 ^ 62 - 1)

/-! ## MACsec (R469 to R472) -/

/-- The 12-byte IV: SCI and PN, or the SSCI and 64-bit PN combined with the salt for the XPN suites (IEEE 802.1AE, 802.1AEbw). (log 32, PRESUMED) -/
def State.macsecIv (s : State) (c pn : Nat) : List Byte :=
  if 2 ≤ s.rd Fld.CX_SC_CFG_SUITE c then
    ((beBytes (s.rdReg .CX_SC_SSCI c).toNat 4 ++ beBytes pn 8).zip (s.cxKey c).salt).map (fun x => x.1 ^^^ x.2)
  else beBytes (s.rdReg .CX_SC_SCI c).toNat 8 ++ beBytes pn 4

/-- A frame for the port can be protected (R470): the context. (log 32, PRESUMED) -/
def State.txContext (s : State) (p : Nat) : Option Nat :=
  let c := s.rd Fld.CX_PORT_TXSC_CTX p
  if s.on Fld.CX_PORT_TXSC_VALID p && s.on Fld.CX_SC_CFG_EN c && s.keyv c && s.on Fld.CX_SC_CFG_DIR c && !s.on Fld.CX_SC_CFG_EXH c
  then some c else none

/-- Bytes that protection adds: SecTAG and ICV (R469). -/
def State.macsecExtra (s : State) (p : Nat) : Nat :=
  if s.on Fld.CX_PORT_CFG_PROTECT p then (if s.on Fld.CX_PORT_CFG_INCSCI p then 32 else 24) else 0

/-- Protect a frame with a context (R470): destination to the byte before the FCS, in and out. (log 32, PRESUMED) -/
def State.protect (s : State) (p c l : Nat) (f : List Byte) : State × List Byte :=
  let (s1, pn) := s.takePn c
  let conf := s.on Fld.CX_PORT_CFG_CONF p
  let sci := s.on Fld.CX_PORT_CFG_INCSCI p
  let body := f.drop 12
  let tci := b2n sci * 0x20 + (if conf then 0x0C else 0) + (Config.txAn p c).toNat
  let sl := if body.length < 48 then body.length else 0
  let tag := beBytes 0x88E5 2 ++ beBytes tci 1 ++ beBytes sl 1 ++ beBytes (pn % 2 ^ 32) 4
    ++ (if sci then beBytes (s.rdReg .CX_SC_SCI c).toNat 8 else [])
  let key := (s.cxKey c).key
  let iv := s.macsecIv c pn
  let head := f.take 12 ++ tag
  let out := if conf then
      let r := Config.gcmSeal key iv head body
      head ++ r.1 ++ r.2
    else head ++ body ++ (Config.gcmSeal key iv (head ++ body) []).2
  ((s1.count Fld.CX_SC_PKTS_COUNT c).laneBytes l f.length, out)

/-- A discard of a received frame under R471: counted in RXBAD, MacsecRxDiscard (840) at most once per second per port. -/
def State.rxBad (s : State) (p : Nat) : State := (s.count Fld.CX_PORT_DROP_RXBAD p).raise 840 [(8, p)] 1 p

/-- The receive context that an AN names. -/
def State.rxContext (s : State) (p an : Nat) : Option Nat :=
  let w := (s.rdReg .CX_PORT_RXSA p (an / 2)).toNat
  let h := an % 2 * 16
  let c := bits w h 10
  if bit w (h + 15) && s.on Fld.CX_SC_CFG_EN c && s.keyv c && !s.on Fld.CX_SC_CFG_DIR c then some c else none

/-- The 64-bit PN of an XPN frame from its low 32 bits and the lowest acceptable PN (IEEE 802.1AEbw). (log 32, PRESUMED) -/
def recoverPn (lowest pn : Nat) : Nat :=
  let hi := lowest / 2 ^ 32
  if bit lowest 31 && !bit pn 31 then (hi + 1) * 2 ^ 32 + pn else hi * 2 ^ 32 + pn

/-- A verified PN raises the window: the lowest acceptable PN follows the highest PN seen (R480). (log 32, PRESUMED) -/
def State.raiseWindow (s : State) (p c pn : Nat) : State :=
  let next := max (max (Tab.get s.cx.rxNext 0 c) (s.pn c)) (pn + 1)
  let s1 := { s with cx := { s.cx with rxNext := Tab.set s.cx.rxNext 0 c next } }
  let low := max (s1.pn c) (next - (s1.rdReg .CX_PORT_WINDOW p).toNat)
  s1.wrReg .CX_SC_PN (BitVec.ofNat 64 (min low (2 ^ 64 - 1))) c

/-- What verification makes of a received frame: it passes; its ICV fails, with the frame as decrypted and whether it goes on all the same
(R471); or it is discarded. -/
inductive Verified where
  | pass (f : List Byte)
  | badIcv (f : List Byte) (kept : Bool)
  | drop
deriving DecidableEq, Repr

/-- Verify a received MACsec frame (R471, R472; IEEE 802.1AE): `l` is the lane, `strict` the validation mode. (log 32, PRESUMED) -/
def State.verify (s : State) (p l : Nat) (f : List Byte) : State × Verified :=
  let strict := s.rd Fld.CX_PORT_CFG_VALIDATE p = 2
  let tci := beAt f 14 1
  let sc := bit tci 5
  let cbit := bit tci 2
  let tagLen := if sc then 16 else 8
  let sl := beAt f 15 1
  let low := beAt f 16 4
  let room := f.length - 12 - tagLen - 16
  let n := if sl = 0 then room else sl
  if f.length < 12 + tagLen + 16 ∨ bit tci 7 ∨ 48 ≤ sl ∨ room < n ∨ (sl = 0 ∧ room < 48) ∨ (bit tci 3 && !cbit) then (s.rxBad p, .drop)
  else match s.rxContext p (tci % 4) with
    | none => if strict || cbit then (s.rxBad p, .drop)
        else (s, .pass (f.take 12 ++ (f.drop (12 + tagLen)).take n))
    | some c =>
      let pn := if 2 ≤ s.rd Fld.CX_SC_CFG_SUITE c then recoverPn (s.pn c) low else low
      let sciBad := sc && beAt f 20 8 ≠ (s.rdReg .CX_SC_SCI c).toNat
      if pn = 0 then (s.rxBad p, .drop)
      else if sciBad then (if strict || cbit then (s.rxBad p, .drop) else (s, .pass (f.take 12 ++ (f.drop (12 + tagLen)).take n)))
      else if s.on Fld.CX_PORT_CFG_REPLAY p && pn < s.pn c then ((s.count Fld.CX_SC_ERR_LATE c).rxBad p, .drop)
      else
        let head := f.take (12 + tagLen)
        let body := (f.drop (12 + tagLen)).take n
        let icv := (f.drop (12 + tagLen + n)).take 16
        let key := (s.cxKey c).key
        let r := if bit tci 3 then Config.gcmOpen key (s.macsecIv c pn) head body icv
          else ((body, (Config.gcmOpen key (s.macsecIv c pn) (head ++ body) [] icv).2))
        let s1 := s.laneBytes l n
        if r.2 then ((s1.count Fld.CX_SC_PKTS_COUNT c).raiseWindow p c pn, .pass (f.take 12 ++ r.1))
        else
          let s2 := s1.count Fld.CX_SC_ERR_ICVERR c
          if strict || cbit then (s2.rxBad p, .badIcv (f.take 12 ++ r.1) false) else (s2, .badIcv (f.take 12 ++ r.1) true)

/-- A received frame meets MACsec (R471): what goes on to Sieve, whether it was verified, and whether its ICV failed. (log 32, PRESUMED) -/
def State.macsecRx (s : State) (p l : Nat) (f : List Byte) : State × Verified :=
  let mode := s.rd Fld.CX_PORT_CFG_VALIDATE p
  let et := beAt f 12 2
  if mode = 0 ∨ et = 0x888E then (s, .pass f)
  else if et = 0x88E5 then s.verify p l f
  else if mode = 2 then (s.rxBad p, .drop)
  else (s, .pass f)

/-! ## Register writes of contexts and ports -/

/-- CipherConfigRefused (841). -/
def State.cxRefused (s : State) (off c : Nat) : State := s.raise 841 [(16, off), (16, c)]

/-- A write of CX_SC_CFG (R473, R478): DIR while EN = 0, SUITE while KEYV = 0, CLEAR while EN = 0. -/
def State.scCfgWrite (s : State) (c v : Nat) : State :=
  if 1016 ≤ c then s.cxRefused 0 c
  else if !s.keyv c && decide (4 ≤ bits v 2 3) then s
  else
    let en := s.on Fld.CX_SC_CFG_EN c
    let keyv := s.keyv c
    let s1 := if bit v 8 && !en then s.clearContext c else s
    let s2 := if !en then s1.flag Fld.CX_SC_CFG_DIR (bit v 1) c else s1
    let s3 := if !keyv then s2.wr Fld.CX_SC_CFG_SUITE (bits v 2 3) c else s2
    s3.flag Fld.CX_SC_CFG_EN (bit v 0) c

/-- A committed write of CX_SC_PN (R473, R478). (log 78, DEDUCED) -/
def State.scPnWrite (s : State) (c v : Nat) : State :=
  if 1016 ≤ c ∨ v = 0 then s.cxRefused 0x10 c
  else if s.on Fld.CX_SC_CFG_EN c || s.keyv c then s
  else { (s.wrReg .CX_SC_PN (BitVec.ofNat 64 v) c) with cx := { s.cx with rxNext := Tab.set s.cx.rxNext 0 c 0 } }

/-- A committed write of CX_SC_THR (R473). -/
def State.scThrWrite (s : State) (c v : Nat) : State :=
  if 1016 ≤ c then s.cxRefused 0x18 c else s.wrReg .CX_SC_THR (BitVec.ofNat 64 v) c

/-- A write of CX_PON_GEN (R475): a key is drawn, installed in context 1,016 or 1,017 and reported, or BUSY is answered. -/
def State.ponGenerate (s : State) (v : Nat) : State :=
  let i := bits v 0 2
  if i = 0 ∨ i = 3 then s
  else if i = s.rd Fld.CX_PON_KEY_TXIDX then
    (s.flag Fld.CX_PON_GENSTAT_BUSY true).completeSlot .CX_PON_GENSTAT Fld.CX_PON_GENSTAT_SEQ
  else
    let key := leBytes (Config.draw s.draws).toNat 8 ++ leBytes (Config.draw (s.draws + 1)).toNat 8
    let msk := if s.keyv 1020 then some (s.cxKey 1020).key else none
    let r := Config.ponKeyReport msk key
    let s1 := { s with draws := s.draws + 2, cx := { s.cx with keys := Tab.set s.cx.keys {} (1015 + i) { key := key } } }
    let s2 := (s1.flag Fld.CX_SC_CFG_KEYV true (1015 + i)).flag Fld.CX_PON_GENSTAT_BUSY false
    let s3 := (List.range 4).foldl (fun t k =>
      (t.wrReg .CX_PON_GENOUT (BitVec.ofNat 64 (beAt r.1 (4 * k) 4)) 0 k).wrReg .CX_PON_GENOUT (BitVec.ofNat 64 (beAt r.2 (4 * k) 4)) 0
        (k + 4)) s2
    s3.completeSlot .CX_PON_GENSTAT Fld.CX_PON_GENSTAT_SEQ

/-! ## The root key (R481 to R483, R135, R136) -/

/-- The check value of a key (R482): the first 3 bytes of the encryption of zero, byte 0 in bits [23:16]. -/
def checkValue (key : List Byte) : Nat := beNat ((Config.aes key (List.replicate 16 0)).take 3)

/-- The active root: the highest slot that holds a valid key (R135). -/
def State.rootKey (s : State) : Option (List Byte) := s.cx.roots.foldl (fun a r => match r.key with | some k => some k | none => a) none

/-- The number of the active slot. -/
def State.rootActive (s : State) : Nat :=
  (List.range 4).foldl (fun a n => if ((s.cx.roots[n]?).getD {}).key.isSome then n else a) 0

/-- CX_ROOT_STAT, read from one-time memory. -/
def State.rootStat (s : State) : Nat :=
  (List.range 4).foldl (fun a n =>
    let r := (s.cx.roots[n]?).getD {}
    a + b2n r.used * 2 ^ n + b2n r.key.isSome * 2 ^ (4 + n)) 0
    + s.rootActive * 2 ^ 8 + b2n s.cx.rootJob.isSome * 2 ^ 10

/-- CX_ROOT_KCV of a slot. -/
def State.rootKcv (s : State) (n : Nat) : Nat :=
  match ((s.cx.roots[n]?).getD {}).key with
  | some k => checkValue k
  | none => 0

/-- A write of a root-key word by the serial port (R481). -/
def State.rootKeyWrite (s : State) (k v : Nat) : State :=
  { s with cx := { s.cx with rootStage := Tab.set s.cx.rootStage 0 k (BitVec.ofNat 32 v), rootAt := s.ns64 } }

/-- A write of CX_ROOT_CTRL by the serial port (R481): PROG with CONFIRM starts programming and clears the staging words; with all
four slots used it is refused. -/
def State.rootCtrlWrite (s : State) (v : Nat) : State :=
  if !bit v 0 || bits v 8 8 ≠ 0x5A || s.cx.rootJob.isSome then s
  else
    let key := (List.range 8).flatMap fun k => beBytes (Tab.get s.cx.rootStage 0 k).toNat 4
    let s1 := { s with cx := { s.cx with rootStage := [] } }
    { s1 with cx := { s1.cx with rootJob := some key } }

/-- Programming of a root slot ends (R135, R136, R481): the lowest unused slot takes the key; `ok` is false where its integrity check fails. -/
def State.rootProgramDone (s : State) (ok : Bool) : State :=
  match s.cx.rootJob with
  | none => s
  | some key =>
    let s1 := { s with cx := { s.cx with rootJob := none } }
    match (List.range 4).find? (fun n => !((s.cx.roots[n]?).getD {}).used) with
    | none => s1.raise 839 [(16, 0x00FF)]
    | some n =>
      let s2 := { s1 with cx := { s1.cx with roots := s1.cx.roots.set n { used := true, key := if ok then some key else none } } }
      s2.raise 838 [(8, n), (32, s2.rootKcv n)]

/-- ROOT_STAGING_TIMEOUT (R481): 1 s after the last write without PROG. -/
def execRootStagingTimeout (s : State) : Host.Outcome State Fault Refusal :=
  .next (if s.ns64 < s.cx.rootAt + 1000000000 then s else { s with cx := { s.cx with rootStage := [] } })

/-- A write of CX_LANE_CTRL.REVIVE starts the known-answer test of a lane (R467). -/
def State.reviveWrite (s : State) (l v : Nat) : State :=
  if bit v 0 && !s.cx.reviving.contains l then { s with cx := { s.cx with reviving := s.cx.reviving ++ [l] } } else s

/-- Event triage (role 2) writes REVIVE once, 10 s after a lane's first quarantine, while it runs; D8 is woken for it (R467). (log 116, DESIGN CHOICE) -/
def State.reviveTurn (s : State) (l : Nat) : State :=
  match Tab.get s.cx.quar none l with
  | some (t, true) =>
    if s.ns64 < t + 10000000000 || !s.on Fld.CX_LANE_STAT_QUAR l || !s.roleRuns 2 then s
    else if s.asleep 8 then s.wakeFor 8
    else { s with cx := { s.cx with quar := Tab.set s.cx.quar none l (some (t, false)) } }.reviveWrite l 1
  | _ => s

/-! ## KEK slots, blobs and unwraps (R484 to R487) -/

/-- CX_KEK_STAT. -/
def State.kekStat (s : State) : Nat := s.cx.keks.foldl (fun a e => a + 2 ^ e.1) 0

/-- A write of one half of CX_KEK_CLEAR empties the slots it names (R484). -/
def State.kekClear (s : State) (high : Bool) (v : Nat) : State :=
  { s with cx := { s.cx with keks := Tab.keep s.cx.keks (fun n => !((decide (32 ≤ n) == high) && bit v (n % 32))) } }

/-- A write of one half of a blob word, in the writer's own staging set (R487). -/
def State.blobWrite (s : State) (src : Src) (k : Nat) (high : Bool) (v : Nat) : State :=
  let key := 8 * requesterOf src + k
  { s with cx := { s.cx with blob := Tab.upd s.cx.blob 0 key (fun w =>
      BitVec.ofNat 64 (if high then putBits w.toNat 32 32 v else putBits w.toNat 0 32 v)) } }

/-- Submit a blob (R487): the sequence number, or none while 16 unwraps are pending. Its result slot awaits a result. (log 78, DEDUCED) -/
def State.unwrapSubmit (s : State) (src : Src) (blob : List Quad) : State × Option Nat :=
  if 16 ≤ s.cx.unwraps.length then (s, none)
  else
    let n := s.cx.nextSeq
    let u : Unwrap := { seq := n, blob := blob, src := srcCode src, headEnd := s.headEnd src }
    (({ s with cx := { s.cx with nextSeq := (n + 1) % 65536, unwraps := s.cx.unwraps ++ [u] } }).requestSlot .CX_UNW_RES 0 (n % 16), some n)

/-- A write of CX_BLOB_GO (R487). -/
def State.blobGo (s : State) (src : Src) (v : Nat) : State :=
  if !bit v 0 then s
  else
    let r := requesterOf src
    let r1 := s.unwrapSubmit src ((List.range 8).map fun k => Tab.get s.cx.blob 0 (8 * r + k))
    let e := match r1.2 with
      | some n => (n, false)
      | none => ((Tab.get s.cx.blobSeq (0, false) r).1, true)
    { r1.1 with cx := { r1.1.cx with blobSeq := Tab.set r1.1.cx.blobSeq (0, false) r e } }

/-- LEN of a blob type (R485). -/
def blobLen (type wrapby : Nat) : Nat :=
  match type with
  | 1 => 4
  | 2 => 2
  | 3 => 4
  | 4 => 4
  | 5 => 6
  | 6 => 2
  | _ => if wrapby = 0xFF then 1 else 2

/-- Plaintext bytes of a blob type (R485). -/
def blobPlain : Nat → Nat
  | 1 => 32
  | 3 => 32
  | 4 => 28
  | 5 => 44
  | _ => 16

/-- The key that an unwrap is made under, where R486 finds one. -/
def State.wrapKey (s : State) (type wrapby target : Nat) : Option (List Byte) :=
  if wrapby = 0 then s.rootKey
  else if wrapby = 0xFF then (if s.keyv 1020 then some (s.cxKey 1020).key else none)
  else if type = 1 ∧ target ≤ wrapby - 1 then none
  else
    let k := Tab.get s.cx.keks [] (wrapby - 1)
    if k.isEmpty then none else some k

/-- The target of an unwrap is acceptable (R486, order 3). -/
def State.targetOk (s : State) (type target : Nat) : Bool :=
  let free := !s.on Fld.CX_SC_CFG_EN target && !s.keyv target
  match type with
  | 1 => decide (target < 64) && (Tab.get s.cx.keks [] target).isEmpty
  | 6 => target = 1020 && free
  | 7 => (target = 1018 || target = 1019) && free
  | _ => decide (target < 1016) && free && s.rd Fld.CX_SC_CFG_SUITE target = type - 2

/-- Check an unwrap (R486): the code of the first failure, or the key. -/
def State.unwrapCheck (s : State) (u : Unwrap) : Nat × List Byte :=
  let h := ((u.blob[0]?).getD 0).toNat
  let type := bits h 0 8
  let wrapby := bits h 8 8
  let target := bits h 16 10
  let len := bits h 26 3
  let wrapped := ((u.blob.drop 1).take (len + 1)).flatMap fun w => leBytes w.toNat 8
  if h / 2 ^ 29 ≠ 0 ∨ type = 0 ∨ 7 < type ∨ (0x40 < wrapby ∧ (wrapby ≠ 0xFF ∨ type ≠ 7)) ∨ len ≠ blobLen type wrapby then (1, [])
  else if u.headEnd ∧ type < 6 then (2, [])
  else if !s.targetOk type target then (4, [])
  else match s.wrapKey type wrapby target with
    | none => (3, [])
    | some kek =>
      let r := if wrapby = 0xFF then Config.ponUnwrap kek wrapped else Config.unwrap5649 kek wrapped
      match r with
      | none => (5, [])
      | some key => if key.length = blobPlain type then (0, key) else (5, [])

/-- Install an unwrapped key (R485, R486). -/
def State.installKey (s : State) (type target : Nat) (key : List Byte) : State :=
  if type = 1 then { s with cx := { s.cx with keks := Tab.set s.cx.keks [] target key } }
  else
    let n := if type = 4 then 16 else if type = 5 then 32 else key.length
    let s1 := { s with cx := { s.cx with keys := Tab.set s.cx.keys {} target { key := key.take n, salt := key.drop n } } }
    (s1.flag Fld.CX_SC_CFG_KEYV true target).wr Fld.CX_SC_KCV_KCV (checkValue (key.take n)) target

/-- UNWRAP_COMPLETE (R486, R487): the oldest pending unwrap is checked, installs its key on success, and completes its slot. -/
def execUnwrapComplete (s : State) : Host.Outcome State Fault Refusal :=
  match s.cx.unwraps with
  | [] => .next s
  | u :: r =>
    let s1 := { s with cx := { s.cx with unwraps := r } }
    let h := ((u.blob[0]?).getD 0).toNat
    let k := u.seq % 16
    let finish := fun (t : State) (code kcv : Nat) =>
      (t.wrReg .CX_UNW_KCV (BitVec.ofNat 64 kcv) 0 k).wrReg .CX_UNW_RES (BitVec.ofNat 64 (1 + code * 2 ^ 4 + u.seq * 2 ^ 16)) 0 k
    match s1.unwrapCheck u with
    | (0, key) =>
      let type := bits h 0 8
      let key16 := if type = 4 then key.take 16 else if type = 5 then key.take 32 else key
      .next (finish (s1.installKey type (bits h 16 10) key) 0 (checkValue key16))
    | (code, _) => .next ((finish s1 code 0).raise 837 [(16, u.seq), (8, code), (16, u.src)])

end Sys2Proof.Machine
end

