-- ==== Sys2Proof/Machine/Bolnan.lean ====
section
/-! DEFINITION. The Bolnan lane code (R330 to R335) and the pattern checker (R343), bit by bit: scrambling, stuffing and error injection on transmit;
stuffing removal, block alignment, descrambling and the elastic store on receive. -/
namespace Sys2Proof.Machine

/-! ## Scrambler and stuffing (R330 to R332) -/

/-- A line bit, and whether it belongs to a block header (R344). -/
abbrev LineBit := Bool × Bool

/-- One step of the scrambler (R331): its output, and the register with the newest output in bit 0. -/
def scrStep (r : Nat) : Bool × Nat :=
  let b := bit r 57 != bit r 38
  (b, (2 * r + b2n b) % 2 ^ 58)

/-- Outputs of `n` steps, the first first, and the register after them. -/
def scrBits : Nat → Nat → List Bool × Nat
  | 0, r => ([], r)
  | n + 1, r => let x := scrStep r; let y := scrBits n x.2; (x.1 :: y.1, y.2)

/-- The low `n` bits of a number, bit 0 first. -/
def bitList (v n : Nat) : List Bool := (List.range n).map (bit v)

/-- The number of a bit list, bit 0 first. -/
def bitsNat : List Bool → Nat
  | [] => 0
  | b :: r => b2n b + 2 * bitsNat r

/-- The payload of a block with the scrambler's outputs applied, or removed: the block type of a control block is not scrambled (R330, R331). -/
def scramblePayload (ctrl : Bool) (p out : List Bool) : List Bool :=
  let k := if ctrl then 8 else 0
  p.take k ++ List.zipWith (fun a b => a != b) (p.drop k) (out.drop k)

/-- A control block on the line before stuffing, and the scrambler's register after it (R330, R331). -/
def encodeBlock (payload r : Nat) : List LineBit × Nat :=
  let x := scrBits 128 r
  ([(false, true), (true, true)] ++ (scramblePayload true (bitList payload 128) x.1).map (·, false), x.2)

/-- Several blocks on the line, and the register after them. -/
def encodeBlocks : List Nat → Nat → List LineBit × Nat
  | [], r => ([], r)
  | p :: ps, r => let x := encodeBlock p r; let y := encodeBlocks ps x.2; (x.1 ++ y.1, y.2)

/-- The run after one more bit. -/
def LineRun.add (l : LineRun) (b : Bool) : LineRun := if l.run ≠ 0 ∧ b = l.last then { l with run := l.run + 1 } else { last := b, run := 1 }

/-- Stuffing (R332): after 30 identical bits one bit of the opposite value. -/
def stuff : List LineBit → LineRun → List LineBit × LineRun
  | [], l => ([], l)
  | x :: r, l =>
    let l1 := l.add x.1
    if l1.run = 30 then let y := stuff r { last := !x.1, run := 1 }; (x :: (!x.1, false) :: y.1, y.2)
    else let y := stuff r l1; (x :: y.1, y.2)

/-- Invert what is to be inverted of the line bits; `period` is 2^EXP in periodic mode, else 0. -/
def inject (period : Nat) : List LineBit → Inject → List Bool × Inject
  | [], j => ([], j)
  | (b, h) :: r, j =>
    let head := h && decide (0 < j.hdr)
    let now := decide (0 < period ∧ period ≤ j.sent + 1)
    let flip := (head != decide (0 < j.one)) != now
    let y := inject period r { hdr := j.hdr - b2n head, one := j.one - 1, sent := if now then 0 else j.sent + 1 }
    ((b != flip) :: y.1, y.2)

/-! ## Receiving (R332 to R335) -/

/-- The elastic store (R335): a filler is deleted where more than 12 blocks are held and repeated where fewer than 4 are. -/
def BolnanRx.push (x : BolnanRx) (b : BolnanBlock) : BolnanRx :=
  let filler := b.ctrl && b.payload % 256 = 0x1E
  if filler && decide (12 < x.store.length) then x
  else if 16 ≤ x.store.length then { x with lost := x.lost + 1 }
  else if filler && decide (x.store.length < 4) then { x with store := x.store ++ [b, b] }
  else { x with store := x.store ++ [b] }

/-- The descrambler on a filler (R334): it loads its register from the first, holds sync when the next matches its prediction without error, and loads
again where it does not; in sync three consecutive fillers with more than 4 wrong bits end sync. `got` is the received payload, `out` the predicted
outputs, `reg` the register after them. (log 129, DEDUCED) -/
def BolnanRx.filler (x : BolnanRx) (got : List Bool) (pred : Option (List Bool × Nat)) : BolnanRx :=
  let load := bitsNat ((got.drop 70).reverse)
  match pred with
  | none => { x with reg := some load, miss := 0 }
  | some (out, r) =>
    let wrong := (List.zipWith (fun a b => a != b) (got.drop 8) (out.drop 8)).countP id
    if x.synced then
      let m := if 4 < wrong then x.miss + 1 else 0
      if m = 3 then { x with synced := false, reg := none, miss := 0 } else { x with reg := some r, miss := m }
    else if wrong = 0 then { x with synced := true, reg := some r, miss := 0 }
    else { x with reg := some load }

/-- A whole block in lock: descrambled and passed to the elastic store (R334, R335). -/
def BolnanRx.take (x : BolnanRx) (ctrl : Bool) (got : List Bool) : BolnanRx :=
  let pred := x.reg.map (scrBits 128)
  let isFiller := ctrl && bitsNat (got.take 8) = 0x1E
  let y := if isFiller then x.filler got pred else { x with reg := pred.map Prod.snd }
  let out := match pred with
    | some (o, _) => scramblePayload ctrl got o
    | none => got
  y.push { ctrl := ctrl, payload := bitsNat out, ok := x.synced && y.synced }

/-- The alignment of the destuffed bits (R333): a header is looked at when its two bits are there, and counts when its block has ended.
(log 129, DEDUCED) -/
def BolnanRx.align (x : BolnanRx) (b : Bool) : BolnanRx :=
  let blk := x.block ++ [b]
  if blk.length = 2 ∧ !x.aligned ∧ blk[0]? = blk[1]? then { x with block := [b], good := 0 }
  else if blk.length < 130 then { x with block := blk }
  else
    let valid := blk[0]? ≠ blk[1]?
    let ctrl := blk[1]? = some true
    if !x.aligned then { x with block := [], good := x.good + 1, aligned := decide (64 ≤ x.good + 1), heads := [] }
    else
      let hs := ((!valid) :: x.heads).take 128
      if 24 ≤ hs.countP id then
        { x with block := [], good := 0, heads := [], aligned := false, synced := false, reg := none, miss := 0, alignLoss := x.alignLoss + 1 }
      else if valid then { x with block := [], heads := hs }.take ctrl (blk.drop 2)
      else { x with block := [], heads := hs, reg := (x.reg.map (scrBits 128)).map Prod.snd }

/-- One line bit (R332): the bit after 30 identical ones is removed; where it continues the run it is counted and the run count restarts with it.
(log 129, DEDUCED) -/
def BolnanRx.bit (x : BolnanRx) (b : Bool) : BolnanRx :=
  if x.run.run = 30 then
    { x with run := { last := b, run := 1 }, stuffErr := if b = x.run.last then x.stuffErr + 1 else x.stuffErr }
  else { x with run := x.run.add b }.align b

/-! ## The pattern checker (R343) -/

/-- How many bits a checker seeds itself with. -/
def patternSeed (code : Nat) : Nat := if code = 8 then 8 else Config.patternSeed code

/-- The bit of a pattern that follows those before it, newest first: a square wave is the opposite of the bit 8 before (R341). -/
def patternNext (code : Nat) (h : List Bool) : Bool := if code = 8 then !(h.getD 7 false) else Config.patternNext code h

/-- One received bit (R343). (log 73, DEDUCED) -/
def Checker.bit (code : Nat) (k : Checker) (b : Bool) : Checker :=
  if k.hist.length < patternSeed code then { k with hist := b :: k.hist }
  else
    let p := patternNext code k.hist
    let h := (p :: k.hist).take (patternSeed code)
    if k.locked then
      let w := ((b != p) :: k.win).take 256
      let n := { k with bits := k.bits + 1, errs := k.errs + b2n (b != p) }
      if 64 ≤ w.countP id then { n with hist := [], good := 0, locked := false, win := [], losses := k.losses + 1 }
      else { n with hist := h, win := w }
    else if b = p then { k with hist := h, good := k.good + 1, locked := decide (256 ≤ k.good + 1), win := [] }
    else { k with hist := [b], good := 0 }

end Sys2Proof.Machine
end

