-- ==== Sys2Proof/Machine/Traffic.lean ====
section
/-! DEFINITION. The traffic manager (R439 to R463, R250 to R253): admission, the hold diversion, shapers and policers, the
schedulers, sampling, the forecast and the capture rings. -/
namespace Sys2Proof.Machine

/-! ## Queues -/

/-- The packets of a queue, oldest first. -/
def State.queue (s : State) (q : Nat) : List Packet := Tab.get s.tm.queues [] q

/-- Replace the packets of a queue. -/
def State.setQueue (s : State) (q : Nat) (l : List Packet) : State := { s with tm := { s.tm with queues := Tab.set s.tm.queues [] q l } }

/-- DEPTH: the bytes, as LENGTH, of the packets in a queue (R440). -/
def State.depth (s : State) (q : Nat) : Nat := (s.queue q).foldl (fun a p => a + p.len) 0

/-- What a queue keeps beside its packets. -/
def State.qstat (s : State) (q : Nat) : QueueStat := Tab.get s.tm.stat {} q

/-- Replace what a queue keeps. -/
def State.setQstat (s : State) (q : Nat) (x : QueueStat) : State := { s with tm := { s.tm with stat := Tab.set s.tm.stat {} q x } }

/-- The allocation of an upstream queue (R16). -/
def allocOf (q : Nat) : Nat := (q - 1152) / 4

/-- A queue is an upstream queue. -/
def isUpstream (q : Nat) : Bool := 1152 ≤ q && q < 3200

/-- A queue is a hold-drain queue. -/
def isDrain (q : Nat) : Bool := 3344 ≤ q && q < 3856

/-! ## Shapers (R445 to R453) -/

/-- The largest credit of a shaper. -/
def Shaper.top (h : Shaper) : Int := (h.burst * 65536 : Nat)

/-- What accrues in `ns` nanoseconds, in units of 2⁻¹⁶: RATE is in 10 kb/s, or in packets per second. -/
def Shaper.accrual (h : Shaper) (ns : Nat) : Int := (h.rate * (if h.packet then 1 else 1250) * ns * 65536 / 1000000000 : Nat)

/-- The credit of a shaper brought up to a time (R445). A disabled shaper's credit is frozen (R453), and one of RATE 0 keeps its value (R452). -/
def Shaper.accrue (h : Shaper) (now : Nat) (empty : Bool) : Shaper :=
  if !h.en then h
  else if h.rate = 0 then { h with last := now }
  else
    let c := min h.top (h.credit + h.accrual (now - h.last))
    { h with credit := if empty && !h.accIdle && decide (0 < c) then 0 else c, last := now }

/-- The cost of a frame (R446). -/
def Shaper.cost (h : Shaper) (len : Nat) : Int := if h.packet then 65536 else ((len + h.ovh) * 65536 : Nat)

/-- Charge a frame; a disabled shaper is not charged (R453). -/
def Shaper.charge (h : Shaper) (len : Nat) : Shaper := if h.en then { h with credit := h.credit - h.cost len } else h

/-- Return a charge, capped at BURST (R447, R448). -/
def Shaper.refund (h : Shaper) (c : Int) : Shaper := if h.en then { h with credit := min h.top (h.credit + c) } else h

/-- A shaper allows its queue to send (R442, R452, R453). -/
def Shaper.allows (h : Shaper) : Bool := !h.en || (h.rate ≠ 0 && decide (0 ≤ h.credit))

/-- A queue or group shaper. -/
def State.shaper (s : State) (k : Nat) : Shaper := Tab.get s.tm.shapers {} k

/-- Replace a queue or group shaper. -/
def State.setShaper (s : State) (k : Nat) (h : Shaper) : State := { s with tm := { s.tm with shapers := Tab.set s.tm.shapers {} k h } }

/-- A policer. -/
def State.policer (s : State) (k : Nat) : Shaper := Tab.get s.tm.policers {} k

/-- The group of a queue, as a shaper index, where GRPEN is set. -/
def State.groupOf (s : State) (q : Nat) : Option Nat :=
  if s.on ⟨.TM_Q_CFG, 25, 1⟩ q then some (4096 + s.rd ⟨.TM_Q_CFG, 16, 9⟩ q) else none

/-- No queue of a group, given as a shaper index, holds a packet. -/
def State.groupEmpty (s : State) (g : Nat) : Bool := s.tm.queues.all fun e => e.2.isEmpty || s.groupOf e.1 ≠ some g

/-- Bring the shapers of a queue up to now (R445); a group is idle while all its queues are empty. (log 106, DEDUCED) -/
def State.accrueQueue (s : State) (q : Nat) : State :=
  let s1 := s.setShaper q ((s.shaper q).accrue s.ns64 (s.queue q).isEmpty)
  match s.groupOf q with
  | some g => s1.setShaper g ((s1.shaper g).accrue s.ns64 (s.groupEmpty g))
  | none => s1

/-- Change the hold state of an allocation (R250); leaving Holding and Draining ends the hold that R253 reports once. (log 58, DESIGN CHOICE) -/
def State.setHold (s : State) (a st : Nat) : State :=
  let s1 := s.wr Fld.TM_ALLOC_HOLD_STATE st a
  if st < 2 then { s1 with tm := { s1.tm with budgetSaid := s1.tm.budgetSaid.filter (· ≠ a) } } else s1

/-- A drain shaper under a word of TM_HOLD_DRAIN: byte mode, RATE in 100 Mb/s and BURST in 4 KiB (R252). -/
def Shaper.drain (h : Shaper) (w : Nat) : Shaper :=
  { h with rate := bits w 0 16 * 10000, ovh := bits w 16 8, packet := false, burst := bits w 24 8 * 4096, en := true, accIdle := true }

/-- The drain shaper of an allocation, with its own credit (R252). -/
def State.drainShaper (s : State) (a : Nat) : Shaper := (s.shaper (3344 + a)).drain (s.rdReg .TM_HOLD_DRAIN).toNat

/-- TM_HOLD_DRAIN was written: each drain shaper accrues at its old settings first, and a new OVH or BURST empties its credit (R451). -/
def State.drainWrote (s : State) (old new : Nat) : State :=
  (List.range 512).foldl (fun t a =>
    let h := ((t.shaper (3344 + a)).drain old).accrue t.ns64 false
    t.setShaper (3344 + a) (if bits old 16 16 = bits new 16 16 then h else { h with credit := 0 })) s

/-- ShaperBlocked (769) is raised once when a blocked queue holds a packet (R452). -/
def State.blockedCheck (s : State) (q : Nat) : State :=
  let one := fun (t : State) (k : Nat) =>
    let h := t.shaper k
    if h.en && h.rate = 0 && !h.blockedSaid && !(t.queue q).isEmpty then
      (t.setShaper k { h with blockedSaid := true }).raise 769 [(16, k)]
    else t
  match s.groupOf q with
  | some g => one (one s q) g
  | none => one s q

/-! ## Admission (R439, R251, R253) -/

/-- The hold state of an allocation (R250): 0 Off, 1 Armed, 2 Holding, 3 Draining. -/
def State.holdState (s : State) (a : Nat) : Nat := s.rd Fld.TM_ALLOC_HOLD_STATE a

/-- An upstream queue is beyond NQ of its allocation (R221). -/
def State.beyondNq (s : State) (q : Nat) : Bool := (q - 1152) % 4 > s.rd Fld.TM_ALLOC_MAP_NQ (allocOf q)

/-- The queue that a packet offered to `q` is admitted to: the hold-drain queue while its allocation holds or drains (R251). -/
def State.divert (s : State) (q : Nat) : Nat :=
  if isUpstream q && s.on Fld.TM_ALLOC_Q_HOLD (allocOf q) ((q - 1152) % 4) && 2 ≤ s.holdState (allocOf q) && !s.beyondNq q
  then 3344 + allocOf q else q

/-- The bytes in all hold-drain queues, TM_HOLD_USED (R253). -/
def State.holdUsed (s : State) : Nat :=
  s.tm.queues.foldl (fun a e => if isDrain e.1 then e.2.foldl (fun b p => b + p.len) a else a) 0

/-- A discard at admission: counted, and QueueDiscard (770) raised (R439); the packet's buffer is freed (R427). -/
def State.discardAt (s : State) (q cause : Nat) (p : Packet) : State :=
  ((s.discard p).count ⟨.TM_Q_DROP, 0, 32⟩ q).raise 770 [(16, q), (8, cause)] 1 q

/-- The first check of R439 that fails before a buffer is asked for. -/
def State.admitCheck (s : State) (q t len : Nat) : Option Nat :=
  if !s.on ⟨.TM_Q_CFG, 0, 1⟩ q then some 1
  else if isUpstream q && s.beyondNq q then some 2
  else if t = q ∧ s.rd ⟨.TM_Q_LIMIT, 0, 24⟩ q * 256 < s.depth q + len then some 3
  else none

/-- Put an admitted packet into a queue (R439, R456, R460): of the packets that a queue samples, the first since SAMPEN was set is one, and DEPTH is
taken before it. A queue that was idle has gathered no burst (R445). (log 106, DEDUCED) -/
def State.enqueue (s0 : State) (t : Nat) (p : Packet) : State :=
  let s := if isDrain t then s0 else s0.accrueQueue t
  let x := s.qstat t
  let d := s.depth t
  let sampled := s.on ⟨.TM_Q_CFG, 26, 1⟩ t && x.admitted % 2 ^ s.rd ⟨.TM_Q_CFG, 27, 4⟩ t = 0
  let p1 := { p with enq := s.ns, enqAt := s.ns64, samp := if sampled then some (d, s.tsValid) else none, cut := false, seq := s.tm.seq }
  let s1 := (s.setQueue t (s.queue t ++ [p1])).setQstat t
    { x with admitted := if s.on ⟨.TM_Q_CFG, 26, 1⟩ t then x.admitted + 1 else 0, maxDepth := max x.maxDepth (d + p.len) }
  let s2 := { s1 with tm := { s1.tm with seq := s1.tm.seq + 1, admissions := s1.tm.admissions + b2n (decide (t < 3200)) } }
  s2.blockedCheck t

/-- Local wake of the sleep agreement (R509, R511): role 14's known event is withdrawn, the receivers are turned on, Sleep_Request for awake waits to be sent, and
HeadEndSleepChanged (174) carries the cause. -/
def State.localWake (s : State) (cause : Nat) : State :=
  let st := s.rd Fld.TC_SLEEP_STATUS_STATE
  if st = 0 then s
  else
    let s0 := if s.roleRuns 19 then s.setCtx 19 { s.ctx 19 with pnext := none } else s
    let s1 := (s0.wr Fld.TC_SLEEP_STATUS_STATE 0).receiversOn true
    ({ s1 with fib := { s1.fib with up := s1.fib.up ++ [UpMsg.sleepRequest 0] } }.raise 174 [(8, st), (8, 0), (8, Config.recordCode 174 cause)]).settle

/-- Offer a packet to a queue (R439): admitted, or discarded and counted, and why: the check of R439, or 5 for the hold budget. A packet without a buffer
is stored under `req`, or under the requester that LD_QREQ names for the queue that admits it (R417). -/
def State.offerWhy (s : State) (q : Nat) (p : Packet) (req : Option Nat) : State × Option Nat :=
  let t := s.divert q
  match s.admitCheck q t p.len with
  | some cause => (s.discardAt q cause p, some cause)
  | none =>
    if t ≠ q ∧ s.rd Fld.TM_HOLD_BUDGET_BYTES < s.holdUsed + p.len then
      let s1 := (s.discard p).count Fld.TM_HOLD_DROP_BYTES 0 0 p.len
      let said := s1.tm.budgetSaid.contains (allocOf q)
      let s2 := s1.raise 184 [(16, allocOf q), (32, s1.holdUsed)]
      (if said then s1 else { s2 with tm := { s2.tm with budgetSaid := allocOf q :: s2.tm.budgetSaid } }, some 5)
    else
      let fin := fun (u : State) (p1 : Packet) =>
        let v := (queueDomains t).foldl State.wakeFor (u.enqueue t p1)
        if isUpstream q then ({ v with fib := { v.fib with idleFrom := v.ns64 } }).localWake 1 else v
      if p.handle ≠ 0 then (fin s p, none)
      else match s.store (req.getD (s.rd ⟨.LD_QREQ, 0, 8⟩ 0 t)) p.len with
        | (s1, some h) => (fin s1 { p with handle := h }, none)
        | (s1, none) => (s1.discardAt q 4 p, some 4)

/-- Offer a packet to a queue: whether it was admitted. -/
def State.offer (s : State) (q : Nat) (p : Packet) : State × Bool := let r := s.offerWhy q p none; (r.1, r.2.isNone)

/-! ## Policers (R454) -/

/-- Offer a packet to a policer: it passes and pays, or is to be discarded. -/
def State.police (s : State) (k len : Nat) : State × Bool :=
  let h := { (s.policer k).accrue s.ns64 false with accIdle := true }
  let put := fun (x : Shaper) => { s with tm := { s.tm with policers := Tab.set s.tm.policers {} k x } }
  if !h.en then (s, true)
  else if h.cost len ≤ h.credit then
    let s1 := put (h.charge len)
    ({ s1 with tm := { s1.tm with polPass := Tab.upd s1.tm.polPass 0 k (satAdd 64 · 1) } }, true)
  else
    let s1 := put h
    (({ s1 with tm := { s1.tm with polDrop := Tab.upd s1.tm.polDrop 0 k (satAdd 32 · 1) } }).raise 771 [(16, k)] 1 k, false)

/-! ## Scheduling (R441 to R444) -/

/-- The drain queue of allocation `a` may be served: every HOLD queue in use is empty, and the drain shaper has credit (R252). -/
def State.drainEligible (s : State) (a : Nat) : Bool :=
  !(s.queue (3344 + a)).isEmpty
    && ((List.range (s.rd Fld.TM_ALLOC_MAP_NQ a + 1)).all fun k =>
        !s.on Fld.TM_ALLOC_Q_HOLD a k || (s.queue (1152 + 4 * a + k)).isEmpty)
    && ((s.drainShaper a).accrue s.ns64 false).allows

/-- A queue's own and its group's shaper both allow it to send. -/
def State.shapersAllow (s : State) (q : Nat) : Bool :=
  (s.shaper q).allows && (match s.groupOf q with | some g => (s.shaper g).allows | none => true)

/-- A class gate of a port is open (R358). -/
def State.gateOpen (s : State) (p cls : Nat) : Bool := bit (s.rd Fld.GT_GATES_OPEN p) cls

/-- The highest-PRIO HOLD queue of an allocation, whose PRIO and QUANTUM the drain queue takes (R444). -/
def State.drainModel (s : State) (a : Nat) : Nat :=
  (List.range (s.rd Fld.TM_ALLOC_MAP_NQ a + 1)).foldl (fun b k =>
    let q := 1152 + 4 * a + k
    if s.on Fld.TM_ALLOC_Q_HOLD a k && (b = 0 || s.rd ⟨.TM_Q_CFG, 1, 3⟩ b < s.rd ⟨.TM_Q_CFG, 1, 3⟩ q) then q else b) 0

/-- The queue whose PRIO and QUANTUM a queue is served with. -/
def State.modelOf (s : State) (q : Nat) : Nat := if isDrain q then s.drainModel (q - 3344) else q

/-- One turn of deficit round robin over the queues of one PRIO, starting at a queue: the queue that sends, if any turn within
the fuel gives one (R442). -/
def drrTurns (len quantum : Nat → Nat) (defi : Tab Nat) : Nat → List Nat → Option (Nat × Tab Nat)
  | 0, _ => none
  | _, [] => none
  | n + 1, q :: r =>
    if len q ≤ Tab.get defi 0 q then some (q, Tab.set defi 0 q (Tab.get defi 0 q - len q))
    else drrTurns len quantum (Tab.upd defi 0 q (· + quantum q * 64)) n (r ++ [q])

/-- Rotate a list so that the first element not below `k` comes first. -/
def rotateFrom (k : Nat) (l : List Nat) : List Nat := l.filter (fun x => k ≤ x) ++ l.filter (fun x => x < k)

/-- Choose among eligible queues: the highest PRIO, then deficit round robin (R442), whose turn each PRIO keeps. `sched` names the scheduler, and at a client
port the classes it chooses among (R443); `len` is the LENGTH a queue's next frame counts with. -/
def State.choose (s : State) (sched : Nat) (qs : List Nat) (len : Nat → Nat) : Option (Nat × State) :=
  let prio := fun q => s.rd ⟨.TM_Q_CFG, 1, 3⟩ (s.modelOf q)
  let top := qs.foldl (fun a q => max a (prio q)) 0
  let band := rotateFrom (Tab.get s.tm.turn 0 (8 * sched + top)) (qs.filter (fun q => prio q = top))
  let defi := band.foldl (fun t q => Tab.set t 0 q (s.qstat q).deficit) []
  match drrTurns len (fun q => s.rd ⟨.TM_Q_CFG, 4, 12⟩ (s.modelOf q)) defi (161 * band.length) band with
  | none => none
  | some (q, d) =>
    let s1 := band.foldl (fun t k => t.setQstat k { t.qstat k with deficit := Tab.get d 0 k }) s
    some (q, { s1 with tm := { s1.tm with turn := Tab.set s1.tm.turn 0 (8 * sched + top) q } })

/-- Charge a frame of a length to a queue's shapers (R446). -/
def State.chargeQueue (s : State) (q len : Nat) : State :=
  if isDrain q then s.setShaper q ((((s.drainShaper (q - 3344)).accrue s.ns64 false)).charge len)
  else
    let s1 := s.accrueQueue q
    let s2 := s1.setShaper q ((s1.shaper q).charge len)
    match s2.groupOf q with
    | some g => s2.setShaper g ((s2.shaper g).charge len)
    | none => s2

/-- Return a charge to a queue's shapers (R447, R448). -/
def State.refundQueue (s : State) (q len : Nat) : State :=
  let one := fun (t : State) (k : Nat) => t.setShaper k ((t.shaper k).refund ((t.shaper k).cost len))
  if isDrain q then s.setShaper q ((s.drainShaper (q - 3344)).refund ((s.drainShaper (q - 3344)).cost len))
  else match s.groupOf q with
    | some g => one (one s q) g
    | none => one s q

/-- Write a sample record to its latency ring, or count it as missed (R456, R457). -/
def State.sample (s : State) (q : Nat) (p : Packet) (d : Nat) (tsv : Bool) (soj : Nat) : State :=
  let ring := s.rd ⟨.TM_Q_LIMIT, 24, 6⟩ q
  let n := s.rd ⟨.TM_LR_BASE, 40, 20⟩ ring
  let w := s.rd ⟨.TM_LR_WR, 0, 20⟩ ring
  let o := s.rd ⟨.TM_LR_BASE, 0, 39⟩ ring + 16 * w
  if n = 0 ∨ (w + 1) % n = s.rd ⟨.TM_LR_RD, 0, 20⟩ ring ∨ s.asleep (interleavedDomain o) then
    (s.count ⟨.TM_LR_MISS, 0, 32⟩ ring).raise 772 [(16, ring)] 1 ring
  else
    let w0 := q + b2n (tsv && s.tsValid) * 2 ^ 16 + p.enq.toNat * 2 ^ 32
    let w1 := min soj (2 ^ 32 - 1) + min d (2 ^ 32 - 1) * 2 ^ 32
    (s.hbmWrite 4 o (leBytes w0 8 ++ leBytes w1 8)).wr ⟨.TM_LR_WR, 0, 20⟩ ((w + 1) % n) ring

/-- Some queue in use of an allocation has HOLD = 1. -/
def State.holdMarked (s : State) (a : Nat) : Bool :=
  (List.range (s.rd Fld.TM_ALLOC_MAP_NQ a + 1)).any fun k => s.on Fld.TM_ALLOC_Q_HOLD a k

/-- Off and Armed follow the marks of the queues (R250). -/
def State.armFollow (s : State) (a : Nat) : State :=
  if s.holdState a = 0 ∧ s.on Fld.TM_ALLOC_MAP_EN a ∧ s.holdMarked a then s.setHold a 1
  else if s.holdState a = 1 ∧ !s.holdMarked a then s.setHold a 0
  else s

/-- Role 11 reports a hold or its outcome, by the number of its event, to the host (R256). (log 134, DESIGN CHOICE) -/
def State.holdReport (s : State) (a ev : Nat) : State := if s.roleRuns 16 then s.emit (.hold a ev) else s

/-- End of a drain: the empty hold-drain queue ends Draining (R250). -/
def State.holdEnd (s : State) (a : Nat) : State :=
  if s.holdState a = 3 ∧ (s.queue (3344 + a)).isEmpty then
    let t := Tab.get s.tm.holdTimes (0, 0) a
    (((s.setHold a 1).raise 183 [(16, a), (32, (t.2 - t.1) / 1000000), (32, (s.ns64 - t.2) / 1000000)]).holdReport a 183).armFollow a
  else s

/-- Take the head packet of a queue: marks, sampling, deficits and the end of a hold (R440, R442, R456, R458). The sojourn is the difference on TB_NS,
saturated. -/
def State.dequeue (s : State) (q : Nat) : State × Option Packet :=
  match s.queue q with
  | [] => (s, none)
  | p :: r =>
    let soj := if s.ns64 - p.enqAt < 2 ^ 32 then (s.ns - p.enq).toNat else 2 ^ 32 - 1
    let x := s.qstat q
    let s1 := s.setQueue q r
    let s2 := s1.setQstat q { s1.qstat q with
      maxSojourn := max x.maxSojourn soj
      deficit := if r.isEmpty then 0 else (s1.qstat q).deficit
      last := if p.samp.isSome then some (min soj (2 ^ 31 - 1)) else x.last }
    let s3 := match p.samp with
      | some (d, tsv) => s2.sample q p d tsv soj
      | none => s2
    let s4 := if isDrain q then s3.holdEnd (q - 3344)
      else if isUpstream q then { s3 with fib := { s3.fib with idleFrom := s3.ns64 } } else s3
    (s4, some p)

/-! ## Capture rings (R461) -/

/-- A capture ring can take no entry: it has none, or it is full. -/
def State.ringFull (s : State) (k : Nat) : Bool :=
  let n := s.rd ⟨.TM_CR_BASE, 40, 20⟩ k
  n = 0 || (s.rd ⟨.TM_CR_WR, 0, 20⟩ k + 1) % n = s.rd ⟨.TM_CR_RD, 0, 20⟩ k

/-- CAPTURE_WRITE (R461): the head packet of capture queue 3,856 + k goes to its ring, or is discarded when the ring is full; the
buffer is then freed. It waits for the stack that holds the entry to wake (R25). -/
def execCaptureWrite (k : Nat) (s : State) : Host.Outcome State Fault Refusal :=
  if 240 ≤ k then .fault .noSuchObject
  else if s.asleep 5 then .next s
  else
    let o := s.rd ⟨.TM_CR_BASE, 0, 39⟩ k + 2048 * s.rd ⟨.TM_CR_WR, 0, 20⟩ k
    if s.asleep (interleavedDomain o) && !s.ringFull k then .next (if (s.queue (3856 + k)).isEmpty then s else s.wakeFor (interleavedDomain o))
    else match s.dequeue (3856 + k) with
    | (_, none) => .next s
    | (s1, some p) =>
      let n := s1.rd ⟨.TM_CR_BASE, 40, 20⟩ k
      let w := s1.rd ⟨.TM_CR_WR, 0, 20⟩ k
      if s1.ringFull k then
        .next (((s1.freePacket p).count ⟨.TM_CR_DROP, 0, 32⟩ k).raise 774 [(16, k)] 1 k)
      else
        let st := min p.data.length 2016
        let w0 := p.ts + b2n p.tsv * 2 ^ 63
        let w1 := p.len + st * 2 ^ 14 + p.inport * 2 ^ 28 + p.flow * 2 ^ 36
        let s2 := s1.hbmWrite 5 o (leBytes w0 8 ++ leBytes w1 8 ++ leBytes s1.ns.toNat 8 ++ leBytes 0 8 ++ p.data.take st)
        .next ((s2.wr ⟨.TM_CR_WR, 0, 20⟩ ((w + 1) % n) k).freePacket p)

/-! ## The load forecast (R460) -/

/-- LOAD_FORECAST (R460), every 10 µs: F = D + max(0, A − D), per second from counts of 10 µs, in M decisions/s; QUEUING follows THRESH. -/
def execLoadForecast (s : State) : Host.Outcome State Fault Refusal :=
  if s.asleep 5 || s.tm.forecastAt.any (fun t => s.ns64 < t + 10000) then .next s
  else
    let d := s.tm.decisions
    let a := s.tm.admissions
    let f := min ((d + (a - d)) / 10) 65535
    let q := decide (s.rd ⟨.TM_LOAD_CFG, 0, 16⟩ * 10 < d + (a - d))
    let s1 := { s with tm := { s.tm with decisions := 0, admissions := 0, forecastAt := some s.ns64 } }
    let s2 := (s1.wr ⟨.TM_LOAD_FCST, 0, 16⟩ f).flag Fld.TM_LOAD_FCST_QUEUING q
    .next (if q == s.on Fld.TM_LOAD_FCST_QUEUING then s2 else s2.raise 773 [(8, b2n q), (16, f)] 1)

/-! ## Staging sets (R451, R454) -/

/-- Which of the two kinds of staging set an access reaches: shapers or policers. -/
def stageOf (s : State) (pol : Bool) (src : Src) : Stage := Tab.get (if pol then s.tm.polStage else s.tm.shpStage) {} (requesterOf src)

/-- Replace a requester's staging set. -/
def State.setStage (s : State) (pol : Bool) (src : Src) (x : Stage) : State :=
  if pol then { s with tm := { s.tm with polStage := Tab.set s.tm.polStage {} (requesterOf src) x } }
  else { s with tm := { s.tm with shpStage := Tab.set s.tm.shpStage {} (requesterOf src) x } }

/-- The staging words of a shaper's committed values. -/
def Shaper.stage (h : Shaper) (sel : Nat) : Stage :=
  { sel := sel, rate := BitVec.ofNat 32 (h.rate + h.ovh * 2 ^ 24 + b2n h.packet * 2 ^ 31), burst := BitVec.ofNat 32 h.burst
    ctrl := BitVec.ofNat 32 (b2n h.en + b2n h.accIdle * 2) }

/-- A write of TM_SHP_SEL or TM_POL_SEL loads the staging words with the committed values. -/
def State.stageSelect (s : State) (pol : Bool) (src : Src) (k : Nat) : State :=
  s.setStage pol src ((if pol then s.policer k else s.shaper k).stage k)

/-- TmConfigRefused (768). -/
def State.tmRefused (s : State) (off idx : Nat) (src : Src) : State := s.raise 768 [(16, off), (16, idx), (16, srcCode src)]

/-- The FILL rule of R451: the credit after a commit, or none where the commit is discarded. -/
def fillCredit (old new : Shaper) (fill : Nat) : Option Int :=
  let hard := old.burst ≠ new.burst || old.packet != new.packet || old.ovh ≠ new.ovh || (!old.en && new.en)
  match fill with
  | 0 => if hard then none else some old.credit
  | 1 => some 0
  | 2 => some new.top
  | _ => none

/-- A write of TM_SHP_CTRL or TM_POL_CTRL with GO commits the staging words under the FILL rule (R451); ACCIDLE of a policer is 1
(R454). A commit for an internal, hold-drain or capture queue is refused (R441). -/
def State.stageCommit (s : State) (pol : Bool) (src : Src) (fill : Nat) : State :=
  let x := stageOf s pol src
  let k := x.sel
  let off := if pol then 0xC else 0xC
  let old := (if pol then s.policer k else s.shaper k).accrue s.ns64 (!pol && (if k < 4096 then (s.queue k).isEmpty else s.groupEmpty k))
  let new := { old with rate := bits x.rate.toNat 0 24, ovh := bits x.rate.toNat 24 7, packet := bit x.rate.toNat 31
                        burst := bits x.burst.toNat 0 28, en := bit x.ctrl.toNat 0, accIdle := pol || bit x.ctrl.toNat 1 }
  if !pol && decide (3200 ≤ k ∧ k < 4096) then s.tmRefused off k src
  else match fillCredit old new fill with
    | none => s.tmRefused off k src
    | some c =>
      let h := { new with credit := c, last := s.ns64, blockedSaid := if new.rate = 0 then old.blockedSaid && old.rate = 0 else false }
      if pol then { s with tm := { s.tm with policers := Tab.set s.tm.policers {} k h } }
      else
        let s1 := s.setShaper k h
        if k < 4096 then s1.blockedCheck k
        else s1.tm.queues.foldl (fun t e => if t.groupOf e.1 = some k then t.blockedCheck e.1 else t) s1

end Sys2Proof.Machine
end

