-- ==== Sys2Proof/Machine/Lanes.lean ====
section
/-! DEFINITION. Client lanes (R321 to R349): the rate ledger, LN_CTRL, the port state machine, step-up negotiation, sleep by
direction, patterns and checkers. -/
namespace Sys2Proof.Machine

/-- The lane of a client port. -/
def State.lane (s : State) (p : Nat) : Lane := Tab.get s.lanes {} p

/-- Replace the lane of a client port. -/
def State.setLane (s : State) (p : Nat) (x : Lane) : State := { s with lanes := Tab.set s.lanes {} p x }

/-- The state of R328: 0 Disabled, 1 Hunt, 2 Exchange, 3 Acquire, 4 Up, 6 Rejected. -/
def State.laneState (s : State) (p : Nat) : Nat := s.rd Fld.LN_STATUS_STATE p

/-- ClientLinkChanged (R349): port, new state, rate, FEC, LPI. -/
def State.linkChanged (s : State) (p st : Nat) : State :=
  s.raise (256 + 2 * p) [(8, p), (8, st), (16, s.rd Fld.LN_STATUS_CURRATE p), (16, s.rd Fld.LN_STATUS_CURFEC p),
    (16, s.rd Fld.LN_STATUS_CURLPI p)]

/-- ClientLaneAlarm (R349): at most once per second for each cause and port. -/
def State.laneAlarm (s : State) (p cause : Nat) : State := s.raise (257 + 2 * p) [(8, p), (8, cause)] 1 cause

/-- TXTEST follows the generator: code 0x9 runs only in Hunt and Exchange, every other only in Acquire and Up, and only while
TXEN = 1 (R342). The time for which it runs does not count for the time spent in a state: the RETRY timer is suspended. -/
def State.laneTest (s : State) (p : Nat) : State :=
  let g := s.rd Fld.LN_PRBS_CTRL_GEN p
  let st := s.laneState p
  let run := s.on Fld.LN_CTRL_TXEN p && (if g = 9 then st = 1 || st = 2 else g ≠ 0 && (st = 3 || st = 4))
  let was := s.on Fld.LN_STATUS_TXTEST p
  let x := s.lane p
  let s1 := if run && !was then s.setLane p { x with testAt := s.ns64 }
    else if was && !run then s.setLane p { x with since := x.since + (s.ns64 - max x.testAt x.since) } else s
  s1.flag Fld.LN_STATUS_TXTEST run p

/-- The MAC of a client port. -/
def State.mac (s : State) (p : Nat) : Mac := Tab.get s.macs {} p

/-- Replace the MAC of a client port. -/
def State.setMac (s : State) (p : Nat) (x : Mac) : State := { s with macs := Tab.set s.macs {} p x }

/-- ACTIVE of MC_PREEMPT_STATUS follows R352. -/
def State.preemptFollow (s : State) (p : Nat) : State :=
  s.flag Fld.MC_PREEMPT_STATUS_ACTIVE (decide (s.laneState p = 4) && s.on Fld.MC_PREEMPT_PREEN p
    && (!s.on Fld.MC_PREEMPT_VERIFY p || decide (s.rd Fld.MC_PREEMPT_STATUS_VSTATUS p = 3))) p

/-- Change VSTATUS (R353): PreemptVerifyChanged (545) at each change. -/
def State.setVstatus (s : State) (p v : Nat) : State :=
  if s.rd Fld.MC_PREEMPT_STATUS_VSTATUS p = v then s.preemptFollow p
  else ((s.wr Fld.MC_PREEMPT_STATUS_VSTATUS v p).preemptFollow p).raise 545 [(8, p), (8, v)]

/-- The verify process starts again (R353): initial while preemption and VERIFY are on, otherwise disabled. -/
def State.verifyRestart (s : State) (p : Nat) : State :=
  (s.setMac p { s.mac p with verSent := 0 }).setVstatus p
    (if s.on Fld.MC_PREEMPT_PREEN p && s.on Fld.MC_PREEMPT_VERIFY p then 1 else 0)

/-- Move a port to a state (R328). A running generator that may not run in the new state stops and GEN reads 0 (R342); leaving Up
ends LPI in both directions; entering or leaving Up raises ClientLinkChanged. -/
def State.laneGo (s : State) (p st : Nat) : State :=
  let old := s.laneState p
  let g := s.rd Fld.LN_PRBS_CTRL_GEN p
  let stops := s.on Fld.LN_STATUS_TXTEST p && (if g = 9 then st ≠ 1 && st ≠ 2 else st ≠ 3 && st ≠ 4)
  let s1 := (s.setLane p { s.lane p with since := s.ns64 }).wr Fld.LN_STATUS_STATE st p
  let s2 := if stops then s1.wr Fld.LN_PRBS_CTRL_GEN 0 p else s1
  let s3 := if old = 4 ∧ st ≠ 4 then (s2.flag Fld.LN_STATUS_TXLPI false p).flag Fld.LN_STATUS_RXLPI false p else s2
  let s4 := s3.laneTest p
  if (old = 4) = (st = 4) then s4.settle else ((s4.settle).linkChanged p st).verifyRestart p

/-- Enter Hunt: the partner's pages are forgotten, the receiver hunts for alignment, and the scrambler takes a new seed, 1 in place of 0 (R331). The timer of R328 starts unless
the port comes from Exchange. -/
def State.enterHunt (s : State) (p : Nat) : State :=
  let d := Config.draw s.draws &&& 0x3FFFFFFFFFFFFFF#64
  let x := { s.lane p with rx := {}, scr := if d = 0 then 1 else d.toNat, readySent := 0, lastRes := none
                           huntAt := if s.laneState p = 2 then (s.lane p).huntAt else s.ns64 }
  ((({ s with draws := s.draws + 1 }.setLane p x).flag Fld.LN_NEG_PARTNER_VALID false p)).laneGo p 1

/-- The reference a lane uses: 0 for 1.25 GBd in Hunt, Exchange and Rejected, otherwise 1 + the rate code. -/
def State.laneRef (s : State) (p : Nat) : Nat := if s.laneState p = 3 ∨ s.laneState p = 4 then 1 + s.rd Fld.LN_STATUS_CURRATE p else 0

/-- An enabled port uses a reference: where that is not locked, the port is dark in Acquire until it is (R322). (log 72, DEDUCED) -/
def State.useRef (s : State) (p : Nat) : State :=
  let k := s.laneRef p
  if s.laneState p = 0 then s
  else if bit (s.rd Fld.LN_REF_LOCK (p / 72)) k then s.setLane p { s.lane p with noRef := none }
  else ((s.setLane p { s.lane p with noRef := some k }).laneGo p 3).laneAlarm p 9

/-- The references of a port group lock when its domain gets its power (R322, R348). (log 72, DEDUCED) -/
def State.refsLock (s : State) (d : Nat) : State :=
  if d = 10 ∨ d = 11 then s.wr Fld.LN_REF_LOCK 0xF (d - 10) else s

/-- The transmitter of a port is lit: enabled, with no fault latched and its reference locked (R322, R347). -/
def State.lit (s : State) (p : Nat) : Bool :=
  s.on Fld.LN_CTRL_TXEN p && !s.on Fld.LN_STATUS_TXFAULT p && (s.lane p).noRef.isNone && decide (s.laneState p ≠ 0)

/-- The rate, FEC and LPI in use, with the wake time of the rate (R338, R348). -/
def State.setLaneRate (s : State) (p r : Nat) (fec lpi : Bool) : State :=
  (((s.wr Fld.LN_STATUS_CURRATE r p).flag Fld.LN_STATUS_CURFEC fec p).flag Fld.LN_STATUS_CURLPI lpi p).wr Fld.LN_LPI_TXWAKE (Config.txWake r).toNat p

/-! ## The rate budget (R323 to R326) -/

/-- Gb/s of a reservation code. -/
def resGbps (r : Nat) : Nat := if r = 0 then 0 else if r = 1 then 10 else if r = 2 then 25 else 50

/-- The device-wide sum of transmit or receive reservations. -/
def State.resSum (s : State) (tx : Bool) : Nat := s.lanes.foldl (fun a e => a + resGbps (if tx then e.2.txRes else e.2.rxRes)) 0

/-- The sum over one port group. -/
def State.groupSum (s : State) (g : Nat) (tx : Bool) : Nat :=
  s.lanes.foldl (fun a e => if e.1 / 72 = g then a + resGbps (if tx then e.2.txRes else e.2.rxRes) else a) 0

/-- The highest rate code of a set of rates, 0 where the set is empty. -/
def highestRate (m : Nat) : Nat := if bit m 2 then 2 else if bit m 1 then 1 else 0

/-! ## LN_CTRL (R324, R327) -/

/-- The offer set and the reservation of a port that returns to negotiation (R325): the allowed rates no higher than its reservation plus
the free budget, and the highest of them. -/
def State.reoffer (s : State) (p : Nat) : State :=
  let x := s.lane p
  let top := resGbps x.txRes + (3600 - max (s.resSum true) (s.resSum false))
  let a := s.rd Fld.LN_CTRL_ALLOWED p
  let set := (List.range 3).foldl (fun m k => if bit a k && decide (resGbps (k + 1) ≤ top) then m + 2 ^ k else m) 0
  s.setLane p { x with offer := set, txRes := highestRate set + 1, rxRes := highestRate set + 1 }

/-- An enabled port starts from Disabled (R328): in negotiation mode in Hunt, in fixed mode in Acquire at its rate. -/
def State.laneStart (s : State) (p : Nat) : State :=
  let r := s.rd Fld.LN_CTRL_RATE p
  (if s.rd Fld.LN_CTRL_MODE p = 1 then s.enterHunt p
   else (s.setLaneRate p r (r = 2 || (r = 1 && s.on Fld.LN_CTRL_FEC p)) (s.on Fld.LN_CTRL_LPIEN p && r ≠ 2)).laneGo p 3).useRef p

/-- The bits of LN_CTRL that may change only while both directions are off. -/
def laneConfigBits : Nat := 0x7F7C

/-- A write of LN_CTRL that R327 discards. -/
def laneWriteBad (old v : Nat) : Bool :=
  let off := fun (w : Nat) => w % 4 = 0
  let clears := off v && !off old
  let nego := bits v 2 2 = 1
  !clears && ((!off old && (v &&& laneConfigBits) ≠ (old &&& laneConfigBits)) || (nego && bit v 0 != bit v 1)
    || decide (2 ≤ bits v 2 2) || bits v 4 2 = 3 || bits v 12 2 = 3 || (nego && bits v 8 3 = 0))

/-- What a direction reserves after a write: nothing while off, what it held while it stays on, otherwise the fixed rate or the
highest rate allowed. -/
def laneReserve (old v dir res : Nat) : Nat :=
  if !bit v dir then 0 else if bit old dir then res
  else if bits v 2 2 = 1 then highestRate (bits v 8 3) + 1 else bits v 4 2 + 1

/-- A write of LN_CTRL (R324, R327, R328). -/
def State.laneCtrlWrite (s : State) (p w : Nat) : State :=
  let v := w % 0x8000 &&& 0x7F7F
  let old := (s.rdReg .LN_CTRL p).toNat
  let x := s.lane p
  if laneWriteBad old v then s.laneAlarm p 2
  else
    let tx := laneReserve old v 1 x.txRes
    let rx := laneReserve old v 0 x.rxRes
    let beyond := fun (dir : Bool) (new held : Nat) => decide (3600 < s.resSum dir - resGbps held + resGbps new)
    if beyond true tx x.txRes || beyond false rx x.rxRes then (s.count Fld.LN_BUDGET_REFUSED_COUNT (p / 72)).laneAlarm p 1
    else
      let s1 := (s.wrReg .LN_CTRL (BitVec.ofNat 64 v) p).setLane p { x with txRes := tx, rxRes := rx }
      if v % 4 = 0 then
        if old % 4 = 0 then s1
        else
          let s2 := (s1.flag Fld.LN_STATUS_TXFAULT false p).setLane p { s1.lane p with noRef := none, rx := {} }
          s2.laneGo p 0
      else if old % 4 ≠ 0 then (s1.laneTest p).settle
      else (s1.setLane p { s1.lane p with offer := bits v 8 3 }).laneStart p

/-! ## Pages (R336, R337) -/

/-- One bit of the CRC-16 of R336, polynomial x¹⁶ + x¹² + x⁵ + 1. (log 71, DEDUCED) -/
def crc16Bit (c : Nat) (b : Bool) : Nat :=
  let top := bit c 15 != b
  let t := c * 2 % 65536
  if top then t ^^^ 0x1021 else t

/-- The CRC-16 of bits [111:8] of a page, bit 8 first. (log 71, DEDUCED) -/
def pageCrc (p : Nat) : Nat := (List.range 104).foldl (fun c k => crc16Bit c (bit p (8 + k))) 0xFFFF

/-- The resolution of R337 on two sets of ability fields in the places of a page: RATES [26:24], FEC25 [27], FEC25REQ [28],
LPI [29]. -/
def resolvePages (l r : Nat) : Option Resolved :=
  let both := bits l 24 3 &&& bits r 24 3
  let rates := if (bit l 28 && !bit r 27) || (bit r 28 && !bit l 27) then putBits both 1 1 0 else both
  if rates = 0 then none
  else
    let k := highestRate rates
    some { rate := k, fec := k = 2 || (k = 1 && (bit l 28 || bit r 28)), lpi := k ≠ 2 && bit l 29 && bit r 29 }

/-- The port's own ability fields in their places. -/
def State.ownPage (s : State) (p : Nat) : Nat :=
  (s.lane p).offer * 2 ^ 24 + 2 ^ 27 + s.rd Fld.LN_CTRL_FECREQ p * 2 ^ 28 + s.rd Fld.LN_CTRL_LPIEN p * 2 ^ 29

/-- The partner's last valid page, in its place in P. -/
def State.partnerPage (s : State) (p : Nat) : Nat := s.rd Fld.LN_NEG_PARTNER_PAGE p * 2 ^ 8

/-- Near-end loopback returns what a port sends to its own receiver, and the receive fibre is ignored (R345). -/
def State.loopsBack (s : State) (p : Nat) : Bool := s.on Fld.LN_CTRL_RXEN p && s.on Fld.LN_CTRL_TXEN p && decide (s.rd Fld.LN_CTRL_LOOP p = 1)

/-- Far-end loopback sends back what a port receives (R345). -/
def State.sendsBack (s : State) (p : Nat) : Bool := s.on Fld.LN_CTRL_RXEN p && s.on Fld.LN_CTRL_TXEN p && decide (s.rd Fld.LN_CTRL_LOOP p = 2)

/-- The period of periodic error injection, 0 in another mode (R344). -/
def State.injectPeriod (s : State) (p : Nat) : Nat := if s.rd Fld.LN_PRBS_CTRL_MODE p = 2 then 2 ^ s.rd Fld.LN_PRBS_CTRL_EXP p else 0

/-- Send control blocks in the Bolnan lane code: scrambled, stuffed and with the errors to inject (R330 to R332, R344). -/
def State.sendBlocks (s : State) (p : Nat) (blocks : List Nat) : State :=
  let x := s.lane p
  let a := encodeBlocks blocks x.scr
  let b := stuff a.1 x.txRun
  let c := inject (s.injectPeriod p) b.1 x.inj
  (s.setLane p { x with scr := a.2, txRun := b.2, inj := c.2, loop := if s.loopsBack p then x.loop ++ c.1 else x.loop }).emit (.line p c.1)

/-- The seven fillers that follow a page (R335). -/
def fillers (n : Nat) : List Nat := List.replicate n 0x1E

/-- Send a page and its seven fillers: SEQ advances at each new content (R335, R336). -/
def State.sendPage (s : State) (p kind : Nat) (res : Option Resolved) : State :=
  let x := s.lane p
  let r := match res with
    | some r => r.rate * 2 ^ 32 + b2n r.fec * 2 ^ 34 + b2n r.lpi * 2 ^ 35
    | none => 0
  let body := 0x4B + 0x1 * 2 ^ 8 + kind * 2 ^ 12 + s.ownPage p + r
  let seq := if x.lastPage = some body then x.seq else (x.seq + 1) % 256
  let page := body + seq * 2 ^ 16
  let whole := page + pageCrc page * 2 ^ 112
  ((s.setLane p { x with seq := seq, lastPage := some body }).emit (.page p whole)).sendBlocks p (whole :: fillers 7)

/-- The partner's last page is READY with a result. -/
def readyWith (page : Nat) (r : Resolved) : Bool :=
  bits page 12 4 = 2 && bits page 32 2 = r.rate && bit page 34 == r.fec && bit page 35 == r.lpi

/-- The page slot of Exchange (R337). -/
def State.pageSlot (s : State) (p : Nat) : State :=
  if !s.on Fld.LN_NEG_PARTNER_VALID p then s.sendPage p 1 none
  else match resolvePages (s.ownPage p) (s.partnerPage p) with
    | none => ((s.sendPage p 3 none).laneGo p 6).laneAlarm p 3
    | some r =>
      let n := if (s.lane p).lastRes = some r then (s.lane p).readySent + 1 else 1
      let s1 := s.sendPage p 2 (some r)
      let s2 := s1.setLane p { s1.lane p with readySent := n, lastRes := some r }
      if readyWith (s2.partnerPage p) r ∧ 8 ≤ n then
        ((s2.setLaneRate p r.rate r.fec r.lpi).laneGo p 3).useRef p
      else s2

/-- A page is received (R336): discarded and counted when its CRC or VER is wrong; otherwise recorded, and in Rejected a change of
the ability fields returns the port to Hunt (R328). -/
def State.pageReceive (s : State) (p page : Nat) : State :=
  if bits page 112 16 ≠ pageCrc page ∨ bits page 8 4 ≠ 1 then s.count Fld.LN_BOL_CNT_PAGEERR p
  else
    let changed := !s.on Fld.LN_NEG_PARTNER_VALID p || bits page 24 6 ≠ bits (s.partnerPage p) 24 6
    let s1 := (s.wr Fld.LN_NEG_PARTNER_PAGE (bits page 8 28) p).flag Fld.LN_NEG_PARTNER_VALID true p
    if s.laneState p = 6 && changed then (s1.enterHunt p).useRef p else s1

/-! ## Commands -/

/-- The lanes of a port domain do not run: it has no power, or is at Slumber or Off. At Doze and Nap they keep everything and go on. (log 72, DEDUCED) -/
def State.lanesOff (s : State) (d : Nat) : Bool := !bit s.boot.powered d || decide (3 ≤ s.rd Fld.PW_DOM_STATUS_DEPTH d)

/-- Run an effect on a client port's lane, where the port exists and its lanes run. -/
def onLane (p : Nat) (s : State) (f : State → State) : Host.Outcome State Fault Refusal :=
  if 144 ≤ p then .fault .noSuchObject else if s.lanesOff (portDomain p) then .next s else .next (f s)

/-- A port speaks the Bolnan lane code: in Hunt, Exchange and Rejected (R335). -/
def State.bolnan (s : State) (p : Nat) : Bool := s.laneState p = 1 || s.laneState p = 2 || s.laneState p = 6

/-- What the receiver has counted reaches its registers; a block lost to a full elastic store is an overflow (R29). -/
def State.rxCounts (s : State) (p : Nat) : State :=
  let x := s.lane p
  let s1 := s.setLane p { x with rx := { x.rx with stuffErr := 0, alignLoss := 0, lost := 0 } }
  let s2 := if x.rx.stuffErr = 0 then s1 else s1.count Fld.LN_BOL_CNT_STUFFERR p 0 x.rx.stuffErr
  let s3 := if x.rx.alignLoss = 0 then s2 else s2.count Fld.LN_BOL_CNT_ALIGNLOSS p 0 x.rx.alignLoss
  if x.rx.lost = 0 then s3 else s3.raise 12 [(8, 0), (16, p)]

/-- One received line bit (R332 to R335): from Hunt, alignment and descrambler sync lead to Exchange; from Exchange a loss of alignment leads to Hunt
(R328). -/
def State.lineBit (p : Nat) (s : State) (b : Bool) : State :=
  if !s.bolnan p then s
  else
    let r := (s.lane p).rx.bit b
    let s1 := (s.setLane p { s.lane p with rx := r }).rxCounts p
    if s.laneState p = 2 ∧ r.alignLoss ≠ 0 then s1.enterHunt p
    else if s.laneState p = 1 ∧ r.aligned ∧ r.synced then s1.laneGo p 2
    else s1

/-- Received line bits: with near-end loopback those that the port has sent, with far-end loopback sent back too (R345). -/
def State.lineBits (s : State) (p : Nat) (bits : List Bool) : State :=
  if s.loopsBack p then (s.lane p).loop.foldl (State.lineBit p) (s.setLane p { s.lane p with loop := [] })
  else bits.foldl (State.lineBit p) (if s.sendsBack p then s.emit (.line p bits) else s)

/-- A block leaves the elastic store (R335): fillers and data blocks do nothing, pages are accepted only while sync holds, and a control block of
another type is counted. -/
def State.blockIn (s : State) (p : Nat) (b : BolnanBlock) : State :=
  if !b.ctrl || bits b.payload 0 8 = 0x1E then s
  else if bits b.payload 0 8 ≠ 0x4B then s.count Fld.LN_BOL_CNT_UNKNOWN p
  else if b.ok then s.pageReceive p b.payload
  else s

/-- The lane island takes up to `n` blocks from the elastic store, oldest first, while the port speaks the lane code. -/
def State.takeBlocks (p : Nat) : Nat → State → State
  | 0, s => s
  | n + 1, s =>
    match (s.lane p).rx.store with
    | [] => s
    | b :: r =>
      if s.bolnan p then
        State.takeBlocks p n ((s.setLane p { s.lane p with rx := { (s.lane p).rx with store := r } }).blockIn p b)
      else s

/-- LANE_BLOCK_ALIGNED (R333): line bits arrive. The 64th valid header in a row locks the alignment; with descrambler sync the port moves from Hunt to
Exchange (R328). -/
def execLaneBlockAligned (p : Nat) (bits : List Bool) (s : State) : Host.Outcome State Fault Refusal :=
  onLane p s fun s => s.lineBits p bits

/-- LANE_ALIGNMENT_LOSS (R333): line bits arrive. 24 invalid headers in 128 end the lock, which is counted; from Exchange the port returns to Hunt
(R328). -/
def execLaneAlignmentLoss (p : Nat) (bits : List Bool) (s : State) : Host.Outcome State Fault Refusal :=
  onLane p s fun s => s.lineBits p bits

/-- DESCRAMBLER_SYNC_LOSS (R334): line bits arrive. The third filler in a row off its prediction ends sync, and alignment is kept. -/
def execDescramblerSyncLoss (p : Nat) (bits : List Bool) (s : State) : Host.Outcome State Fault Refusal :=
  onLane p s fun s => s.lineBits p bits

/-- LANE_PAGE_RECEIVE (R335, R336): line bits arrive, and the lane island takes `n` blocks from the elastic store; a page among them is checked and
recorded. -/
def execLanePageReceive (p : Nat) (bits : List Bool) (n : Nat) (s : State) : Host.Outcome State Fault Refusal :=
  onLane p s fun s => State.takeBlocks p n (s.lineBits p bits)

/-- LANE_PAGE_SLOT (R335, R337): in Hunt and Rejected the repeated page is ABILITY and REJECT; in Exchange the port resolves. A
dark transmitter sends none; a running generator sends fillers in their place (R342), and far-end loopback what is received (R345). -/
def execLanePageSlot (p : Nat) (s : State) : Host.Outcome State Fault Refusal :=
  onLane p s fun s =>
    if !s.lit p || s.sendsBack p then s
    else if s.on Fld.LN_STATUS_TXTEST p then (if s.rd Fld.LN_PRBS_CTRL_GEN p = 9 then s.sendBlocks p (fillers 8) else s)
    else match s.laneState p with
    | 1 => s.sendPage p 1 none
    | 2 => s.pageSlot p
    | 6 => s.sendPage p 3 none
    | _ => s

/-- LANE_NEG_TIMEOUT (R328): TIMEOUT ms since Hunt was entered; the state is kept and the timer restarts. -/
def execLaneNegTimeout (p : Nat) (s : State) : Host.Outcome State Fault Refusal :=
  onLane p s fun s =>
    let x := s.lane p
    if (s.laneState p = 1 ∨ s.laneState p = 2) ∧ x.huntAt + s.rd Fld.LN_NEG_TIMER_TIMEOUT p * 1000000 ≤ s.ns64 then
      (s.setLane p { x with huntAt := s.ns64 }).laneAlarm p 4
    else s

/-- LANE_REJECT_TIMEOUT (R328): 1 s in Rejected. -/
def execLaneRejectTimeout (p : Nat) (s : State) : Host.Outcome State Fault Refusal :=
  onLane p s fun s =>
    if s.laneState p = 6 ∧ (s.lane p).since + 1000000000 ≤ s.ns64 then (s.enterHunt p).useRef p else s

/-- What a port can come up with (R328): no fault, its reference, and light where it receives; near-end loopback, with both directions on, needs
none (R345). -/
def State.canComeUp (s : State) (p : Nat) : Bool :=
  !s.on Fld.LN_STATUS_TXFAULT p && (s.lane p).noRef.isNone
    && (!s.on Fld.LN_CTRL_RXEN p || !s.on Fld.LN_STATUS_LOS p || s.loopsBack p)

/-- LANE_UP (R328): from Acquire to Up; in negotiation mode the reservation falls to the negotiated rate (R323). -/
def execLaneUp (p : Nat) (s : State) : Host.Outcome State Fault Refusal :=
  onLane p s fun s =>
    if s.laneState p = 3 ∧ s.canComeUp p then
      let r := s.rd Fld.LN_STATUS_CURRATE p
      let s1 := if s.rd Fld.LN_CTRL_MODE p = 1 then s.setLane p { s.lane p with txRes := r + 1, rxRes := r + 1 } else s
      s1.laneGo p 4
    else s

/-- LANE_RETRY_TIMEOUT (R325, R328): no Up within RETRY ms of Acquire, without the time a generator ran (R342). -/
def execLaneRetryTimeout (p : Nat) (s : State) : Host.Outcome State Fault Refusal :=
  onLane p s fun s =>
    if s.laneState p = 3 ∧ s.rd Fld.LN_CTRL_MODE p = 1 ∧ !s.on Fld.LN_STATUS_TXTEST p
        ∧ (s.lane p).since + s.rd Fld.LN_NEG_TIMER_RETRY p * 1000000 ≤ s.ns64 then
      ((s.reoffer p).enterHunt p).useRef p
    else s

/-- LANE_LINK_LOSS (R328): a port that receives loses its link, from Up to Acquire. -/
def execLaneLinkLoss (p : Nat) (s : State) : Host.Outcome State Fault Refusal :=
  onLane p s fun s => if s.laneState p = 4 ∧ s.on Fld.LN_CTRL_RXEN p then s.laneGo p 3 else s

/-- CLIENT_LOS_CHANGE (R328, R349): LOS follows, an enabled receive direction raises its alarm, and in Up the port then moves to Acquire; with
near-end loopback the fibre is ignored (R345). -/
def execClientLosChange (p : Nat) (los : Bool) (s : State) : Host.Outcome State Fault Refusal :=
  onLane p s fun s =>
    let s1 := s.flag Fld.LN_STATUS_LOS los p
    if los == s.on Fld.LN_STATUS_LOS p then s
    else if !los then s1.laneAlarm p 6
    else if !s.on Fld.LN_CTRL_RXEN p then s1
    else if s.laneState p = 4 ∧ !s.loopsBack p then (s1.laneAlarm p 5).laneGo p 3
    else s1.laneAlarm p 5

/-- A reference of a lane is lost or returns (R322). (log 72, DEDUCED) -/
def State.refChange (s : State) (p k : Nat) (locked : Bool) : State :=
  if locked then (if (s.lane p).noRef = some k then s.setLane p { s.lane p with noRef := none } else s)
  else if s.laneRef p = k then s.useRef p
  else s

/-- LANE_REF_UNLOCK (R322): reference `k` of group `g` loses or regains lock. (log 72, DEDUCED) -/
def execLaneRefUnlock (g k : Nat) (locked : Bool) (s : State) : Host.Outcome State Fault Refusal :=
  if 2 ≤ g ∨ 4 ≤ k then .fault .noSuchObject
  else if s.lanesOff (10 + g) then .next s
  else
    let s1 := s.wr Fld.LN_REF_LOCK (putBits (s.rd Fld.LN_REF_LOCK g) k 1 (b2n locked)) g
    .next (s1.lanes.foldl (fun t e => if e.1 / 72 = g then t.refChange e.1 k locked else t) s1)

/-- LANE_TX_FAULT (R347): darkened and latched; the port moves to Acquire. -/
def execLaneTxFault (p : Nat) (s : State) : Host.Outcome State Fault Refusal :=
  onLane p s fun s =>
    if s.laneState p = 0 || !s.on Fld.LN_CTRL_TXEN p || s.on Fld.LN_STATUS_TXFAULT p then s
    else ((s.flag Fld.LN_STATUS_TXFAULT true p).laneAlarm p 7).laneGo p 3

/-- A pending gate edge of a port lies within a time from now (R339). -/
def State.edgeWithin (s : State) (p ns : Nat) : Bool :=
  (s.gate p).edges.any fun e => decide ((e.1 - s.ns).toInt ≤ (ns : Int))

/-- Every egress queue of a port is empty, and nothing of one waits at the MAC. -/
def State.egressEmpty (s : State) (p : Nat) : Bool :=
  let m := s.mac p
  (List.range 8).all (fun c => (s.queue (8 * p + c)).isEmpty) && (s.express p).waiting.isEmpty && m.candE.isEmpty && m.candP.isEmpty && m.held.isNone

/-- TX_LPI_ENTER (R339): with every egress queue empty, TXIDLE µs since the last frame and no pending edge within TXWAKE + 1 µs. -/
def execTxLpiEnter (p : Nat) (s : State) : Host.Outcome State Fault Refusal :=
  onLane p s fun s =>
    if s.laneState p = 4 ∧ s.on Fld.LN_STATUS_CURLPI p ∧ s.on Fld.LN_CTRL_TXEN p
        ∧ s.egressEmpty p ∧ (s.lane p).sentAt + s.rd Fld.LN_LPI_TXIDLE p * 1000 ≤ s.ns64
        ∧ !s.edgeWithin p (s.rd Fld.LN_LPI_TXWAKE p * 10 + 1000) then
      s.flag Fld.LN_STATUS_TXLPI true p
    else s

/-- TX_LPI_WAKE (R339): a frame waits, or a pending edge is TXWAKE away. -/
def execTxLpiWake (p : Nat) (s : State) : Host.Outcome State Fault Refusal :=
  onLane p s fun s =>
    if !s.egressEmpty p || s.edgeWithin p (s.rd Fld.LN_LPI_TXWAKE p * 10) then s.flag Fld.LN_STATUS_TXLPI false p else s

/-- RX_LPI_CHANGE (R340): the partner signals LPI or wake on an enabled direction that uses LPI; the limits of R502 follow. -/
def execRxLpiChange (p : Nat) (lpi : Bool) (s : State) : Host.Outcome State Fault Refusal :=
  onLane p s fun s =>
    if s.laneState p = 4 ∧ s.on Fld.LN_STATUS_CURLPI p ∧ s.on Fld.LN_CTRL_RXEN p then (s.flag Fld.LN_STATUS_RXLPI lpi p).settle else s

/-! ## Patterns (R341 to R344) -/

/-- A pattern code is valid for the port's present rate (R341): PAM4 in Acquire and Up at 50 Gb/s, NRZ otherwise; 0x9 in Hunt and
Exchange only. -/
def State.patternValid (s : State) (p c : Nat) : Bool :=
  let st := s.laneState p
  let pam := decide ((st = 3 ∨ st = 4) ∧ s.rd Fld.LN_STATUS_CURRATE p = 2)
  match c with
  | 6 => pam
  | 7 => pam
  | 8 => !pam
  | 9 => st = 1 || st = 2
  | _ => decide (c ≤ 5)

/-- One error on the line of a lit port (R344): in the Bolnan stream the next bit, or both bits of the next header; on other line codes, whose bits are
not kept, a record. (log 83, DESIGN CHOICE) -/
def State.injectOne (s : State) (p : Nat) (hdr : Bool) : State :=
  if !s.lit p then s
  else if s.bolnan p then
    let x := s.lane p
    s.setLane p { x with inj := if hdr then { x.inj with hdr := x.inj.hdr + 2 } else { x.inj with one := x.inj.one + 1 } }
  else s.emit (.inject p hdr)

/-- A write of LN_PRBS_CTRL (R341 to R344). A write of a code not valid, or of a reserved mode, is discarded whole with its alarm; one whose EXP is outside
10 to 40 is discarded. A new checker pattern starts the checker again. -/
def State.prbsWrite (s : State) (p v : Nat) : State :=
  if !s.patternValid p (bits v 0 4) || !s.patternValid p (bits v 4 4) || bits v 8 2 = 3 then s.laneAlarm p 2
  else if bits v 10 6 < 10 ∨ 40 < bits v 10 6 then s
  else
    let s1 := s.wrReg .LN_PRBS_CTRL (BitVec.ofNat 64 (bits v 0 16)) p
    let s2 := if bits v 4 4 = s.rd Fld.LN_PRBS_CTRL_CHK p then s1
      else (s1.flag Fld.LN_PRBS_STAT_LOCK false p).setLane p { s1.lane p with chk := {} }
    let s3 := s2.laneTest p
    let s4 := if s3.injectPeriod p = s.injectPeriod p then s3
      else (s3.setLane p { s3.lane p with inj := { (s3.lane p).inj with sent := 0 } }).emit
        (.injectEvery p (if bits v 8 2 = 2 then some (bits v 10 6) else none))
    let s5 := if bit v 16 && bits v 8 2 = 1 then s4.injectOne p false else s4
    if bit v 17 then s5.injectOne p true else s5

/-- Received bits reach a running checker (R343): LOCK follows, errors and bits are counted while it is locked, and each loss of lock is counted and raises
its alarm. -/
def State.checkBits (s : State) (p : Nat) (bs : List Bool) : State :=
  let code := s.rd Fld.LN_PRBS_CTRL_CHK p
  if code = 0 then s
  else
    let k := bs.foldl (Checker.bit code) (s.lane p).chk
    let s1 := (s.setLane p { s.lane p with chk := { k with bits := 0, errs := 0, losses := 0 } }).flag Fld.LN_PRBS_STAT_LOCK k.locked p
    let s2 := if k.bits = 0 then s1 else (s1.count Fld.LN_PRBS_ERR_COUNT p 0 k.errs).count Fld.LN_PRBS_BITS_COUNT p 0 k.bits
    if k.losses = 0 then s2 else (s2.count Fld.LN_PRBS_STAT_LOCKLOST p 0 k.losses).raiseMany (257 + 2 * p) k.losses [(8, p), (8, 8)] 8

/-- PRBS_CHECKER_LOCK (R343): bits of the receive line reach the checker, which locks at the 256th without an error since it was seeded. (log 73, DEDUCED) -/
def execPrbsCheckerLock (p : Nat) (bits : List Bool) (s : State) : Host.Outcome State Fault Refusal :=
  onLane p s fun s => s.checkBits p bits

/-- PRBS_CHECKER_LOSS (R343): bits of the receive line reach the checker, which loses lock at the 64th error among 256. (log 73, DEDUCED) -/
def execPrbsCheckerLoss (p : Nat) (bits : List Bool) (s : State) : Host.Outcome State Fault Refusal :=
  onLane p s fun s => s.checkBits p bits

end Sys2Proof.Machine
end

