-- ==== Sys2Proof/Machine/Sieve.lean ====
section
/-! DEFINITION. Sieve (R379 to R410): parsing, the two keys, the exact-match and ternary tables, resolution, the action word,
recirculation, the Whisk, the back burner and the flow statistics. -/
namespace Sys2Proof.Machine

/-! ## Parsing (R383, R384, R406) -/

/-- What the parser takes from a frame. A field whose header is absent is 0. `past` is set when a recognised header runs past the
bytes that the parse may read, or a third extension header of R383 is met in line. -/
structure Parsed where
  da : Nat := 0
  sa : Nat := 0
  etype : Nat := 0
  ntag : Nat := 0
  ovid : Nat := 0
  opcp : Nat := 0
  l3 : Nat := 0
  src : Nat := 0
  dst : Nat := 0
  proto : Nat := 0
  dscp : Nat := 0
  sport : Nat := 0
  dport : Nat := 0
  tcpf : Nat := 0
  frag : Bool := false
  nfrag : Bool := false
  more : Bool := false
  ident : Nat := 0
  opt : Bool := false
  perr : Bool := false
  past : Bool := false
  label : Option Nat := none
  labels : Nat := 0
  teid : Option Nat := none
  ecpri : Option (Nat × Nat) := none
  ptp : Bool := false
deriving DecidableEq, Repr

/-- How far the parse may read: its last byte, and the IPv6 extension headers it may skip. -/
structure Reach where
  lim : Nat
  ext : Nat
  deep : Bool
deriving DecidableEq, Repr

/-- The in-line parse of R383. -/
def Reach.inline : Reach := { lim := 192, ext := 2, deep := false }

/-- The deep parse of R406. -/
def Reach.deepParse : Reach := { lim := 512, ext := 8, deep := true }

/-- Run the rest of the parse where `n` bytes of a header at `o` can be read; otherwise the header runs past the reach, or is cut
short by the end of the frame (R384). -/
def need (f : List Byte) (w : Reach) (o n : Nat) (p : Parsed) (k : Parsed) : Parsed :=
  if o + n ≤ f.length then (if w.lim < o + n then { p with past := true } else k)
  else if w.lim < f.length then { p with past := true }
  else { p with perr := true }

/-- UDP, TCP and SCTP, and what UDP carries. (log 76, DEDUCED) -/
def parseL4 (f : List Byte) (w : Reach) (o : Nat) (p : Parsed) : Parsed :=
  if p.nfrag then p
  else if p.proto = 17 then
    let q := { p with sport := beAt f o 2, dport := beAt f (o + 2) 2 }
    need f w o 8 p <|
      if q.dport = 319 ∨ q.dport = 320 then { q with ptp := true }
      else if q.dport = 2152 ∧ beAt f (o + 8) 1 / 32 = 1 then need f w (o + 8) 8 q { q with teid := some (beAt f (o + 12) 4) }
      else q
  else if p.proto = 6 then
    need f w o 20 p { p with sport := beAt f o 2, dport := beAt f (o + 2) 2, tcpf := beAt f (o + 13) 1 }
  else if p.proto = 132 then need f w o 12 p { p with sport := beAt f o 2, dport := beAt f (o + 2) 2 }
  else p

/-- IPv4 at an offset. (log 76, DEDUCED) -/
def parseIp4 (f : List Byte) (w : Reach) (o : Nat) (p : Parsed) : Parsed :=
  if f.length ≤ o ∨ beAt f o 1 / 16 = 4 then
    need f w o 20 p <|
      let ihl := beAt f o 1 % 16
      let ff := beAt f (o + 6) 2
      let q := { p with
        l3 := 1, dscp := beAt f (o + 1) 1 / 4, proto := beAt f (o + 9) 1, src := beAt f (o + 12) 4, dst := beAt f (o + 16) 4
        ident := beAt f (o + 4) 2, more := bit ff 13, frag := bit ff 13 || ff % 8192 ≠ 0, nfrag := ff % 8192 ≠ 0
        opt := decide (5 < ihl), perr := p.perr || decide (f.length < o + beAt f (o + 2) 2) }
      if ihl < 5 then { q with perr := true } else need f w o (ihl * 4) q (parseL4 f w (o + ihl * 4) q)
  else p

/-- The IPv6 extension headers, and what follows them: `nx` is the next header, `left` how many of the skipped kinds may still be
met. The fuel bounds the headers met, Fragment headers among them. (log 76, DEDUCED) -/
def parseExt (f : List Byte) (w : Reach) : Nat → Nat → Nat → Nat → Parsed → Parsed
  | 0, _, nx, _, p => { p with proto := nx }
  | n + 1, left, nx, o, p =>
    if nx = 0 ∨ nx = 43 ∨ nx = 60 then
      if left = 0 then
        (if w.deep then { p with proto := nx, perr := true } else { p with proto := nx, past := true })
      else
        let len := (beAt f (o + 1) 1 + 1) * 8
        need f w o 8 { p with proto := nx, opt := true } <|
          need f w o len { p with proto := nx, opt := true } (parseExt f w n (left - 1) (beAt f o 1) (o + len) { p with opt := true })
    else if nx = 44 then
      need f w o 8 { p with proto := nx } <|
        let ff := beAt f (o + 2) 2
        let q := { p with opt := true, frag := true, nfrag := ff / 8 ≠ 0, more := bit ff 0, ident := beAt f (o + 4) 4 }
        if q.nfrag then { q with proto := beAt f o 1 } else parseExt f w n left (beAt f o 1) (o + 8) q
    else parseL4 f w o { p with proto := nx }

/-- IPv6 at an offset. (log 76, DEDUCED) -/
def parseIp6 (f : List Byte) (w : Reach) (o : Nat) (p : Parsed) : Parsed :=
  if f.length ≤ o ∨ beAt f o 1 / 16 = 6 then
    need f w o 40 p <|
      let q := { p with
        l3 := 2, dscp := beAt f o 2 / 64 % 64, src := beAt f (o + 8) 16, dst := beAt f (o + 24) 16
        perr := p.perr || decide (f.length < o + 40 + beAt f (o + 4) 2) }
      parseExt f w 65 w.ext (beAt f (o + 6) 1) (o + 40) q
  else p

/-- MPLS labels, at most 4; the header under the bottom label is IPv4 or IPv6 by its first nibble. -/
def parseMpls (f : List Byte) (w : Reach) : Nat → Nat → Parsed → Parsed
  | 0, _, p => p
  | n + 1, o, p =>
    need f w o 4 p <|
      let e := beAt f o 4
      let q := { p with label := some (p.label.getD (e / 4096)), labels := p.labels + 1 }
      if bit e 8 then
        let v := beAt f (o + 4) 1 / 16
        if f.length ≤ o + 4 then q
        else if v = 4 then parseIp4 f w (o + 4) { q with etype := 0x0800 }
        else if v = 6 then parseIp6 f w (o + 4) { q with etype := 0x86DD }
        else q
      else parseMpls f w n (o + 4) q

/-- What follows the EtherType at an offset: at most two VLAN tags, then the header that the EtherType names. -/
def parseType (f : List Byte) (w : Reach) : Nat → Nat → Nat → Parsed → Parsed
  | tags, et, o, p =>
    let q := { p with etype := et }
    if et = 0x8100 ∨ et = 0x88A8 then
      match tags with
      | 0 => q
      | n + 1 =>
        need f w o 4 q <|
          let tci := beAt f o 2
          let r := if p.ntag = 0 then { q with ntag := 1, ovid := tci % 4096, opcp := tci / 8192 } else { q with ntag := p.ntag + 1 }
          parseType f w n (beAt f (o + 2) 2) (o + 4) r
    else if et = 0x0800 then parseIp4 f w o q
    else if et = 0x86DD then parseIp6 f w o q
    else if et = 0x8847 then
      let r := parseMpls f w 4 o q
      if r.l3 = 0 then { r with l3 := 3, etype := 0x8847 } else r
    else if et = 0xAEFE then
      if f.length ≤ o ∨ beAt f o 1 / 16 = 1 then need f w o 6 q { q with ecpri := some (beAt f (o + 1) 1, beAt f (o + 4) 2) } else q
    else if et = 0x88F7 then { q with ptp := true }
    else q

/-- Parse a frame that begins at its destination address and ends before its FCS (R383). In the deep parse, a header that still
runs past the reach sets PERR (R406). (log 76, DEDUCED) -/
def parse (f : List Byte) (w : Reach) : Parsed :=
  let p := { da := beAt f 0 6, sa := beAt f 6 6 : Parsed }
  let r := need f w 0 14 p (parseType f w 2 (beAt f 12 2) 14 p)
  if w.deep && r.past then { r with perr := true, past := false } else r

/-! ## Keys (R386 to R388) -/

/-- A fragment classified in line, from a port with FRAGBB = 0 (R404): FRAG and NFRAG set, L4 fields 0. -/
def Parsed.inlineFragment (p : Parsed) : Parsed :=
  { p with nfrag := true, sport := 0, dport := 0, tcpf := 0, teid := none, ptp := false }

/-- The three words of the ternary key. -/
def ternaryKey (p : Parsed) (inport dch aux : Nat) (pass2 : Bool) : List Quad :=
  let word0 := inport + dch * 2 ^ 8 + b2n pass2 * 2 ^ 10 + b2n p.frag * 2 ^ 11 + p.ntag * 2 ^ 12 + p.l3 * 2 ^ 14 + p.etype * 2 ^ 16
    + p.ovid * 2 ^ 32 + p.opcp * 2 ^ 44 + b2n p.perr * 2 ^ 47 + p.proto * 2 ^ 48 + p.dscp * 2 ^ 56 + b2n p.nfrag * 2 ^ 62
    + b2n p.opt * 2 ^ 63
  let x := if inport = 144 then aux else if inport < 144 then (p.ecpri.getD (0, 0)).2 else 0
  let word1 := p.sport + p.dport * 2 ^ 16 + p.tcpf * 2 ^ 32 + (p.ecpri.getD (0, 0)).1 * 2 ^ 40 + x * 2 ^ 48
  let top := fun (a : Nat) => if p.l3 = 2 then a / 2 ^ 96 else a
  let word2 := (if p.l3 = 3 then p.label.getD 0 else top p.src) + top p.dst * 2 ^ 32
  [BitVec.ofNat 64 word0, BitVec.ofNat 64 word1, BitVec.ofNat 64 word2]

/-- Words 0 to 5 of an exact key of a key type; none where the packet lacks what it needs, or the type is 0 or reserved. -/
def exactBody (p : Parsed) (inport aux kt : Nat) : Option (List Nat) :=
  match kt with
  | 1 => some [p.da + p.ovid * 2 ^ 48, p.etype, 0, 0, 0, 0]
  | 2 => if p.l3 = 1 then some [p.src + p.dst * 2 ^ 32, p.sport + p.dport * 2 ^ 16 + p.proto * 2 ^ 32, 0, 0, 0, 0] else none
  | 3 =>
    if p.l3 = 2 then
      some [p.src / 2 ^ 64, p.src % 2 ^ 64, p.dst / 2 ^ 64, p.dst % 2 ^ 64, p.sport + p.dport * 2 ^ 16 + p.proto * 2 ^ 32, 0]
    else none
  | 4 => if inport = 144 then some [aux + p.da * 2 ^ 16, 0, 0, 0, 0, 0] else none
  | 5 => match p.ecpri with
    | some (m, d) => some [p.da + p.ovid * 2 ^ 48, d + m * 2 ^ 16, 0, 0, 0, 0]
    | none => none
  | 6 => match p.teid with
    | some t => some (if p.l3 = 2 then [t, p.dst / 2 ^ 64, p.dst % 2 ^ 64, 0, 0, 0] else [t, 0, p.dst, 0, 0, 0])
    | none => none
  | 7 => match p.label with
    | some l => some [l + (p.labels - 1) * 2 ^ 20, 0, 0, 0, 0, 0]
    | none => none
  | _ => none

/-- The bits that R387 fills in words 0 to 5 of a key type; none for a reserved type. -/
def exactMask : Nat → Option (List Nat)
  | 0 => some [0, 0, 0, 0, 0, 0]
  | 1 => some [2 ^ 60 - 1, 2 ^ 16 - 1, 0, 0, 0, 0]
  | 2 => some [2 ^ 64 - 1, 2 ^ 40 - 1, 0, 0, 0, 0]
  | 3 => some [2 ^ 64 - 1, 2 ^ 64 - 1, 2 ^ 64 - 1, 2 ^ 64 - 1, 2 ^ 40 - 1, 0]
  | 4 => some [2 ^ 64 - 1, 0, 0, 0, 0, 0]
  | 5 => some [2 ^ 60 - 1, 2 ^ 24 - 1, 0, 0, 0, 0]
  | 6 => some [2 ^ 32 - 1, 2 ^ 64 - 1, 2 ^ 64 - 1, 0, 0, 0]
  | 7 => some [2 ^ 23 - 1, 0, 0, 0, 0, 0]
  | _ => none

/-- A 64-byte key in the layout of R387 has no bit set that the layout leaves at 0, and its type is not reserved (R400). -/
def keyFormed (ws : List Nat) : Bool :=
  let w := fun k => (ws[k]?).getD 0
  match exactMask (w 7) with
  | none => false
  | some m => (List.range 6).all (fun k => w k &&& (m[k]?).getD 0 = w k) && decide (w 6 < 2 ^ 9)

/-- The eight words of the exact key of a packet. -/
def exactKey (p : Parsed) (inport aux : Nat) (pass2 kport : Bool) (kt : Nat) : Option (List Nat) :=
  (exactBody p inport aux kt).map fun b => b ++ [(if kport then inport else 0xFF) + b2n pass2 * 2 ^ 8, kt]

/-! ## The exact-match table (R389, R390) -/

/-- The two buckets of a key. -/
def keyBuckets (ws : List Nat) : Nat × Nat :=
  let c := crc32c (ws.flatMap (fun w => leBytes w 8))
  let b1 := c % 32768
  let b2 := c / 32768 % 32768
  (b1, if b2 = b1 then b1 ^^^ 1 else b2)

/-- A word of an exact-match entry. -/
def State.emWord (s : State) (e k : Nat) : Quad := Tab.get s.sv.em 0 (8 * e + k)

/-- An entry matches a key. -/
def State.emMatch (s : State) (ws : List Nat) (e : Nat) : Bool :=
  let w7 := (s.emWord e 7).toNat
  bit w7 63 && decide (w7 % 256 = (ws[7]?).getD 0)
    && (List.range 7).all (fun k => (s.emWord e k).toNat = (ws[k]?).getD 0)

/-- The flow of the matching entry with the lowest index. -/
def State.emLookup (s : State) (ws : List Nat) : Option Nat :=
  let (b1, b2) := keyBuckets ws
  let es := (List.range 4).map (4 * min b1 b2 + ·) ++ (List.range 4).map (4 * max b1 b2 + ·)
  (es.find? (s.emMatch ws)).map fun e => bits (s.emWord e 7).toNat 16 16

/-- Valid exact-match entries, as SV_EM_COUNT shows. -/
def State.emValid (s : State) : Nat := (s.sv.em.filter (fun e => e.1 % 8 = 7 && bit e.2.toNat 63)).length

/-! ## The ternary sets (R392) -/

/-- A word of a rule. -/
def State.trWord (s : State) (set r k : Nat) : Quad := Tab.get s.sv.tr 0 ((8192 * set + r) * 8 + k)

/-- A rule matches a ternary key. -/
def State.trMatch (s : State) (set : Nat) (key : List Quad) (r : Nat) : Bool :=
  (List.range 3).all fun k => ((key[k]?).getD 0 ^^^ s.trWord set r k) &&& s.trWord set r (k + 3) = 0

/-- The matching rule with the lowest index: its flow and FORCE. -/
def State.trLookup (s : State) (set : Nat) (key : List Quad) : Option (Nat × Bool) :=
  let rules := s.sv.tr.filterMap fun e =>
    if e.1 % 8 = 7 ∧ e.1 / 65536 = set ∧ bit e.2.toNat 0 then some (e.1 / 8 % 8192) else none
  (rules.find? (s.trMatch set key)).map fun r =>
    ((s.trWord set r 6).toNat % 65536, bit (s.trWord set r 6).toNat 16)

/-! ## The Whisk (R402) -/

/-- The mixing step. -/
def whiskMix (x : Quad) : Quad :=
  let a := (x ^^^ (x >>> 31)) * 0xB5A3917C4E2D6F1B#64
  let b := (a ^^^ (a >>> 29)) * 0x8F3D61A7C905E24D#64
  b ^^^ (b >>> 32)

/-- The Whisk of a packet. -/
def whisk (seed : Quad) (p : Parsed) : Nat :=
  let ip := p.l3 = 1 ∨ p.l3 = 2
  let a := if ip then (p.src, if p.nfrag then 0 else p.sport) else (p.sa, 0)
  let b := if ip then (p.dst, if p.nfrag then 0 else p.dport) else (p.da, 0)
  let k := if ip then p.proto else p.etype
  let swap := decide (b.1 < a.1) || (decide (a.1 = b.1) && decide (b.2 < a.2))
  let x := if swap then b else a
  let y := if swap then a else b
  let hi := fun (n : Nat) => BitVec.ofNat 64 (n / 2 ^ 64)
  let lo := fun (n : Nat) => BitVec.ofNat 64 n
  let h1 := whiskMix (whiskMix (seed ^^^ hi x.1) ^^^ lo x.1)
  let h2 := whiskMix (whiskMix (h1 ^^^ hi y.1) ^^^ lo y.1)
  (whiskMix (h2 ^^^ BitVec.ofNat 64 (x.2 * 2 ^ 32 + y.2 * 2 ^ 16 + k))).toNat % 2 ^ 32

/-! ## Planes (R13) -/

/-- A queue of the shared fibre: upstream or hold drain. -/
def fibreQueue (q : Nat) : Bool := isUpstream q || isDrain q

/-- The plane of a packet from its ingress port and its first egress (R13). A packet that a program makes and sends to an internal queue, for which
R13's table has no row, is given LX. (log 107, DESIGN CHOICE) -/
def planeOf (inport q : Nat) : Nat := if inport = 144 then 0 else if fibreQueue q then 1 else 2

/-! ## Pinned packets (R394) -/

/-- The packets that R394 counts for a set: in an engine-input or back burner queue, waiting for a fragment, recirculated, or
held by a context. -/
def State.pins (s : State) (b : Bool) : Nat :=
  let early := fun (p : Packet) => p.rset == b && (!p.pass2)
  let queued := s.tm.queues.foldl (fun n e =>
    if 3200 ≤ e.1 ∧ e.1 < 3328 then n + (e.2.filter early).length
    else if 3328 ≤ e.1 ∧ e.1 < 3344 then n + (e.2.filter (fun p => p.rset == b)).length
    else n) 0
  let waiting := (s.sv.fragWait.filter (fun x => x.2.1.rset == b)).length
  let again := ((Tab.get s.sv.rx [] 145).filter (fun p => p.rset == b)).length
  let held := (s.pre.ctxs.filter (fun e => match e.2.pkt with | some p => early p | none => false)).length
  min (queued + waiting + again + held) (2 ^ 32 - 1)

/-- The active set. -/
def State.activeSet (s : State) : Bool := s.on Fld.SV_RS_CTRL_ACTIVE

/-- A set is drained (R395). -/
def State.setDrained (s : State) (b : Bool) : Bool := s.activeSet != b && s.pins b = 0

/-! ## Flow statistics (R408) -/

/-- Count a packet under a flow in both pairs of accumulators. (log 77, DEDUCED) -/
def State.flowCount (s : State) (flow len : Nat) : State :=
  { s with sv := { s.sv with
      fsProg := Tab.upd s.sv.fsProg (0, 0) flow (fun x => (satAdd 40 x.1 len, satAdd 23 x.2 1))
      fsHost := Tab.upd s.sv.fsHost (0, 0) flow (fun x => (satAdd 64 x.1 len, satAdd 64 x.2 1)) } }

/-! ## Resolution and actions (R396 to R401) -/

/-- The action word of a flow. -/
def State.action (s : State) (flow : Nat) : Nat := (Tab.get s.sv.act 0 flow).toNat

/-- A Sieve counter. -/
def State.svCount (s : State) (r : Reg) : State := s.count ⟨r, 0, 64⟩

/-- Discard a packet in Sieve, counted in a register. -/
def State.sieveDrop (s : State) (r : Reg) (p : Packet) : State := (s.discard p).svCount r

/-- Offer a packet to policer and queue as stage 7 does (R399): the capture copy is not policed. -/
def State.policedOffer (s : State) (a q : Nat) (p : Packet) : State :=
  if bit a 36 then
    match s.police (bits a 37 10) p.len with
    | (s1, true) => (s1.offer q p).1
    | (s1, false) => s1.discard p
  else (s.offer q p).1

/-- The express FIFO of a port would accept a frame (R432), the bank apart: the queue is eligible under R442 (R447). -/
def State.expressOpen (s : State) (q : Nat) : Bool :=
  (s.accrueQueue q).shapersAllow q && s.gateOpen (q / 8) (q % 8) && s.on Fld.LD_XF_CTRL_EN (q / 8) && bit (s.rd Fld.LD_XF_CTRL_CLASSES (q / 8)) (q % 8) && (s.queue q).isEmpty
    && decide (s.rd Fld.LN_STATUS_STATE (q / 8) = 4)

/-- LENGTH of a frame in cut-through: its class's declared maximum (R447, R370). -/
def State.cutLength (s : State) (q : Nat) : Nat := s.rd Fld.LD_XF_QMAX_MAXLEN (q / 8) (q % 8)

/-- A frame enters an express FIFO: one decision, charged with the declared maximum (R447); it casts a vote in its port's domain (R25). -/
def State.enterExpress (s : State) (q : Nat) (p : Packet) : State :=
  let s1 := s.chargeQueue q (s.cutLength q)
  let s2 := { s1 with tm := { s1.tm with decisions := s1.tm.decisions + 1 } }
  (s2.setExpress (q / 8) ((s2.express (q / 8)).put { p with cut := true })).wakeFor (portDomain (q / 8))

/-- A frame that fails a check as it ends may have begun to leave (R433): THRESH bytes of it are in the bank, and its egress port is no faster than its
ingress port. (log 75, DEDUCED) -/
def State.couldBegin (s : State) (q : Nat) (p : Packet) : Bool :=
  p.rxBad.isNone || (decide (s.rd Fld.LD_XF_CTRL_THRESH (q / 8) ≤ p.len)
    && decide (s.rd Fld.LN_STATUS_CURRATE (q / 8) ≤ s.rd Fld.LN_STATUS_CURRATE p.inport))

/-- Put a packet into its egress port's express FIFO or queue (R399, R432). The policer sees it first, in cut-through with the declared maximum as
its LENGTH (R18). -/
def State.forward (s : State) (a q : Nat) (p : Packet) : State :=
  if bit a 26 && decide (q < 1152) && p.handle = 0 && s.expressOpen q && s.couldBegin q p then
    if (s.express (q / 8)).bankFree then
      if bit a 36 then
        match s.police (bits a 37 10) (s.cutLength q) with
        | (s1, true) => s1.enterExpress q p
        | (s1, false) => s1.discard p
      else s.enterExpress q p
    else (s.count Fld.LD_XF_ERR_BUSY (q / 8)).policedOffer a q p
  else s.policedOffer a q p

/-- The first check of R398 that fails, as the counter it is counted in. `plane2` is the plane of the first pass on a second. -/
def actionCheck (flow a inport : Nat) (plane2 : Option Nat) : Option Reg :=
  let q := bits a 0 12
  if !bit a 60 || decide (4 < bits a 12 4) || decide (111 < bits a 16 7 + 2 ^ bits a 23 3 - 1) then some .SV_DROP_ACTION
  else if inport = 144 && fibreQueue q then some .SV_DROP_HAIRPIN
  else if flow ≠ 0 ∧ flow ≠ 0xFFFF ∧ bits a 61 2 ≠ plane2.getD (planeOf inport q) then some .SV_DROP_PLANE
  else if bits a 12 4 = 2 then some .SV_DROP_RULE
  else none

/-- The key type of a pass (R388). -/
def State.keyType (s : State) (p : Packet) (x : Parsed) : Nat :=
  if p.pass2 then p.kt2
  else if x.l3 = 1 then s.rd Fld.SV_PORT_CFG_KIP4 0 p.inport
  else if x.l3 = 2 then s.rd Fld.SV_PORT_CFG_KIP6 0 p.inport
  else if x.ecpri.isSome then s.rd Fld.SV_PORT_CFG_KECPRI 0 p.inport
  else s.rd Fld.SV_PORT_CFG_KOTHER 0 p.inport

/-- A bit of the ingress port's SV_PORT_CFG; a packet that a program generated has no port. -/
def State.portBit (s : State) (p : Packet) (f : Fld) : Bool := decide (p.inport ≤ 144) && s.on f 0 p.inport

/-- A PTP message on its first pass from a port with PTPTRAP (R396). -/
def State.trapped (s : State) (p : Packet) (x : Parsed) : Bool := !p.pass2 && x.ptp && s.portBit p Fld.SV_PORT_CFG_PTPTRAP

/-- A flow of 0 is counted (R409). -/
def State.countFlow (s : State) (flow : Nat) : State := if flow = 0 then s.svCount .SV_CNT_DEFAULT else s

/-- Stages 5 and 6: look both keys up and resolve the flow (R396), counting how. (log 77, DEDUCED) -/
def State.resolve (s : State) (p : Packet) (x : Parsed) : State × Nat :=
  if s.trapped p x then (s, 0xFFFF) else
  let key := ternaryKey x p.inport p.dch p.aux p.pass2
  let tern := s.trLookup (b2n p.rset) key
  let exact := (exactKey x p.inport p.aux p.pass2 (s.portBit p Fld.SV_PORT_CFG_KPORT) (s.keyType p x)).bind s.emLookup
  let r := match tern, exact with
    | some (f, true), _ => (s.svCount .SV_CNT_TERN, f)
    | _, some f => (s.svCount .SV_CNT_EXACT, f)
    | some (f, false), none => (s.svCount .SV_CNT_TERN, f)
    | none, none => (s, 0)
  (r.1.countFlow r.2, r.2)

/-- Stage 7 without KIND RECIRC's second pass (R398, R399, R406): the state, and the packet where a second pass follows at once.
`deep` says that the back burner has parsed the packet deeply. A CAP above 239 names no ring. (log 77, DEDUCED) -/
def State.apply (s : State) (p : Packet) (x : Parsed) (flow : Nat) (deep : Bool) : State × Option Packet :=
  let a := s.action flow
  let q := bits a 0 12
  let s1 := s.flowCount flow p.len
  let p1 := { p with flow := flow, queue := q, plane := if p.pass2 then p.plane else planeOf p.inport q }
  match actionCheck flow a p.inport (if p.pass2 then some p.plane else none) with
  | some .SV_DROP_ACTION => ((s1.sieveDrop .SV_DROP_ACTION p).raise 643 [(16, flow)] 1, none)
  | some r => (s1.sieveDrop r p, none)
  | none =>
    let s2 := if bit a 27 && decide (bits a 28 8 < 240) then (s1.offer (3856 + bits a 28 8) { p1 with handle := 0, stamp := none }).1 else s1
    match bits a 12 4 with
    | 1 => (s2.policedOffer a (3216 + bits a 16 7 + whisk s2.sv.seed x % 2 ^ bits a 23 3) { p1 with kt2 := bits a 47 4 }, none)
    | 3 =>
      if deep then (s2.sieveDrop .SV_DROP_ACTION p, none)
      else (s2.policedOffer a 3331 { p1 with kt2 := if p.pass2 then p.kt2 else bits a 47 4 }, none)
    | 4 =>
      if p.pass2 then (s2.sieveDrop .SV_DROP_PASS2 p, none)
      else if bit a 36 then
        match s2.police (bits a 37 10) p.len with
        | (s3, true) => (s3, some { p1 with pass2 := true, kt2 := bits a 47 4 })
        | (s3, false) => (s3.discard p, none)
      else (s2, some { p1 with pass2 := true, kt2 := bits a 47 4 })
    | _ => (s2.forward a q { p1 with kt2 := bits a 47 4 }, none)

/-- One pass from stage 2 on (R379): the state, and the packet where a second pass follows at once. (log 77, DEDUCED) -/
def State.passFrom (s : State) (p : Packet) : State × Option Packet :=
  let x0 := parse p.data .inline
  let bb := s.portBit p Fld.SV_PORT_CFG_FRAGBB
  if s.trapped p x0 then s.apply p x0 0xFFFF false
  else if x0.frag && bb then ((s.offer (if x0.l3 = 2 then 3329 else 3328) p).1, none)
  else if x0.past then ((s.offer 3330 p).1, none)
  else
    let x := if x0.frag then x0.inlineFragment else x0
    let r := s.resolve p x
    r.1.apply p x r.2 false

/-- Dispatch a packet to a pipeline (R379): a first pass takes RSET from the active set; KIND RECIRC makes the second pass at
once (R401). -/
def State.dispatchPacket (s : State) (pipe : Nat) (p : Packet) : State :=
  let enter := fun (t : State) (second : Bool) =>
    (t.svCount (if second then .SV_CNT_PASS2 else .SV_CNT_PASS1)).count ⟨.SV_PIPE_PKTS, 0, 64⟩ pipe
  let p1 := if p.pass2 then p else { p with rset := s.activeSet }
  match (enter s p.pass2).passFrom p1 with
  | (s1, none) => s1
  | (s1, some p2) => ((enter s1 true).passFrom p2).1

/-- Dispatch a frame that failed a check, counted under `r`, after its forwarding had begun (R372, R472): where it went into an express FIFO it is counted
there; it is else as if forwarding had not begun: discarded and counted under `r`, or, kept by the validate mode, forwarded. (log 75, DEDUCED) -/
def State.dispatchBad (s : State) (pipe : Nat) (p : Packet) (r : Reg) : State :=
  let t := s.dispatchPacket pipe p
  if t.ld.xf ≠ s.ld.xf then
    let t1 := t.count ⟨.MC_RX_CUTERR, 0, 64⟩ p.inport
    if r = .CX_SC_ERR then t1.count Fld.CX_PORT_DROP_RXBAD p.inport else t1
  else if r = .CX_SC_ERR then s.dispatchPacket pipe { p with rxBad := none }
  else if r = .CX_PORT_DROP then s
  else s.count ⟨r, 0, 64⟩ p.inport

/-- The bytes that a reorder group holds (R165): its held SDUs, and those it has released that still wait for Sieve. -/
def State.groupBytes (s : State) (g : Nat) : Nat :=
  ((Tab.get s.fib.groups {} g).held.foldl (fun a (h : HeldSdu) => a + h.pkt.len) 0)
    + ((Tab.get s.sv.rx [] 144).filter (fun p => p.grp = some g)).foldl (fun a p => a + p.len) 0

/-- TC_DS_GRP_HELD follows the bytes of the group that a packet came from. -/
def State.heldFollow (s : State) (p : Packet) : State :=
  match p.grp with
  | some g => s.wr Fld.TC_DS_GRP_HELD_BYTES (s.groupBytes g) g
  | none => s

/-- SIEVE_PASS (R379, R381, R382): the oldest packet of a port's receive store (145: a recirculated packet) is dispatched to
pipeline `pipe`. While EN = 0, or D4 or D5 is asleep, it stays. -/
def execSievePass (port pipe : Nat) (s : State) : Host.Outcome State Fault Refusal :=
  if 146 ≤ port ∨ 8 ≤ pipe then .fault .noSuchObject
  else if !s.on Fld.SV_CTRL_EN || s.asleep 4 || s.asleep 5 then .next s
  else match Tab.get s.sv.rx [] port with
    | [] => .next s
    | p :: r =>
      let s1 := { s with sv := { s.sv with rx := Tab.set s.sv.rx [] port r } }.heldFollow p
      .next (match p.rxBad with
        | some why => s1.dispatchBad pipe { p with grp := none } why
        | none => s1.dispatchPacket pipe { p with grp := none })

/-! ## The back burner (R404 to R407) -/

/-- The key of the fragment table. -/
def fragKey (p : Packet) (x : Parsed) : FragKey :=
  { port := p.inport, v6 := x.l3 = 2, src := x.src, dst := x.dst, proto := x.proto, ident := x.ident }

/-- Finish a pass that the back burner held: stages 5 to 7, or 7 alone where the fragment table gives the flow. -/
def State.finishPass (s : State) (pipe : Nat) (p : Packet) (x : Parsed) (flow : Option Nat) (deep : Bool) : State :=
  let r := match flow with
    | some f => (s.countFlow f, f)
    | none => s.resolve p x
  match r.1.apply p x r.2 deep with
  | (s1, none) => s1
  | (s1, some p2) => s1.dispatchPacket pipe p2

/-- A later fragment takes an entry: it applies the entry's flow, and the last fragment removes the entry (R405). -/
def State.takeEntry (s : State) (k : FragKey) (flow : Nat) (p : Packet) (x : Parsed) (deep : Bool) : State :=
  let s1 := if x.more then s else { s with sv := { s.sv with frags := s.sv.frags.filter (fun e => e.1 ≠ k) } }
  s1.finishPass 0 p x (some flow) deep

/-- The parse of a fragment, and whether it had to be a deep one, its headers running past the in-line parse (R406). -/
def fragParse (p : Packet) : Parsed × Bool :=
  let y := parse p.data .inline
  if y.past then (parse p.data .deepParse, true) else (y, false)

/-- Release the fragments that wait for an entry, in arrival order, while the entry stands; the rest go on waiting. -/
def releaseWaiting (k : FragKey) (flow : Nat) : List (FragKey × Packet × Nat) → State → State
  | [], s => s
  | (j, p, t) :: r, s =>
    if j = k ∧ s.sv.frags.any (fun e => e.1 = k) then
      releaseWaiting k flow r (s.takeEntry k flow p (fragParse p).1 (fragParse p).2)
    else releaseWaiting k flow r { s with sv := { s.sv with fragWait := s.sv.fragWait ++ [(j, p, t)] } }

/-- A first fragment is classified as a whole packet and its flow is recorded (R405). -/
def State.firstFragment (s : State) (p : Packet) (x : Parsed) (deep : Bool) : State :=
  let k := fragKey p x
  let r := s.resolve p x
  let s1 := if 16384 ≤ r.1.sv.frags.length then (r.1.count Fld.SV_BB_CNT_FULL).raise 644 [] 1
    else { r.1 with sv := { r.1.sv with frags := (r.1.sv.frags.filter (fun e => e.1 ≠ k)) ++ [(k, r.2, r.1.ns64)] } }
  let s2 := match s1.apply p x r.2 deep with
    | (t, none) => t
    | (t, some p2) => t.dispatchPacket 0 p2
  releaseWaiting k r.2 s2.sv.fragWait { s2 with sv := { s2.sv with fragWait := [] } }

/-- A fragment at the back burner (R405), parsed deeply where its headers run past the in-line parse. (log 77, DEDUCED) -/
def State.fragment (s : State) (p : Packet) : State :=
  let (x, deep) := fragParse p
  let k := fragKey p x
  if !x.nfrag then s.firstFragment p x deep
  else match s.sv.frags.find? (fun e => e.1 = k) with
    | some (_, flow, _) => s.takeEntry k flow p x deep
    | none =>
      if s.sv.fragWait.length < 4096 then { s with sv := { s.sv with fragWait := s.sv.fragWait ++ [(k, p, s.ns64)] } }
      else (s.count Fld.SV_BB_CNT_WAITOVF).finishPass 0 p x.inlineFragment none deep

/-- Which back burner input is served next: round robin from the turn over the inputs that hold a packet (R441). -/
def State.bbInput (s : State) : Option Nat :=
  ((List.range 16).map (fun k => (s.tm.bbTurn + k) % 16)).find? (fun k => !(s.queue (3328 + k)).isEmpty)

/-- BACKBURNER_PROCESS (R404 to R407): the head packet of the next input in turn is worked on and returns to stage 5. A packet that
reached an unused input by some other way is parsed deeply. (log 77, DEDUCED) -/
def execBackburnerProcess (s : State) : Host.Outcome State Fault Refusal :=
  if s.asleep 4 || s.asleep 5 then .next s
  else match s.bbInput with
    | none => .next s
    | some k =>
      match { s with tm := { s.tm with bbTurn := (k + 1) % 16 } }.dequeue (3328 + k) with
      | (s1, none) => .next s1
      | (s1, some p) => .next (if k < 2 then s1.fragment p else s1.finishPass 0 p (parse p.data .deepParse) none true)

/-- FRAG_WAIT_TIMEOUT (R405): the n-th waiting fragment has waited FRAGWAIT µs. -/
def execFragWaitTimeout (n : Nat) (s : State) : Host.Outcome State Fault Refusal :=
  match s.sv.fragWait[n]? with
  | none => .next s
  | some (_, p, t) =>
    if s.asleep 4 || s.asleep 5 || decide (s.ns64 < t + s.rd Fld.SV_BB_CTRL_FRAGWAIT * 1000) then .next s
    else .next (({ s with sv := { s.sv with fragWait := s.sv.fragWait.eraseIdx n } }.count Fld.SV_BB_CNT_TIMEOUT).finishPass 0 p
      (fragParse p).1.inlineFragment none (fragParse p).2)

/-- FRAG_ENTRY_EXPIRY (R405): the n-th entry of the fragment table has lived FRAGLIFE ms. -/
def execFragEntryExpiry (n : Nat) (s : State) : Host.Outcome State Fault Refusal :=
  let old := s.sv.frags[n]?.any fun e => decide (e.2.2 + s.rd Fld.SV_BB_CTRL_FRAGLIFE * 1000000 ≤ s.ns64)
  .next (if s.asleep 4 || !old then s else { s with sv := { s.sv with frags := s.sv.frags.eraseIdx n } })

/-- RULE_SET_DRAINED (R395): the set left inactive by a swap has no pinned packet any more. -/
def execRuleSetDrained (s : State) : Host.Outcome State Fault Refusal :=
  let b := !s.activeSet
  .next (if s.sv.drainDue && s.setDrained b then
      { s with sv := { s.sv with drainDue := false } }.raise 641 [(8, b2n b)] else s)

/-! ## Register writes and reads (R391, R393, R395, R397, R403, R408) -/

/-- SieveWriteRefused (642). -/
def State.svRefused (s : State) (l : Loc) (idx : Nat) (src : Src) : State :=
  s.raise 642 [(16, l.reg.place.off % 65536 + 8 * l.k), (16, idx), (16, srcCode src)]

/-- A write of SV_RS_CTRL (R393): a changed ACTIVE swaps the sets; the set left inactive may be drained at once (R395). -/
def State.swapSets (s : State) (v : Nat) : State :=
  let b := bit v 0
  if b == s.activeSet then s
  else
    let s1 := s.flag Fld.SV_RS_CTRL_ACTIVE b
    let s2 := s1.raise 640 [(8, b2n b), (16, s1.pins false), (16, s1.pins true)]
    if s2.pins (!b) = 0 then { s2 with sv := { s2.sv with drainDue := false } }.raise 641 [(8, b2n (!b))]
    else { s2 with sv := { s2.sv with drainDue := true } }

/-- A committed write of a word of the exact-match table (R391). Word 7 keeps only the fields of R389. -/
def State.emWrite (s : State) (l : Loc) (v : Nat) (src : Src) : State :=
  let e := s.rd Fld.SV_EM_INDEX_INDEX
  if l.k < 7 && bit (s.emWord e 7).toNat 63 then s.svRefused l e src
  else
    let w := if l.k = 7 then v &&& 0x80000000FFFF00FF else v
    { s with sv := { s.sv with em := Tab.set s.sv.em 0 (8 * e + l.k) (BitVec.ofNat 64 w) } }

/-- A committed write of a word of a rule: accepted only into a drained set (R395). -/
def State.trWrite (s : State) (l : Loc) (v : Nat) (src : Src) : State :=
  let r := s.rd Fld.SV_TR_INDEX_INDEX l.i
  if !s.setDrained (l.i = 1) then s.svRefused l r src
  else
    let w := if l.k = 7 then v &&& 1 else if l.k = 6 then v &&& 0x1FFFF else v
    { s with sv := { s.sv with tr := Tab.set s.sv.tr 0 ((8192 * l.i + r) * 8 + l.k) (BitVec.ofNat 64 w) } }

/-- A committed write of an action word (R397); reserved bits read 0. -/
def State.actWrite (s : State) (v : Nat) : State :=
  { s with sv := { s.sv with act := Tab.set s.sv.act 0 (s.rd Fld.SV_ACT_INDEX_FLOW) (BitVec.ofNat 64 (v &&& 0x7007FFFFFFFFFFFF)) } }

/-- A committed write of the Whisk seed (R403). -/
def State.seedWrite (s : State) (v : Nat) (src : Src) : State :=
  if s.on Fld.SV_CTRL_EN then s.svRefused ⟨.SV_WHISK_SEED, 0, 0, true⟩ 0 src else { s with sv := { s.sv with seed := BitVec.ofNat 64 v } }

/-- Draw the seed from the entropy source (R403). -/
def State.drawSeed (s : State) : State := { s with sv := { s.sv with seed := Config.draw s.draws }, draws := s.draws + 1 }

/-- The read of the low word of SV_FS_BYTES latches SV_FS_PKTS and clears both (R408): the bytes read. -/
def State.flowTake (s : State) : State × Nat :=
  let f := s.rd Fld.SV_FS_INDEX_FLOW
  let x := Tab.get s.sv.fsHost (0, 0) f
  ({ s with sv := { s.sv with fsLatch := x.2, fsHost := Tab.set s.sv.fsHost (0, 0) f (0, 0) } }, x.1)

/-! ## What programs take of it (R101, R408, R417) -/

/-- A packet for a queue in a buffer of an engine (R417, R424): NONE where there is no buffer, ADMIT where another check discards it. -/
def State.placeFor (s : State) (e q : Nat) (p : Packet) : State × Quad :=
  let y := s.offerWhy q { p with handle := 0, queue := q, plane := planeOf p.inport q } (some e)
  (y.1, match y.2 with
    | none => 0
    | some 4 => statusWord 0x03
    | some _ => statusWord 0x0A)

/-- The accumulators that programs have of a flow, read and cleared: bytes and packets (R408). -/
def State.flowstat (s : State) (f : Nat) : State × Nat × Nat :=
  ({ s with sv := { s.sv with fsProg := Tab.set s.sv.fsProg (0, 0) f (0, 0) } }, Tab.get s.sv.fsProg (0, 0) f)

end Sys2Proof.Machine
end

