-- ==== Sys2Proof/Machine/Macs.lean ====
section
/-! DEFINITION. Frame MACs, preemption and gates (R350 to R378, R580), the port schedulers of R443, and the time-stamps and one-step
assist of R273 to R280. -/
namespace Sys2Proof.Machine

/-! ## Time-stamps (R273, R274) -/

/-- The correction of a client port in 1/256 ns, rounded: rate code, FEC, and direction (R274). (log 70, DEDUCED) -/
def stampCorrection (tx : Bool) (rate : Nat) (fec : Bool) : Int :=
  match rate with
  | 0 => if tx then 7603 else 9830
  | 1 => if fec then (if tx then 24653 else 54400) else (if tx then 6298 else 7987)
  | _ => if tx then 21530 else 45798

/-- A 40-bit stamp: the accumulator, what is added to it, and the correction, in 1/256 ns. (log 70, DEDUCED) -/
def State.stampAt (s : State) (add : Int) : Nat := unsgn 40 ((s.stamp40 : Int) + add)

/-- The receive stamp of a client port: correction and trim are subtracted (R274, R275). (log 70, DEDUCED) -/
def State.rxStamp (s : State) (p : Nat) (fine : Int) : Nat :=
  s.stampAt (fine - stampCorrection false (s.rd Fld.LN_STATUS_CURRATE p) (s.on Fld.LN_STATUS_CURFEC p) - sgn 16 (s.rd Fld.MC_TS_ADJ_RX p))

/-- The transmit stamp of a client port: correction and trim are added. -/
def State.txStamp (s : State) (p : Nat) (fine : Int) : Nat :=
  s.stampAt (fine + stampCorrection true (s.rd Fld.LN_STATUS_CURRATE p) (s.on Fld.LN_STATUS_CURFEC p) + sgn 16 (s.rd Fld.MC_TS_ADJ_TX p))

/-! ## Windows (R358, R367) -/

/-- The class of a client egress queue is express on its port. -/
def State.expressClass (s : State) (q : Nat) : Bool := bit (s.rd Fld.MC_PREEMPT_EXPRESS (q / 8)) (q % 8)

/-- Preemption is active on a port (R352). -/
def State.preemptActive (s : State) (p : Nat) : Bool := s.on Fld.MC_PREEMPT_STATUS_ACTIVE p

/-- The next pending edge that closes a class. -/
def State.closingEdge (s : State) (p cls : Nat) : Option (BitVec 32) :=
  ((s.gate p).edges.find? (fun e => !bit e.2.toNat cls)).map Prod.fst

/-- Gb/s of a rate code. -/
def rateGbps (r : Nat) : Nat := if r = 0 then 10 else if r = 1 then 25 else 50

/-- Bytes of a frame's line time: 8 + max(LENGTH, 64), and what protection adds. -/
def State.lineBytes (s : State) (p len : Nat) : Nat := 8 + max len 64 + s.macsecExtra p

/-- A frame of a length fits from a time to the close of its class's window (R367): bits are at most nanoseconds times Gb/s. -/
def State.fitsFrom (s : State) (p cls len : Nat) (start : BitVec 32) : Bool :=
  match s.closingEdge p cls with
  | none => true
  | some t => decide ((s.lineBytes p len * 8 : Int) ≤ (t - start).toInt * (rateGbps (s.rd Fld.LN_STATUS_CURRATE p) : Int))

/-- A frame may start now: its gate is open, and where it follows the express rules it fits its window (R358, R367, R369). -/
def State.mayStart (s : State) (q len : Nat) : Bool :=
  s.gateOpen (q / 8) (q % 8) && ((s.preemptActive (q / 8) && !s.expressClass q) || s.fitsFrom (q / 8) (q % 8) len s.ns)

/-- The MAC sees the transmit direction up: Up, enabled, out of LPI, with no generator and no far-end loop in its place (R329, R342,
R345). -/
def State.txReady (s : State) (p : Nat) : Bool :=
  decide (s.laneState p = 4) && s.on Fld.LN_CTRL_TXEN p && !s.on Fld.LN_STATUS_TXLPI p && !s.on Fld.LN_STATUS_TXTEST p
    && !(s.on Fld.LN_CTRL_RXEN p && decide (s.rd Fld.LN_CTRL_LOOP p = 2))

/-! ## The port scheduler (R441 to R443) -/

/-- The eligible queues of a port among some classes. -/
def State.eligible (s : State) (p : Nat) (cls : Nat → Bool) : List Nat :=
  ((List.range 8).filter cls).map (8 * p + ·) |>.filter fun q =>
    match s.queue q with
    | [] => false
    | x :: _ => s.shapersAllow q && s.mayStart q x.len

/-- Pick a frame among eligible queues, charge and dequeue it; it counts as one decision (R446, R460). -/
def State.pickFrame (s : State) (sched : Nat) (qs : List Nat) : Option (State × Nat × Packet) :=
  match s.choose sched qs (fun q => match s.queue q with | x :: _ => x.len | [] => 0) with
  | none => none
  | some (q, s1) =>
    match s1.queue q with
    | [] => none
    | x :: _ =>
      match (s1.chargeQueue q x.len).dequeue q with
      | (s2, some y) => some ({ s2 with tm := { s2.tm with decisions := s2.tm.decisions + 1 } }, q, y)
      | (_, none) => none

/-- Bring the shapers of a port's queues up to now. -/
def State.accruePort (s : State) (p : Nat) : State := (List.range 8).foldl (fun t c => t.accrueQueue (8 * p + c)) s

/-- SCHEDULER_DEQUEUE (R442, R443): a client port's scheduler fills its express candidate, and while preemption is active its
preemptable candidate. Where none of those it has chosen may start any more, it chooses a frame of another queue (R367). (log 74, DEDUCED) -/
def execSchedulerDequeue (p : Nat) (s : State) : Host.Outcome State Fault Refusal :=
  if 144 ≤ p then .fault .noSuchObject
  else if s.asleep 5 || s.asleep (portDomain p) || !s.txReady p then .next s
  else
    let s1 := s.accruePort p
    let m := s1.mac p
    let act := s1.preemptActive p
    let express := fun c => !act || s1.expressClass (8 * p + c)
    let ready := fun (l : List (Nat × Packet)) => l.any fun c => s1.mayStart c.1 c.2.len
    let free := fun (qs : List Nat) => qs.filter fun q => !(m.candE ++ m.candP).any (fun c => c.1 = q)
    let pickE := if ready m.candE || (!act && ready m.candP) then none else s1.pickFrame (2 * p) (free (s1.eligible p express))
    match pickE with
    | some (s2, q, x) => .next (s2.setMac p { s2.mac p with candE := (s2.mac p).candE ++ [(q, x)] })
    | none =>
      match (if !act || ready m.candP then none else s1.pickFrame (2 * p + 1) (free (s1.eligible p (fun c => !express c)))) with
      | some (s2, q, x) => .next (s2.setMac p { s2.mac p with candP := (s2.mac p).candP ++ [(q, x)] })
      | none => .next s1

/-! ## Checksum insertion (R374 to R376) -/

/-- The offset of the header after Ethernet II and up to two VLAN tags, and its EtherType. -/
def afterTags (f : List Byte) : Nat × Nat :=
  let tag := fun o => beAt f o 2 = 0x8100 ∨ beAt f o 2 = 0x88A8
  if tag 12 then (if tag 16 then (22, beAt f 20 2) else (18, beAt f 16 2)) else (14, beAt f 12 2)

/-- The IPv4 header checksum recomputed (R374), where the header lies within the frame. -/
def fixIp4 (f : List Byte) (o : Nat) : List Byte :=
  let n := beAt f o 1 % 16 * 4
  let h := patch ((f.drop o).take n) 10 [0, 0]
  patch f (o + 10) (beBytes (inetSum h) 2)

/-- The TCP or UDP checksum recomputed (R375): protocol, pseudo-header addresses, offset and length of the segment. -/
def fixL4 (f : List Byte) (proto : Nat) (addrs : List Byte) (v4 : Bool) (o len : Nat) : List Byte :=
  let at_ := if proto = 6 then 16 else 6
  if proto = 17 ∧ v4 ∧ beAt f (o + 6) 2 = 0 then f
  else
    let seg := patch ((f.drop o).take len) at_ [0, 0]
    let c := inetSum (addrs ++ beBytes proto 4 ++ beBytes len 4 ++ seg)
    patch f (o + at_) (beBytes (if proto = 17 ∧ c = 0 then 0xFFFF else c) 2)

/-- An IPv6 extension header, for R376. -/
def isExtension (nx : Nat) : Bool := nx = 0 || nx = 43 || nx = 44 || nx = 50 || nx = 51 || nx = 60 || nx = 135

/-- Checksum insertion at stage 2 (R374 to R376). -/
def State.checksums (s : State) (q : Nat) (p : Packet) : State × List Byte :=
  let port := q / 8
  let ip4 := bit (s.rd Fld.MC_CSUM_CTRL_IP4 port) (q % 8)
  let l4 := bit (s.rd Fld.MC_CSUM_CTRL_L4 port) (q % 8)
  let skip := fun (t : State) (i l : Bool) =>
    let t1 := if i && ip4 then t.count Fld.MC_CSUM_CNT_SKIPIP port else t
    if l && l4 then t1.count Fld.MC_CSUM_CNT_SKIPL4 port else t1
  let f := p.data
  let (o, et) := afterTags f
  if et = 0x0800 ∧ beAt f o 1 / 16 = 4 then
    let ihl := beAt f o 1 % 16
    let total := beAt f (o + 2) 2
    if ihl < 5 ∨ f.length < o + total ∨ f.length < o + 20 ∨ f.length < o + ihl * 4 then (skip s true true, f)
    else
      let late := p.cut && decide (s.rd Fld.LD_XF_CTRL_THRESH port < o + ihl * 4)
      let s1 := skip s late false
      let f1 := if ip4 && !late then fixIp4 f o else f
      let proto := beAt f (o + 9) 1
      let whole := beAt f (o + 6) 2 % 0x4000 = 0
      let so := o + ihl * 4
      let len := total - ihl * 4
      if whole && ((proto = 6 && decide (20 ≤ len)) || (proto = 17 && decide (8 ≤ len))) then
        if p.cut then (skip s1 false true, f1)
        else (s1, if l4 then fixL4 f1 proto ((f.drop (o + 12)).take 8) true so len else f1)
      else (s1, f1)
  else if et = 0x86DD ∧ beAt f o 1 / 16 = 6 then
    let len := beAt f (o + 4) 2
    let nx := beAt f (o + 6) 1
    if f.length < o + 40 + len ∨ isExtension nx then (skip s false true, f)
    else if (nx = 6 && decide (20 ≤ len)) || (nx = 17 && decide (8 ≤ len)) then
      if p.cut then (skip s false true, f)
      else (s, if l4 then fixL4 f nx ((f.drop (o + 8)).take 32) false (o + 40) len else f)
    else (s, f)
  else (s, f)

/-! ## One-step (R278 to R280) -/

/-- The offset of the UDP header of an IPv6 packet, behind its extension headers (`left` bounds their number); a fragment that is not the first has
none. -/
def udpOffset6 (f : List Byte) : (left nx o : Nat) → Option Nat
  | 0, _, _ => none
  | left + 1, nx, o =>
    if nx = 17 then some o
    else if nx = 0 ∨ nx = 43 ∨ nx = 60 ∨ nx = 135 then udpOffset6 f left (beAt f o 1) (o + 8 * (beAt f (o + 1) 1 + 1))
    else if nx = 51 then udpOffset6 f left (beAt f o 1) (o + 4 * (beAt f (o + 1) 1 + 2))
    else if nx = 44 ∧ beAt f (o + 2) 2 < 8 then udpOffset6 f left (beAt f o 1) (o + 8)
    else none

/-- The offset of a PTP message over Ethernet or over a UDP port of a list, and of its UDP header, with whether that is in IPv4; in IPv6 extension
headers may stand before it. (log 96, PRESUMED) -/
def ptpOffsetIn (ports : List Nat) (f : List Byte) : Option (Nat × Option Nat × Bool) :=
  let (o, et) := afterTags f
  if et = 0x88F7 then some (o, none, false)
  else if et = 0x0800 ∧ beAt f (o + 9) 1 = 17 ∧ beAt f (o + 6) 2 % 0x2000 = 0 then
    let u := o + beAt f o 1 % 16 * 4
    if ports.contains (beAt f (u + 2) 2) then some (u + 8, some u, true) else none
  else if et = 0x86DD then
    match udpOffset6 f f.length (beAt f (o + 6) 1) (o + 40) with
    | some u => if ports.contains (beAt f (u + 2) 2) then some (u + 8, some u, false) else none
    | none => none
  else none

/-- The offset of a PTP message that R278 looks at: over Ethernet, or over UDP port 319. -/
def ptpOffset (f : List Byte) : Option (Nat × Option Nat × Bool) := ptpOffsetIn [319] f

/-- A frame that R278 modifies: a Sync with twoStepFlag 0. -/
def oneStepFrame (f : List Byte) : Option (Nat × Option Nat × Bool) :=
  match ptpOffset f with
  | some (o, u, v4) => if o + 34 ≤ f.length ∧ beAt f o 1 % 16 = 0 ∧ !bit (beAt f (o + 6) 1) 1 then some (o, u, v4) else none
  | none => none

/-- The checksum of RFC 1624 after some 16-bit words changed. -/
def updateSum (old : Nat) (before after : List Byte) : Nat :=
  let inv := onesSum (before.map (fun b => ~~~b))
  65535 - onesSum (beBytes (65535 - old) 2 ++ beBytes inv 2 ++ beBytes (onesSum after) 2)

/-- One-step modification with a stamp (R278, R279): the frame, or none where it is discarded. -/
def oneStep (f : List Byte) (o : Nat) (u : Option Nat) (v4 : Bool) (stamp : Nat) : Option (List Byte) :=
  let d := sgn 40 (unsgn 40 ((stamp : Int) - (beAt f (o + 16) 4 * 256 : Nat)))
  if d < 0 ∨ (2 ^ 30 * 256 : Nat) ≤ d then none
  else
    let corr := unsgn 64 (sgn 64 (beAt f (o + 8) 8) + d * 256)
    let g := patch (patch f (o + 8) (beBytes corr 8)) (o + 16) [0, 0, 0, 0]
    match u with
    | none => some g
    | some k =>
      let c := beAt f (k + 6) 2
      if v4 && c = 0 then some g
      else
        let n := updateSum c ((f.drop (o + 8)).take 12) ((g.drop (o + 8)).take 12)
        some (patch g (k + 6) (beBytes (if n = 0 then 0xFFFF else n) 2))

/-! ## Sending (R350, R373, R580) -/

/-- Zero padding until 60 bytes precede the FCS (R580). -/
def padFrame (f : List Byte) : List Byte := f ++ List.replicate (60 - f.length) 0

/-- The frame with its FCS, or the inverse of it (R373). -/
def withFcs (f : List Byte) (bad : Bool) : List Byte :=
  f ++ leBytes (if bad then 0xFFFFFFFF - crc32 f else crc32 f) 4

/-- Count a stomped frame under its first cause (R373): 0 poison, 1 ingress, 2 truncated, 3 underrun. -/
def State.stomped (s : State) (p cause : Nat) : State :=
  let r := match cause with
    | 0 => Reg.MC_TX_STOMP_POISON
    | 1 => .MC_TX_STOMP_INGRESS
    | 2 => .MC_TX_STOMP_TRUNC
    | _ => .MC_TX_STOMP_UNDERRUN
  (s.count ⟨r, 0, 64⟩ p).raise 546 [(8, p), (8, (Config.stompCause cause).toNat)] 1 p

/-- The last byte of a frame has been sent: counted, its buffer freed or its charge settled (R427, R434, R447). -/
def State.frameSent (s : State) (p q : Nat) (x : Packet) (bytes : List Byte) (stomp : Option Nat) : State :=
  let s1 := ((s.count ⟨.MC_TX_FRAMES, 0, 64⟩ p).count ⟨.MC_TX_OCTETS, 0, 64⟩ p 0 bytes.length).freePacket x
  let s2 := if x.cut then
      let back := fun (t : State) (k : Nat) => t.setShaper k ((t.shaper k).refund ((t.shaper k).cost (t.cutLength q) - (t.shaper k).cost (min x.len (t.cutLength q))))
      let t := back (s1.count Fld.LD_XF_CUT_COUNT p) q
      match t.groupOf q with
      | some g => back t g
      | none => t
    else s1
  match stomp with
  | some c => s2.stomped p c
  | none => s2

/-- A frame is discarded after it was chosen: reported and its buffer freed. -/
def State.txDrop (s : State) (x : Packet) : State := s.discard x

/-- The lane a port's next frame takes: that of the preempted frame it holds, whose lane is suspended (R489); for a frame that may itself be
preempted one that holds no suspended frame (R464); else as `cipherLane` says. (log 115, DEDUCED) -/
def State.portLane (s : State) (p q l : Nat) : Option Nat :=
  match (s.mac p).held with
  | some { lane := some k, .. } => some k
  | _ => if s.preemptActive p && !s.expressClass q then s.ownLane l else s.cipherLane l

/-- What the check bits of a frame's data show as it is read (R431, R435): counted and raised; the frame is poisoned by an error of a bank and by
one of the HBM that is not corrected. -/
def State.dataError (s : State) (p : Nat) (x : Packet) (e : EccErr) : State × Bool :=
  if e = .clean then (s, false)
  else if x.cut then ((s.count Fld.LD_XF_ERR_PARITY p).raise 708 [(8, p)] 1 p, true)
  else if e = .single then (s.count Fld.LD_LEDGER_ERR_CORR, false)
  else (s.count Fld.LD_LEDGER_ERR_UNCORR, true)

/-- What of a protected frame leaves its lane when the pipelines disagree at a keystream block: nothing from that block on (R465). (log 131, DEDUCED) -/
def State.released (s : State) (p k : Nat) : Nat := 12 + (s.macsecExtra p - 16) + 16 * k

/-- Stages 2 to 4 of R350 on a chosen frame: the bytes before the FCS, whether it is poisoned, its lane; none where it was
discarded. -/
def State.prepare (s : State) (p q : Nat) (x : Packet) (env : TxEnv) : State × Option (List Byte × Bool × Option Nat) :=
  let (s0, hurt) := s.dataError p x env.dataErr
  let poison := x.poison || hurt
  let (s1, f) := s0.checksums q x
  let stamp := s1.txStamp p env.fine
  if s1.on Fld.CX_PORT_CFG_PROTECT p then
    match s1.txContext p with
    | none => ((s1.count Fld.CX_PORT_DROP_TXNOSA p).txDrop x, none)
    | some c =>
      match s1.portLane p q env.lane with
      | none => (s1, none)
      | some l =>
        let (s2, g) := s1.protect p c l f
        let s3 := if env.mismatch.isSome then s2.cipherMismatch l 0 else s2
        let s4 := if s3.on Fld.MC_TS_CTRL_ONESTEP p && (oneStepFrame f).isSome then s3.count Fld.MC_TS_CNT_SKIP p else s3
        let out := match env.mismatch with
          | some k => g.take (s4.released p k)
          | none => g
        (s4.stampMessage x p stamp s4.tsValid false false, some (out, poison || env.mismatch.isSome, some l))
  else
    match (if s1.on Fld.MC_TS_CTRL_ONESTEP p then oneStepFrame f else none) with
    | none => (s1.stampMessage x p stamp s1.tsValid false false, some (f, poison, none))
    | some (o, u, v4) =>
      match oneStep f o u v4 stamp with
      | none => ((s1.count Fld.MC_TS_CNT_ERR p).txDrop x, none)
      | some g => ((s1.count Fld.MC_TS_CNT_MOD p).stampMessage x p stamp s1.tsValid true false, some (g, poison, none))

/-- The bytes for the line to their FCS and why they are stomped (R370, R373): a frame in cut-through ends at its declared maximum, and padding comes
last (R580). -/
def State.lineFrame (s : State) (q : Nat) (x : Packet) (f : List Byte) (poison : Bool) : List Byte × Option Nat :=
  let trunc := x.cut && decide (s.cutLength q < x.len)
  let g := if trunc then f.take (s.cutLength q - 4) else f
  let cause := if poison then some 0 else if x.rxBad.isSome then some 1 else if trunc then some 2 else none
  (withFcs (padFrame g) cause.isSome, cause)

/-- The first legal point of R354 once `n` bytes of a frame of `total` have been sent, `sent` of them before this fragment. -/
def State.firstPoint (s : State) (p sent n total : Nat) : Option Nat :=
  let unit := if s.on Fld.CX_PORT_CFG_PROTECT p then 16 else 8
  let m := (max n (sent + 64 * (1 + s.rd Fld.MC_PREEMPT_ADDFRAG p) - 4) + unit - 1) / unit * unit
  if m + 64 ≤ total then some m else none

/-- A frame goes through the preemptable MAC (R351, R352): one that was preempted completes as it started. -/
def State.preemptable (s : State) (p : Nat) (h : HeldFrame) : Bool :=
  decide (0 < h.sent) || (s.preemptActive p && !s.expressClass h.q)

/-- The earlier of two points that may not come. -/
def firstOf (a b : Option Nat) : Option Nat :=
  match a, b with
  | some x, some y => some (min x y)
  | some x, none => some x
  | none, y => y

/-- Where the frame in progress is preempted (R354, R369): at the first legal point after an express frame is ready or its gate closes; none where it
completes, or where its store runs dry first. -/
def State.cutPoint (s : State) (p : Nat) (h : HeldFrame) (env : TxEnv) : Option Nat :=
  if s.preemptActive p && s.preemptable p h then
    ((firstOf env.preempt env.closed).bind fun n => s.firstPoint p h.sent n h.bytes.length).filter
      fun m => env.underrun.all (fun u => decide (m ≤ u))
  else none

/-- A frame ends after `n` bytes, or after those already sent, with an inverted FCS (R373). -/
def HeldFrame.endAt (h : HeldFrame) (n cause : Nat) : HeldFrame :=
  let body := (h.bytes.take (h.bytes.length - 4)).take (max n h.sent)
  { h with bytes := withFcs (padFrame body) true, stomp := some (min cause (h.stomp.getD cause)) }

/-- The mCRC that ends a fragment: over all bytes of the frame so far (IEEE 802.3br). (log 130, PRESUMED) -/
def mcrc (f : List Byte) : Nat := crc32 f ^^^ 0xFFFF0000

/-- What goes onto the line; near-end loopback returns it to the port's own receiver too (R345). -/
def State.toLine (s : State) (p : Nat) (o : Out) (f : RxFrame) : State :=
  let s1 := if s.loopsBack p then s.setMac p { s.mac p with loop := (s.mac p).loop ++ [f] } else s
  s1.emit o

/-- What the merge sublayer makes of the bytes it sends of a frame (IEEE 802.3br). (log 130, PRESUMED) -/
def State.merged (s : State) (p : Nat) (h : HeldFrame) (b : List Byte) : RxFrame :=
  if 0 < h.sent then .cont (BitVec.ofNat 2 h.count) (BitVec.ofNat 2 h.frag) b
  else if s.preemptable p h then .start (BitVec.ofNat 2 h.count) b
  else .express b

/-- The store of a frame in progress runs dry after `n` bytes, before all of it was read (R29, R373). -/
def State.dried (s : State) (p : Nat) (h : HeldFrame) (under : Option Nat) : State × HeldFrame :=
  match under with
  | some n => if n + 4 < h.bytes.length then (s.raise 13 [(8, 1), (16, p)], h.endAt n 3) else (s, h)
  | none => (s, h)

/-- A fragment ends with its mCRC and the frame waits to resume, its cipher lane suspended (R354, R356). -/
def State.preemptAt (s : State) (p : Nat) (h : HeldFrame) (n : Nat) : State :=
  let b := (h.bytes.drop h.sent).take (n - h.sent) ++ leBytes (mcrc (h.bytes.take n)) 4
  let s1 := (s.count ⟨.MC_TX_PREEMPTS, 0, 64⟩ p).flag Fld.MC_PREEMPT_STATUS_HELD true p
  let s2 := match h.lane with
    | some l => s1.flag Fld.CX_LANE_STAT_SUSP true l
    | none => s1
  let s3 := s2.toLine p (.fragment p b) (s.merged p h b)
  s3.setMac p { s3.mac p with held := some { h with sent := n, frag := if h.sent = 0 then 0 else (h.frag + 1) % 4 } }

/-- A frame, or the rest of one, goes onto the line whole (R355, R371). An express frame that passes a preempted one leaves it held. -/
def State.complete (s : State) (p : Nat) (h : HeldFrame) (closed : Bool) : State :=
  let s1 := if h.sent = 0 then s
    else
      let t := (s.setMac p { s.mac p with held := none }).flag Fld.MC_PREEMPT_STATUS_HELD false p
      match h.lane with
      | some l => t.flag Fld.CX_LANE_STAT_SUSP false l
      | none => t
  let s2 := if closed && !s.preemptable p h then
      (s1.count ⟨.MC_TX_GATEOVERRUN, 0, 64⟩ p).raise 549 [(8, p), (16, h.q % 8)] 1 p else s1
  let b := h.bytes.drop h.sent
  ((s2.setLane p { s2.lane p with sentAt := s2.ns64 }).toLine p (.frame p b h.stomp.isSome) (s.merged p h b)).frameSent p h.q h.pkt h.bytes h.stomp

/-- A frame leaves its bank of the express FIFO free when its last byte has passed (R434); preempted, it keeps the bank. -/
def State.bankAfter (s : State) (p : Nat) (bank : Option Bool) : State :=
  match bank with
  | none => s
  | some b =>
    if (s.mac p).held.any (fun h => h.bank = some b) then s.setExpress p { s.express p with out := some b }
    else s.setExpress p ((s.express p).free b)

/-- Put a frame, or the rest of one, on the line: preempted at the first legal point, or completed (R354, R355, R369, R373). -/
def State.emitFrame (s : State) (p : Nat) (h : HeldFrame) (env : TxEnv) : State :=
  let s1 := match s.cutPoint p h env with
    | some n => s.preemptAt p h n
    | none =>
      let r := s.dried p h env.underrun
      r.1.complete p r.2 env.closed.isSome
  s1.bankAfter p h.bank

/-- Send a chosen frame (R350). -/
def State.sendFrame (s : State) (p q : Nat) (x : Packet) (bank : Option Bool) (env : TxEnv) : State :=
  match s.prepare p q x env with
  | (s1, none) => s1.bankAfter p bank
  | (s1, some (f, poison, lane)) =>
    let r := s1.lineFrame q x f poison
    let h : HeldFrame := { q := q, pkt := x, bytes := r.1, sent := 0, stomp := r.2, lane := lane, bank := bank, count := (s1.mac p).txCount }
    let s2 := if s1.preemptable p h then s1.setMac p { s1.mac p with txCount := ((s1.mac p).txCount + 1) % 4 } else s1
    s2.emitFrame p h env

/-- A frame of a port that waits to start, and the bank it waits in, in the order the MAC takes them: from the express FIFO, then of the candidates. A frame
that does not fit its window lets those of other classes pass (R367). (log 74, DEDUCED) -/
def State.startable (s : State) (p : Nat) (express : Bool) : Option (Option Bool × Nat × Packet) :=
  let like := fun (q : Nat) => (!s.preemptActive p || s.expressClass q) == express
  match (s.express p).waiting.find? (fun x => like x.2.queue && s.mayStart x.2.queue (s.cutLength x.2.queue)) with
  | some (b, x) => some (some b, x.queue, x)
  | none =>
    (((s.mac p).candE ++ (s.mac p).candP).find? (fun c => like c.1 && s.mayStart c.1 c.2.len)).map fun c => (none, c.1, c.2)

/-- Take a candidate from the lists it stands in. (log 74, DEDUCED) -/
def State.takeCandidate (s : State) (p q : Nat) : State :=
  let m := s.mac p
  s.setMac p { m with candE := m.candE.filter (fun c => c.1 ≠ q), candP := m.candP.filter (fun c => c.1 ≠ q) }

/-- A protected port has an awake lane to protect with (R468); without one its frames wait. -/
def State.cipherRoom (s : State) (p q l : Nat) : Bool :=
  !s.on Fld.CX_PORT_CFG_PROTECT p || (!s.asleep 8 && (s.portLane p q l).isSome)

/-- Start a chosen frame, or let it wait for the cipher engine, which it wakes (R25). -/
def State.startFrame (s : State) (p : Nat) (c : Option Bool × Nat × Packet) (env : TxEnv) : State :=
  if s.cipherRoom p c.2.1 env.lane then
    (if c.1.isSome then s else s.takeCandidate p c.2.1).sendFrame p c.2.1 c.2.2 c.1 env
  else s.wakeFor 8

/-- MAC_TX_FRAME (R350, R355, R443): the express frame that is ready goes first; a preemptable frame starts only while none is
held. -/
def execMacTxFrame (p : Nat) (env : TxEnv) (s : State) : Host.Outcome State Fault Refusal :=
  if 144 ≤ p then .fault .noSuchObject
  else if s.asleep (portDomain p) || !s.txReady p then .next s
  else match s.startable p true with
    | some c => .next (s.startFrame p c env)
    | none =>
      if (s.mac p).held.isSome then .next s
      else match s.startable p false with
        | some c => .next (s.startFrame p c env)
        | none => .next s

/-- What the rest of a preempted frame meets as it is read: an error of its data, and a disagreement of its pipelines (R373, R465). -/
def State.resumed (s : State) (p : Nat) (h : HeldFrame) (env : TxEnv) : State × HeldFrame :=
  let (s1, hurt) := s.dataError p h.pkt env.dataErr
  let h1 := if hurt then h.endAt h.bytes.length 0 else h
  match h.lane, env.mismatch with
  | some l, some k => (s1.cipherMismatch l 0, h1.endAt (s1.released p k) 0)
  | _, _ => (s1, h1)

/-- MAC_RESUME (R355): the preempted frame resumes when no express frame is ready and its gate is open. -/
def execMacResume (p : Nat) (env : TxEnv) (s : State) : Host.Outcome State Fault Refusal :=
  if 144 ≤ p then .fault .noSuchObject
  else match (s.mac p).held with
    | none => .next s
    | some h =>
      if s.asleep (portDomain p) || !s.txReady p || (s.startable p true).isSome || !s.gateOpen p (h.q % 8) then .next s
      else
        let r := s.resumed p h env
        .next (r.1.emitFrame p r.2 env)

/-! ## Verification (R353) -/

/-- PREEMPT_VERIFY_TIMER (R353): the first verify frame, or another VTIME ms after the last; after 3 without response verification has failed. -/
def execPreemptVerifyTimer (p : Nat) (s : State) : Host.Outcome State Fault Refusal :=
  onLane p s fun s =>
    let v := s.rd Fld.MC_PREEMPT_STATUS_VSTATUS p
    let m := s.mac p
    let due := v = 1 ∨ m.verAt + s.rd Fld.MC_PREEMPT_VTIME p * 1000000 ≤ s.ns64
    if s.laneState p = 4 ∧ (v = 1 ∨ v = 2) ∧ s.on Fld.LN_CTRL_TXEN p ∧ due then
      if m.verSent < 3 then
        ((s.setMac p { m with verSent := m.verSent + 1, verAt := s.ns64 }).setVstatus p 2).toLine p (.mergeVerify p false) .verify
      else s.setVstatus p 4
    else s

/-! ## Gates (R359 to R361, R368) -/

/-- Where the head frame of a class waits. -/
inductive HeadAt where
  | candidate
  | bank (b : Bool)
  | queue
deriving DecidableEq, Repr

/-- The head frame of a class, and where it waits. -/
def State.headFrame (s : State) (q : Nat) : Option (HeadAt × Packet) :=
  let m := s.mac (q / 8)
  match (m.candE ++ m.candP).find? (fun c => c.1 = q) with
  | some (_, x) => some (.candidate, x)
  | none =>
    match (s.express (q / 8)).waiting.find? (fun x => x.2.queue = q) with
    | some (b, x) => some (.bank b, x)
    | none => (s.queue q).head?.map (.queue, ·)

/-- Remove the head frame of a class from where it waits. One that its queue still held is charged as it leaves it (R446). -/
def State.dropHead (s : State) (q : Nat) (x : Packet) : HeadAt → State
  | .candidate => s.takeCandidate (q / 8) q
  | .bank b => s.setExpress (q / 8) ((s.express (q / 8)).free b)
  | .queue => ((s.accrueQueue q).chargeQueue q x.len).dequeue q |>.1

/-- R368 at an edge that opens a class: head frames that do not fit the whole window are discarded. The fuel bounds the frames
compared. (log 74, DEDUCED) -/
def oversizeDrops (q : Nat) (start : BitVec 32) : Nat → State → State
  | 0, s => s
  | n + 1, s =>
    match s.headFrame q with
    | none => s
    | some (wh, x) =>
      let len := if x.cut then s.cutLength q else x.len
      if s.fitsFrom (q / 8) (q % 8) len start then s
      else
        let s1 := ((s.dropHead q x wh).txDrop x).count ⟨.MC_TX_GATEOVERSIZE, 0, 64⟩ (q / 8)
        oversizeDrops q start n (s1.raise 547 [(8, q / 8), (16, q % 8), (16, len)] 1 (q / 8))

/-- Apply one edge (R359): the gates take the mask; classes that open are compared with their window; a store that runs dry while its
sequencer is Ready is an underrun (R361). -/
def State.applyEdge (s : State) (p : Nat) (t : BitVec 32) (mask : Nat) (rest : List (BitVec 32 × BitVec 8)) : State :=
  let old := s.rd Fld.GT_GATES_OPEN p
  let s1 := (s.setGate p { s.gate p with edges := rest }).wr Fld.GT_GATES_OPEN mask p
  let s2 := if 144 ≤ p then s1 else
    (List.range 8).foldl (fun u c =>
      let q := 8 * p + c
      if bit mask c && !bit old c && (u.expressClass q || !u.preemptActive p) then oversizeDrops q t ((u.queue q).length + 5) u else u) s1
  if rest.isEmpty && (s2.gate p).st = .ready then (s2.count Fld.GT_CNT_DRY p).raise 13 [(8, 2), (16, p)] else s2

/-- GATE_EDGE_APPLY (R359, R360): the first pending edge, once TB_NS has reached its time. -/
def execGateEdgeApply (p : Nat) (s : State) : Host.Outcome State Fault Refusal :=
  if 145 ≤ p then .fault .noSuchObject
  else match (s.gate p).edges with
    | [] => .next s
    | (t, m) :: r => .next (if reached s.ns t && !s.asleep (portDomain p) then (s.applyEdge p t m.toNat r).settle else s)

/-- An edge enters the pending store (R105, R360): late when it enters less than 400 ns before its time, or behind an edge of later
time. -/
def State.enterEdge (s : State) (p : Nat) (t : BitVec 32) (mask : BitVec 8) : State :=
  let g := s.gate p
  let late := decide ((t - s.ns).toInt < 400) || g.edges.any (fun e => decide (0 < (e.1 - t).toInt))
  let s1 := s.setGate p { g with edges := g.edges ++ [(t, mask)] }
  if late then (s1.count Fld.GT_CNT_LATE p).raise 548 [(8, p)] 1 p else s1

/-! ## Receive (R372) -/

/-- The bytes of what the merge sublayer hands up. -/
def rxLen : RxFrame → Nat
  | .express b => b.length
  | .start _ b => b.length
  | .cont _ _ b => b.length
  | _ => 0

/-- Bytes waiting in a port's receive store. -/
def State.rxBytes (s : State) (p : Nat) : Nat :=
  (Tab.get s.sv.rx [] p).foldl (fun a x => a + x.len) 0
    + (s.mac p).inbox.foldl (fun a x => if x.lost then a else a + rxLen x.item) 0
    + (match (s.mac p).asm with
      | some a => if a.lost then 0 else a.bytes.length
      | none => 0)

/-- The work that waits for Sieve and the store wakes the domains of its path (R25). -/
def State.wakePath (s : State) : State := (((s.wakeFor 4).wakeFor 5).wakeFor 6).wakeFor 7

/-- A good frame goes on to Sieve; until Sieve takes it, it occupies the port's receive store (R29). A frame that failed a check goes there too where
forwarding had begun: `bad` names its count (R372). (log 87, DEDUCED) -/
def State.receive (s : State) (p : Nat) (f : List Byte) (x : RxStored) (bad : Option Reg) : State :=
  let y : Packet := { inport := p, len := f.length + 4, pgen := x.pgen, ts := x.ts, tsv := x.tsv, data := f, rxBad := bad }
  ({ s with sv := { s.sv with rx := Tab.upd s.sv.rx [] p (· ++ [y]) } }).wakePath

/-- The frame checks of R372 in the order of its list: the counter of the first that fails. (log 75, DEDUCED) -/
def State.rxCheck (s : State) (p : Nat) (b : List Byte) : Option Reg :=
  let f := b.take (b.length - 4)
  if leNat (b.drop (b.length - 4)) ≠ crc32 f then some .MC_RX_FCSERR
  else if b.length < 64 then some .MC_RX_RUNT
  else if s.rd Fld.MC_CFG_MAXLEN p < b.length then some .MC_RX_OVERSIZE
  else if beAt f 12 2 = 0x8808 then some .MC_RX_MACCTL
  else none

/-- A frame fails a check of R372: discarded and counted; where forwarding had begun it goes on. -/
def State.rxFail (s : State) (p : Nat) (b : List Byte) (x : RxStored) (r : Reg) : State :=
  if x.env.begun then s.receive p b x (some r) else s.count ⟨r, 0, 64⟩ p

/-- A whole frame needs the cipher engine: verification is on for its port and it carries a SecTAG (R471). -/
def State.secured (s : State) (p : Nat) (b : List Byte) : Bool :=
  decide (s.rd Fld.CX_PORT_CFG_VALIDATE p ≠ 0) && (s.rxCheck p b).isNone && decide (beAt b 12 2 = 0x88E5)

/-- A whole received frame, destination address to FCS (R372, R471, R472, R465). -/
def State.rxFrame (s : State) (p : Nat) (b : List Byte) (x : RxStored) : State :=
  let f := b.take (b.length - 4)
  match s.rxCheck p b with
  | some r => s.rxFail p f x r
  | none =>
    let s1 := (s.count ⟨.MC_RX_FRAMES, 0, 64⟩ p).count ⟨.MC_RX_OCTETS, 0, 64⟩ p 0 b.length
    match (if s.secured p b then s1.cipherLane x.env.lane else none) with
    | none =>
      match s1.macsecRx p 0 f with
      | (s2, .pass g) => s2.receive p g x none
      | (s2, _) => s2
    | some l =>
      if x.env.mismatch then s1.cipherMismatch l 1
      else match s1.macsecRx p l f with
        | (s2, .pass g) => s2.receive p g x none
        | (s2, .badIcv g kept) =>
          if x.env.begun then s2.receive p g x (some (if kept then .CX_SC_ERR else .CX_PORT_DROP))
          else if kept then s2.receive p g x none
          else s2
        | (s2, .drop) => s2

/-- The bytes end with the mCRC of the frame so far: more of it follows (IEEE 802.3br). (log 130, PRESUMED) -/
def moreFollows (b : List Byte) : Bool := decide (4 ≤ b.length) && decide (leNat (b.drop (b.length - 4)) = mcrc (b.take (b.length - 4)))

/-- The frame that a piece in hand completes, if it does. -/
def State.completed (s : State) (p : Nat) (f : RxFrame) : Option (List Byte) :=
  match f with
  | .express b => some b
  | .start _ b => if moreFollows b then none else some b
  | .cont c k b =>
    match (s.mac p).asm with
    | some a => if a.count = c.toNat ∧ a.next = k.toNat ∧ !moreFollows (a.bytes ++ b) then some (a.bytes ++ b) else none
    | none => none
  | _ => none

/-- A fragment sequence breaks (R372): what is there of the frame is discarded, unless its forwarding had begun. -/
def State.assemblyBroken (s : State) (p : Nat) (x : RxStored) : State :=
  match (s.mac p).asm with
  | none => s.count ⟨.MC_RX_ASSYERR, 0, 64⟩ p
  | some a =>
    let s1 := s.setMac p { s.mac p with asm := none }
    if a.lost then s1 else s1.rxFail p a.bytes { x with ts := a.ts, tsv := a.tsv, pgen := a.pgen } .MC_RX_ASSYERR

/-- The receive MAC takes what the merge sublayer hands up (R353, R372; IEEE 802.3br). (log 130, PRESUMED) -/
def State.rxItem (s : State) (p : Nat) (x : RxStored) : State :=
  let whole := fun (t : State) (b : List Byte) (y : RxStored) => if y.lost then t else t.rxFrame p b y
  match x.item with
  | .express b => whole s b x
  | .start c b =>
    let s1 := if (s.mac p).asm.isSome then s.assemblyBroken p x else s
    if moreFollows b then
      s1.setMac p { s1.mac p with asm := some { count := c.toNat, next := 0, bytes := b.take (b.length - 4), ts := x.ts, tsv := x.tsv
                                                pgen := x.pgen, lost := x.lost } }
    else whole s1 b x
  | .cont c k b =>
    let s1 := s.count ⟨.MC_RX_FRAGS, 0, 64⟩ p
    match (s1.mac p).asm with
    | none => s1.assemblyBroken p x
    | some a =>
      let all := a.bytes ++ b
      let y := { x with ts := a.ts, tsv := a.tsv, pgen := a.pgen, lost := a.lost || x.lost }
      if a.count ≠ c.toNat ∨ a.next ≠ k.toNat then s1.assemblyBroken p x
      else if moreFollows all then
        s1.setMac p { s1.mac p with asm := some { a with next := (a.next + 1) % 4, bytes := all.take (all.length - 4), lost := y.lost } }
      else whole (s1.setMac p { s1.mac p with asm := none }) all y
  | .badSmd => s.count ⟨.MC_RX_SMDERR, 0, 64⟩ p
  | .verify => if s.on Fld.MC_PREEMPT_PREEN p then s.toLine p (.mergeVerify p true) .respond else s
  | .respond => if s.rd Fld.MC_PREEMPT_STATUS_VSTATUS p = 2 then s.setVstatus p 3 else s

/-- What arrived needs the cipher engine: it completes a frame that does. -/
def State.needsCipher (s : State) (p : Nat) (x : RxStored) : Bool :=
  match s.completed p x.item with
  | some b => s.secured p b
  | none => false

/-- What arrived waits before the MAC (R25, R27): its port's domain is asleep, or it completes a frame that needs a cipher lane and none is there. -/
def State.rxWaits (s : State) (p : Nat) (x : RxStored) : Bool :=
  s.asleep (portDomain p) || (s.needsCipher p x && (s.asleep 8 || (s.cipherLane x.env.lane).isNone))

/-- What waits before a MAC enters it in arrival order while it may. -/
def drainInbox (p : Nat) : List RxStored → State → State
  | [], s => s.setMac p { s.mac p with inbox := [] }
  | x :: r, s =>
    if s.rxWaits p x then s.setMac p { s.mac p with inbox := x :: r }
    else drainInbox p r ((s.setMac p { s.mac p with inbox := r }).rxItem p x)

/-- What waits before every port, when a domain has woken or a lane has been revived. -/
def State.drainInboxes (s : State) : State := s.macs.foldl (fun t e => drainInbox e.1 (t.mac e.1).inbox t) s

/-- The votes that an arrival casts in the domains of its path (R25). -/
def State.rxVotes (s : State) (p : Nat) (x : RxStored) : State :=
  let s1 := (if rxLen x.item = 0 then s else s.wakePath).wakeFor (portDomain p)
  if s1.needsCipher p x then s1.wakeFor 8 else s1

/-- The full store has already discarded a piece of the frame that arrived last (R29). (log 87, DEDUCED) -/
def State.lostBefore (s : State) (p : Nat) (f : RxFrame) : Bool :=
  match f with
  | .cont _ _ _ =>
    match (s.mac p).inbox.getLast? with
    | some x => x.lost
    | none => (s.mac p).asm.any (fun a => a.lost)
  | _ => false

/-- Something arrives at a port: it enters the MAC behind what waits. When the port's store is full its frame is discarded whole, and counted once
(R29). (log 87, DEDUCED) -/
def State.rxArrive (s : State) (p : Nat) (x : RxStored) : State :=
  let full := decide (0 < rxLen x.item) && decide (32768 < s.rxBytes p + rxLen x.item)
  let s1 := if full && !s.lostBefore p x.item then (s.count ⟨.MC_RX_BOUNDARY, 0, 64⟩ p).raise 12 [(8, 0), (16, p)] else s
  let s2 := s1.setMac p { s1.mac p with inbox := (s1.mac p).inbox ++ [{ x with lost := full }] }
  drainInbox p (s2.mac p).inbox (s2.rxVotes p x)

/-- What a port's receiver sees next, and the state after: with near-end loopback what the port itself sent, and nothing of the fibre; with far-end
loopback what arrives is also sent back (R345). -/
def State.fromLine (s : State) (p : Nat) (f : RxFrame) : State × Option RxFrame :=
  if s.loopsBack p then
    match (s.mac p).loop with
    | [] => (s, none)
    | g :: r => (s.setMac p { s.mac p with loop := r }, some g)
  else (if s.sendsBack p then s.emit (.returned p f) else s, some f)

/-- CLIENT_FRAME_RECEIVE (R372): what the merge sublayer hands up is stored, checked, verified and passed to Sieve; verify frames are
answered whenever PREEN = 1 (R353). -/
def execClientFrameReceive (p : Nat) (f : RxFrame) (env : RxEnv) (s : State) : Host.Outcome State Fault Refusal :=
  if 144 ≤ p then .fault .noSuchObject
  else if s.laneState p ≠ 4 ∨ !s.on Fld.LN_CTRL_RXEN p then .next s
  else match s.fromLine p f with
    | (s1, none) => .next s1
    | (s1, some g) =>
      .next (s1.rxArrive p { item := g, env := env, ts := s1.rxStamp p env.fine, tsv := s1.tsValid, pgen := s1.rd Fld.MC_ROLE_GEN p })

/-! ## Register writes -/

/-- A write of MC_PREEMPT: it ends FAILED, and a change of PREEN or VERIFY starts the verify process again; otherwise what is verified stands
(R353). -/
def State.preemptWrite (s : State) (p v : Nat) : State :=
  let s1 := s.wrReg .MC_PREEMPT (BitVec.ofNat 64 (v % 2 ^ 19)) p
  if s.rd Fld.MC_PREEMPT_STATUS_VSTATUS p = 4 ∨ bits v 8 2 ≠ bits (s.rdReg .MC_PREEMPT p).toNat 8 2 then s1.verifyRestart p
  else s1.preemptFollow p

/-- The messages of a mailbox that a re-role of a port leaves, and those it bounces (R92). -/
def splitMail (stale : Msg → Bool) : List Msg → List Msg × List Msg
  | [] => ([], [])
  | m :: r => let x := splitMail stale r; if stale m then (x.1, m :: x.2) else (m :: x.1, x.2)

/-- Take the stale messages out of a mailbox and bounce them in order. -/
def State.bounceStale (s : State) (a : Agent) (stale : Msg → Bool) (g : Msg → Nat) (bport : Bool) : State :=
  let x := splitMail stale (s.mailbox a)
  x.2.foldl (fun t m => t.bounce m a (g m) bport) (s.setMailbox a x.1)

/-- A write of MC_ROLE (R366, R92): REROLE advances the generation; messages at the port's sequencer, and context messages that name
the port, are bounced; timer messages and bounces carry no generation. -/
def State.rerole (s : State) (p v : Nat) : State :=
  if !bit v 8 then s
  else
    let g := (s.rd Fld.MC_ROLE_GEN p + 1) % 256
    let s1 := s.wr Fld.MC_ROLE_GEN g p
    let pg := fun (m : Msg) => bits (m.dword.getD 0).toNat 28 8
    let s2 := s1.bounceStale (.gate p) (fun m => m.bounce.isNone && m.dword.isSome && pg m ≠ g) pg true
    let names := fun (m : Msg) => m.bounce.isNone && bit (m.dword.getD 0).toNat 36 && bits (m.dword.getD 0).toNat 20 8 = p && pg m ≠ g
    let s3 := s2.pre.ctxs.foldl (fun t e => if e.2.mbx.any names then t.bounceStale (.ctx e.1) names pg true else t) s2
    s3.raise 544 [(8, p), (8, g)]

end Sys2Proof.Machine
end

