-- ==== Sys2Proof/Machine/Contexts.lean ====
section
/-! DEFINITION. Preoth machines from the outside: the states of a context and of a gate sequencer, traps, the commands START, STOP
and RESET, binding and loading, the host mailbox, and the windows onto instruction memory, L and S (R36 to R39, R52, R53, R64 to R71,
R72, R89, R92, R102, R127 to R132, R364, R365). -/
namespace Sys2Proof.Machine

/-! ## Registers of a machine (R36, R37, R104) -/

/-- Read a general register; g0 reads as zero. -/
def Cpu.get (x : Cpu) (r : GReg) : Quad := if r = 0 then 0 else Tab.get x.g 0 r.toNat

/-- Write a general register; a write of g0 is discarded. -/
def Cpu.put (x : Cpu) (r : GReg) (v : Quad) : Cpu := if r = 0 then x else { x with g := Tab.set x.g 0 r.toNat v }

/-- The last word address of an agent's instruction memory (R60, R104). -/
def lastAddr : Agent → Nat
  | .ctx _ => 0xFFFC
  | .gate _ => 0x1FFC

/-- The pc moves on to the next word; past the end the next fetch is the one that traps (R60). -/
def Cpu.advance (x : Cpu) (a : Agent) : Cpu := { x with pc := x.pc + 4, ranOff := decide (x.pc.toNat = lastAddr a) }

/-- The registers of an agent. -/
def State.cpu (s : State) : Agent → Cpu
  | .ctx c => (s.ctx c).cpu
  | .gate p => (s.gate p).cpu

/-- Replace the registers of an agent. -/
def State.setCpu (s : State) (a : Agent) (x : Cpu) : State :=
  match a with
  | .ctx c => s.setCtx c { s.ctx c with cpu := x }
  | .gate p => s.setGate p { s.gate p with cpu := x }

/-- The state of an agent (R52, R364). -/
def State.agentState (s : State) : Agent → CtxState
  | .ctx c => (s.ctx c).st
  | .gate p => (s.gate p).st

/-- What a waiting agent waits for. -/
def State.agentWait (s : State) : Agent → Option Wait
  | .ctx c => (s.ctx c).wait
  | .gate p => (s.gate p).wait

/-- Put an agent into a state with a wait. -/
def State.place (s : State) (a : Agent) (st : CtxState) (w : Option Wait) : State :=
  match a with
  | .ctx c => s.setCtx c { s.ctx c with st := st, wait := w }
  | .gate p => s.setGate p { s.gate p with st := st, wait := w }

/-- Move an agent to a state with a wait; votes and known events follow (R496, R505). -/
def State.goTo (s : State) (a : Agent) (st : CtxState) (w : Option Wait) : State := (s.place a st w).settle

/-- The domain an agent runs in. -/
def agentDomain : Agent → Nat
  | .ctx c => ctxDomain c
  | .gate p => portDomain p

/-- The agent exists. -/
def agentExists : Agent → Bool
  | .ctx c => c < 1024
  | .gate p => p < 145

/-- The code of a state. -/
def CtxState.code : CtxState → Nat
  | .idle => 0
  | .ready => 1
  | .waiting => 2
  | .stopped => 3
  | .trapped => 4
  | .halted => 5

/-- Ready or Waiting. -/
def CtxState.runs : CtxState → Bool
  | .ready => true
  | .waiting => true
  | _ => false

/-! ## Steps (R66, R71) -/

/-- Set the turns of the rotation that a context's latest instruction takes; the first of them is its issue (R50). -/
def State.setTurns (s : State) (c n : Nat) : State :=
  s.setEng (ctxEngine c) { s.eng (ctxEngine c) with turns := Tab.set (s.eng (ctxEngine c)).turns 0 (c % 8) n }

/-- The turns that a context's latest instruction takes. -/
def State.turnsOf (s : State) (c : Nat) : Nat := Tab.get (s.eng (ctxEngine c)).turns 0 (c % 8)

/-- Charge steps to a context: the special register STEPS, PR_CTX_STEPS and, for a packet-profile context, the count of R71; each step is a
turn of its engine's rotation (R50). -/
def State.charge (s : State) (a : Agent) (n : Nat) : State :=
  match a with
  | .gate _ => s
  | .ctx c =>
    let x := s.ctx c
    (s.setTurns c (s.turnsOf c + n)).setCtx c
      { x with steps := x.steps + BitVec.ofNat 64 n, stepsReg := x.stepsReg + BitVec.ofNat 64 n
               pktSteps := if x.packet && x.counting then x.pktSteps + n else x.pktSteps }

/-- An instruction of this cost would pass STEPLIMIT (R71). -/
def State.overLimit (s : State) (a : Agent) (cost : Nat) : Bool :=
  match a with
  | .gate _ => false
  | .ctx c =>
    let x := s.ctx c
    let lim := s.rd Fld.PR_ENG_CTRL_STEPLIMIT (ctxEngine c)
    x.packet && x.counting && lim ≠ 0 && lim < x.pktSteps + cost

/-! ## Packets a context holds (R70, R97, R100) -/

/-- A context's packet leaves the order of release of its engine (R97). -/
def State.leaveOrder (s : State) (c : Nat) : State :=
  let e := ctxEngine c
  s.setEng e { s.eng e with order := (s.eng e).order.filter (fun x => x.1 ≠ c) }

/-- Discard the packet that a packet-profile context holds, counted in `f`. -/
def State.dropHeld (s : State) (c : Nat) (f : Fld) : State :=
  match (s.ctx c).pkt with
  | none => s
  | some p =>
    if !(s.ctx c).packet then s
    else
      let s1 := (s.setCtx c { s.ctx c with pkt := none, win := [], counting := false }).leaveOrder c
      (s1.discard p).count f (ctxEngine c)

/-! ## Traps (R64 to R71, R106) -/

/-- The word of instruction memory at an agent's pc has a wrong parity bit (R49). (log 15, DESIGN CHOICE) -/
def State.fetchBad (s : State) (a : Agent) : Bool :=
  match a with
  | .ctx c => (s.eng (ctxEngine c)).ibad.contains ((s.ctx c).cpu.pc.toNat / 4)
  | .gate p => (s.gate p).ibad.contains ((s.gate p).cpu.pc.toNat / 4)

/-- Record a trap of a context and enter its handler, or park it in Trapped (R66, R69, R70). `tpc` is the saved pc; `stops`: the
packet step count stops (STEPLIMIT). (log 20, DEDUCED) -/
def State.trapEntry (s : State) (c : Nat) (tpc : BitVec 16) (cause : Nat) (tval : Quad) (stops : Bool) : State :=
  let x := s.ctx c
  let y := { x with tpc := tpc, tcause := BitVec.ofNat 8 cause, tval := tval, tvalid := true, wait := none, after := .go
                    counting := x.counting && !stops }
  if x.vecValid && !x.hmode then
    let z := { y with st := .ready, hmode := true, lastPc := tpc, cpu := { x.cpu with pc := x.vec, ranOff := false } }
    ((s.setCtx c z).charge (.ctx c) 4).settle
  else
    let z := { y with st := .trapped, cpu := { x.cpu with pc := tpc, ranOff := false } }
    let s1 := (s.setCtx c z).dropHeld c Fld.PR_ENG_TRAPDROP_COUNT
    (s1.raise (if x.hmode then 898 else 896) [(16, c), (8, cause)]).settle

/-- An agent traps at its pc. -/
def State.trap (s : State) (a : Agent) (cause : Nat) (tval : Quad) : State :=
  match a with
  | .ctx c => s.trapEntry c (s.ctx c).cpu.pc cause tval false
  | .gate p =>
    let g := s.gate p
    let s1 := s.setGate p { g with st := .trapped, wait := none, after := .go, tcause := BitVec.ofNat 8 cause }
    (s1.raise 903 [(8, p), (8, cause), (16, g.cpu.pc.toNat)]).settle

/-! ## START, STOP and RESET (R52, R364) -/

/-- PreothWriteRefused (899): the context named (0x3FF: none), the engine index or 256 + port, and the register's offset (R74). -/
def State.preRefused (s : State) (c unit off : Nat) : State := s.raise 899 [(16, c), (16, unit), (16, off)]

/-- Release a context's timers, votes and pw.next time, and the expiries not yet in its mailbox (R102). -/
def State.releaseHeld (s : State) (c : Nat) : State :=
  let s1 := s.setCtx c { s.ctx c with timers := [], pnext := none }
  { s1 with pow := { s1.pow with owner := s1.pow.owner.filter (fun e => e.2 ≠ c + 1) }
            pre := { s1.pre with expiries := s1.pre.expiries.filter (fun e => e.c ≠ c) } }

/-- The RESET of R52 and R100 takes effect. (log 21, DEDUCED) -/
def State.resetCtx (s : State) (c : Nat) : State :=
  let s1 := (s.dropHeld c Fld.PR_ENG_PROGDROP_COUNT).releaseHeld c
  let x := s1.ctx c
  (s1.setCtx c { x with cpu := {}, lastPc := 0, st := .idle, wait := none, after := .go, hmode := false, tpc := 0, tcause := 0
                        tval := 0, tvalid := false, tscratch := 0, steps := 0, counting := false, pktSteps := 0, win := [] }).settle

/-- A context stops (R52, R100). -/
def State.stopCtx (s : State) (c : Nat) : State :=
  ((s.dropHeld c Fld.PR_ENG_PROGDROP_COUNT).setCtx c
    { (s.dropHeld c Fld.PR_ENG_PROGDROP_COUNT).ctx c with st := .stopped, wait := none, after := .go }).settle

/-- The waits that STOP and RESET cancel with nothing consumed: recv, twait, pkt.next and a gt.edge that has no result yet. -/
def Wait.cancels : Wait → Bool
  | .recv _ _ _ => true
  | .twait _ => true
  | .pktNext _ => true
  | .hcall _ n _ r => n = 0x80 && r.isNone
  | _ => false

/-- The wait of an agent can be cancelled. -/
def State.cancels (s : State) (a : Agent) : Bool :=
  match s.agentWait a with
  | some w => w.cancels
  | none => true

/-- A command written to PR_CTX_STATE.CMD (R52, R53). A CMD that R73 gives no meaning is discarded without event 899, and PR_CTX_PC shows the pc
that a START takes until the first instruction issues. (log 91, DESIGN CHOICE) (log 122, DESIGN CHOICE) -/
def State.ctxCommand (s : State) (c cmd : Nat) : State :=
  let x := s.ctx c
  let refuse := s.preRefused c (ctxEngine c) (0x100 + 0x40 * (c % 8))
  if cmd = 1 then
    if x.st.runs then refuse
    else
      let cpu := if x.st = .idle then { x.cpu with z := false, n := false, c := false, v := false, ranOff := false }
        else { x.cpu with ranOff := false }
      ((s.setTurns c 0).setCtx c { x with cpu := cpu, lastPc := x.cpu.pc, hmode := false, steps := 0, st := .ready, after := .go }).settle
  else if cmd = 2 then
    if x.st = .ready then s.stopCtx c
    else if x.st = .waiting then
      if s.cancels (.ctx c) then s.stopCtx c
      else if x.after = .reset then s else s.setCtx c { x with after := .stop }
    else refuse
  else if cmd = 3 then
    if x.st = .waiting && !s.cancels (.ctx c) then s.setCtx c { x with after := .reset } else s.resetCtx c
  else s

/-- The RESET of a gate sequencer: edges are discarded and every gate opens (R364). -/
def State.resetGate (s : State) (p : Nat) : State :=
  let s1 := s.setGate p { s.gate p with cpu := {}, lastPc := 0, st := .idle, wait := none, after := .go, edges := [], dry := false }
  (s1.wr Fld.GT_GATES_OPEN 0xFF p).settle

/-- A gate sequencer stops (R364). -/
def State.stopGate (s : State) (p : Nat) : State :=
  (s.setGate p { s.gate p with st := .stopped, wait := none, after := .go }).settle

/-- A command written to GT_CTRL.CMD (R364). -/
def State.gateCommand (s : State) (p cmd : Nat) : State :=
  let g := s.gate p
  let refuse := s.preRefused 0x3FF (256 + p) 0x3000
  if cmd = 0 then s
  else if cmd = 1 then
    if g.st.runs then refuse
    else
      let pc := BitVec.ofNat 16 (s.rd Fld.GT_CTRL_PC p)
      (s.setGate p { g with cpu := { g.cpu with pc := pc, ranOff := decide (0x1FFC < pc.toNat) }, lastPc := pc, st := .ready, after := .go }).settle
  else if cmd = 2 then
    if g.st = .ready then s.stopGate p
    else if g.st = .waiting then
      if s.cancels (.gate p) then s.stopGate p
      else if g.after = .reset then s else s.setGate p { g with after := .stop }
    else refuse
  else if cmd = 3 then
    if g.st = .waiting && !s.cancels (.gate p) then s.setGate p { g with after := .reset } else s.resetGate p
  else s

/-- The waited instruction of an agent completes: the pc moves on, and the agent is Ready again unless a STOP or a RESET came
meanwhile (R52). -/
def State.finish (s : State) (a : Agent) : State :=
  match a with
  | .ctx c =>
    let x := s.ctx c
    let s1 := s.setCtx c { x with cpu := x.cpu.advance a }
    match x.after with
    | .go => s1.goTo a .ready none
    | .stop => s1.stopCtx c
    | .reset => s1.resetCtx c
  | .gate p =>
    let g := s.gate p
    let s1 := s.setGate p { g with cpu := g.cpu.advance a }
    match g.after with
    | .go => s1.goTo a .ready none
    | .stop => s1.stopGate p
    | .reset => s1.resetGate p

/-- A waited instruction ends in a trap; a STOP or a RESET that came meanwhile is carried out after it. -/
def State.failWait (s : State) (c cause : Nat) (tval : Quad) : State :=
  let s := s.setTurns c 1
  match (s.ctx c).after with
  | .go => s.trap (.ctx c) cause tval
  | .stop =>
    let s1 := s.trap (.ctx c) cause tval
    if (s1.ctx c).st.runs then s1.stopCtx c else s1
  | .reset => s.resetCtx c

/-! ## Binding (R90, R92, R131) -/

/-- The generation of a context advances, and its mailbox is purged of what was meant for the old one (R92). -/
def State.advanceGen (s : State) (c : Nat) : State :=
  let g := (s.ctx c).gen + 1
  let s1 := s.setCtx c { s.ctx c with gen := g }
  let dg := fun (m : Msg) => bits (m.dword.getD 0).toNat 10 8
  let plain := fun (m : Msg) => m.bounce.isNone && m.dword.isSome
  let lost := (s1.mailbox (.ctx c)).filter (fun m => m.bounce.isSome)
  let s2 := s1.setMailbox (.ctx c) ((s1.mailbox (.ctx c)).filter plain)
  let s3 := s2.bounceStale (.ctx c) (fun m => dg m ≠ g.toNat) dg false
  lost.foldl (fun t m => match m.bounce with | some (a, _, _) => t.bounceLost m a | none => t) s3

/-- Bind a context (R131): RESET, a new generation, profile, loader and authority, entry and trap vector. -/
def State.bindCtx (s : State) (c : Nat) (packet : Bool) (loader auth entry : Nat) (vec : Bool × Nat) : State :=
  let s1 := (s.resetCtx c).advanceGen c
  let x := s1.ctx c
  s1.setCtx c { x with packet := packet, loader := BitVec.ofNat 2 loader, auth := BitVec.ofNat 2 auth
                       cpu := { x.cpu with pc := BitVec.ofNat 16 (entry / 4 * 4) }
                       vecValid := vec.1, vec := BitVec.ofNat 16 (vec.2 / 4 * 4) }

/-- Bind a gate sequencer (R365). -/
def State.bindGate (s : State) (p loader entry : Nat) : State :=
  let s1 := (s.resetGate p).wr Fld.GT_CTRL_PC (entry / 4 * 4) p
  s1.setGate p { s1.gate p with loader := BitVec.ofNat 2 loader }

/-! ## Loading (R127 to R132, R365) -/

/-- LOADER and AUTH that a writer of GO gives (R131); 3 stands for head-end authority, which check 1 refuses. -/
def State.writerAuth (s : State) : Src → Nat
  | .serial => 1
  | .host => 2
  | .hw => 2
  | .proxy => 3
  | .ctx c => (s.ctx c).auth.toNat

/-- Read bytes of S. -/
def State.readS (s : State) (a n : Nat) : List Byte := Tab.read s.pre.shared 0 a n

/-- Write bytes of S. -/
def State.writeS (s : State) (a : Nat) (b : List Byte) : State := { s with pre := { s.pre with shared := Tab.write s.pre.shared 0 a b } }

/-- Bytes of the image source: S, or the Preoth data partition. -/
def State.imageBytes (s : State) (inS : Bool) (a n : Nat) : List Byte := if inS then s.readS a n else s.hbmRead 3 a n

/-- Little-endian words of a byte list. -/
def leWords : List Byte → List Word
  | a :: b :: c :: d :: r => BitVec.ofNat 32 (leNat [a, b, c, d]) :: leWords r
  | _ => []

/-- Contexts that R130 protects by number. -/
def protectedCtx (c : Nat) : Bool :=
  c ≤ 7 || (20 ≤ c && c ≤ 23) || (29 ≤ c && c ≤ 31) || (34 ≤ c && c ≤ 39) || (132 ≤ c && c ≤ 135)

/-- Checks 2 to 6 of R129 on an image at `src`: its code, and what it holds. `kind` is the kind asked for. (log 28, DEDUCED) -/
def State.imageCheck (s : State) (src : Quad) (kind climit dlimit : Nat) : LoadJob :=
  let inS := bit src.toNat 62
  let addr := bits src.toNat 0 40
  let size := if inS then 0x1000000 else s.partBytes 3
  if addr % 8 ≠ 0 ∨ size < addr + 64 then { code := 0x17 }
  else
    let h := s.imageBytes inS addr 64
    let w := fun o n => leNat ((h.drop o).take n)
    let cl := w 0x0C 4
    let dl := w 0x14 4
    if size < addr + 64 + cl + dl then { code := 0x17 }
    else
      let body := s.imageBytes inS (addr + 64) (cl + dl)
      if w 0 4 ≠ 0x48545250 ∨ w 4 2 ≠ 1 then { code := 0x10 }
      else if w 0x3C 4 ≠ crc32 (h.take 0x3C ++ body) then { code := 0x11 }
      else if w 6 1 ≠ kind then { code := 0x12 }
      else if w 8 4 % 4 ≠ 0 ∨ cl % 4 ≠ 0 ∨ w 0x10 4 % 8 ≠ 0 ∨ dl % 8 ≠ 0 ∨ w 0x1C 4 % 4 ≠ 0 ∨ w 0x18 4 % 4 ≠ 0
          ∨ climit < w 8 4 + cl ∨ dlimit < w 0x10 4 + dl ∨ climit ≤ w 0x18 4 ∨ (kind ≠ 2 ∧ climit ≤ w 0x1C 4)
          ∨ 1 < w 7 1 ∨ w 0x21 7 ≠ 0 ∨ w 0x2C 16 ≠ 0 then { code := 0x13 }
      else
        { code := 0, codeAddr := w 8 4, codeWords := leWords (body.take cl), dataAddr := w 0x10 4, dataBytes := body.drop cl
          entry := w 0x18 4, vec := (w 7 1 = 1, w 0x1C 4), mask := w 0x20 1 }

/-- Words of instruction memory whose parity bit is wrong, after `n` words from one have been written (R49). -/
def freshParity (bad : List Nat) (a n : Nat) : List Nat := bad.filter (fun w => decide (w < a ∨ a + n ≤ w))

/-- The domains that a load reads from or writes to (R132). -/
def loadDomains (src : Quad) (home : Nat) : List Nat :=
  if bit src.toNat 62 then [1, home] else [6, 7, home]

/-- Cast the loader's votes in the domains it needs that are asleep (R132). -/
def State.wakeAll (s : State) (ds : List Nat) : State := ds.foldl State.wakeFor s

/-- A write of GO to PR_LOAD_CTRL (R129, R130, R132). (log 28, DEDUCED) -/
def State.loadGo (s : State) (e v : Nat) (src : Src) : State :=
  if !bit v 0 then s
  else if s.on Fld.PR_LOAD_STATUS_BUSY e then s.preRefused 0x3FF e 0x38
  else
    let auth := s.writerAuth src
    let from_ := s.rdReg .PR_LOAD_SRC e
    let job := if auth = 3 ∨ auth = 0 then { code := 0x16 } else s.imageCheck from_ (if e < 16 then 0 else 1) 65536 131072
    let ctxs := (List.range 8).map (fun k => 8 * e + k)
    let named := ctxs.filter (fun c => bit job.mask (c % 8))
    let code := if job.code ≠ 0 then job.code
      else if named.any (fun c => protectedCtx c || (s.ctx c).st.runs) then 0x15
      else if !job.codeWords.isEmpty && ctxs.any (fun c => (s.ctx c).st.runs) then 0x14
      else 0
    let s1 := s.setEng e { s.eng e with load := some { job with code := code, loader := auth } }
    (s1.flag Fld.PR_LOAD_STATUS_BUSY true e).wakeAll (loadDomains from_ (engineDomain e))

/-- A load ends: the result, BUSY and SEQ. -/
def State.loadEnd (s : State) (st : Reg) (i code : Nat) : State :=
  let v := s.rd ⟨st, 16, 8⟩ i
  ((s.wr ⟨st, 0, 8⟩ code i).wr ⟨st, 8, 1⟩ 0 i).wr ⟨st, 16, 8⟩ (v + 1) i

/-- ENGINE_LOAD_COMPLETE (R129, R131, R132): the loader writes the code and the data and binds the contexts, or reports the failure. (log 28, DEDUCED) -/
def execEngineLoadComplete (e : Nat) (s : State) : Host.Outcome State Fault Refusal :=
  if 128 ≤ e then .fault .noSuchObject
  else match (s.eng e).load with
  | none => .next s
  | some j =>
    if (loadDomains (s.rdReg .PR_LOAD_SRC e) (engineDomain e)).any s.asleep then .next s
    else
      let s1 := s.setEng e { s.eng e with load := none }
      let s2 := if j.code ≠ 0 then s1
        else
          let g := s1.eng e
          let t := s1.setEng e { g with imem := Tab.write g.imem 0 (j.codeAddr / 4) j.codeWords
                                        ibad := freshParity g.ibad (j.codeAddr / 4) j.codeWords.length, lmem := Tab.write g.lmem 0 j.dataAddr j.dataBytes }
          (List.range 8).foldl (fun t k => if bit j.mask k then t.bindCtx (8 * e + k) (16 ≤ e) j.loader j.loader j.entry j.vec else t) t
      .next ((s2.loadEnd .PR_LOAD_STATUS e j.code).settle)

/-- A write of GO to GT_LOAD_CTRL (R365). (log 28, DEDUCED) -/
def State.gateLoadGo (s : State) (p v : Nat) (src : Src) : State :=
  if !bit v 0 then s
  else if s.on Fld.GT_LOAD_STATUS_BUSY p then s.preRefused 0x3FF (256 + p) 0x3018
  else
    let auth := s.writerAuth src
    let from_ := s.rdReg .GT_LOAD_SRC p
    let job := if auth = 3 ∨ auth = 0 then { code := 0x16 } else s.imageCheck from_ 2 8192 4096
    let code := if job.code ≠ 0 then job.code
      else if 1 < job.mask then 0x15
      else if (!job.codeWords.isEmpty || job.mask = 1) && (s.gate p).st.runs then 0x14
      else 0
    let s1 := s.setGate p { s.gate p with load := some { job with code := code, loader := auth } }
    (s1.flag Fld.GT_LOAD_STATUS_BUSY true p).wakeAll (loadDomains from_ (portDomain p))

/-- GATE_LOAD_COMPLETE (R365). (log 28, DEDUCED) -/
def execGateLoadComplete (p : Nat) (s : State) : Host.Outcome State Fault Refusal :=
  if 145 ≤ p then .fault .noSuchObject
  else match (s.gate p).load with
  | none => .next s
  | some j =>
    if (loadDomains (s.rdReg .GT_LOAD_SRC p) (portDomain p)).any s.asleep then .next s
    else
      let g := { s.gate p with load := none }
      let s1 := s.setGate p g
      let s2 := if j.code ≠ 0 then s1
        else
          let t := s1.setGate p { g with imem := Tab.write g.imem 0 (j.codeAddr / 4) j.codeWords
                                         ibad := freshParity g.ibad (j.codeAddr / 4) j.codeWords.length, lmem := Tab.write g.lmem 0 j.dataAddr j.dataBytes }
          if j.mask = 1 then t.bindGate p j.loader j.entry else t
      .next ((s2.loadEnd .GT_LOAD_STATUS p j.code).settle)

/-! ## The host mailbox (R89) -/

/-- A write of PR_HMSG_CTRL: LEN, and GO; a GO while DONE is 0 discards the write. -/
def State.hostMsgGo (s : State) (e v : Nat) : State :=
  let s1 := s.wr Fld.PR_HMSG_CTRL_LEN (bits v 0 3) e
  if !bit v 3 then s1
  else if !s.on Fld.PR_HMSG_STATUS_DONE e then s.preRefused 0x3FF e 0x20
  else
    let d := s1.rdReg .PR_HMSG_DEST e
    let body := (List.range (s1.rd Fld.PR_HMSG_CTRL_LEN e + 1)).map (fun k => s1.rdReg .PR_HMSG_BODY e k)
    let m : Msg := { sender := .host e, tag := bits d.toNat 37 8, body := body, dword := some d }
    let s2 := (s1.flag Fld.PR_HMSG_STATUS_DONE false e)
    match destOf d with
    | none => s2.setEng e { s2.eng e with hmsg := some 0x0C }
    | some a =>
      let s3 := s2.setEng e { s2.eng e with hmsg := none }
      let fl : Flight := { msg := m, dest := a }
      ({ s3 with pre := { s3.pre with flights := s3.pre.flights ++ [fl] } }).wakeFor (agentDomain a)

/-- HOST_MESSAGE_DONE (R89): CODE becomes valid. -/
def execHostMessageDone (e : Nat) (s : State) : Host.Outcome State Fault Refusal :=
  if 128 ≤ e then .fault .noSuchObject
  else match (s.eng e).hmsg with
  | none => .next s
  | some k =>
    if s.on Fld.PR_HMSG_STATUS_DONE e then .next s
    else .next (((s.setEng e { s.eng e with hmsg := none }).wr Fld.PR_HMSG_STATUS_CODE k e).flag Fld.PR_HMSG_STATUS_DONE true e)

/-! ## Windows onto memory (R73, R129) -/

/-- The next address of a window with AUTOINC. -/
def State.windowStep (s : State) (r : Reg) (i width : Nat) : State :=
  let f : Fld := ⟨r, 0, width⟩
  if s.on ⟨r, 31, 1⟩ i then s.wr f (s.rd f i + 4) i else s

/-- A read of PR_MEM_DATA: the word of instruction memory or of L at PR_MEM_ADDR. -/
def State.memDataRead (s : State) (e : Nat) : State × Nat :=
  let a := s.rd Fld.PR_MEM_ADDR_ADDR e / 4 * 4
  let g := s.eng e
  let v := if s.on Fld.PR_MEM_ADDR_SPACE e then leNat (Tab.read g.lmem 0 a 4) else (Tab.get g.imem 0 (a % 65536 / 4)).toNat
  (s.windowStep .PR_MEM_ADDR e 17, v)

/-- A write of PR_MEM_DATA: refused for instruction memory while a context of the engine is Ready or Waiting. -/
def State.memDataWrite (s : State) (e v : Nat) : State :=
  let a := s.rd Fld.PR_MEM_ADDR_ADDR e / 4 * 4
  let g := s.eng e
  let s1 := if s.on Fld.PR_MEM_ADDR_SPACE e then s.setEng e { g with lmem := Tab.write g.lmem 0 a (leBytes v 4) }
    else if (List.range 8).any (fun k => (s.ctx (8 * e + k)).st.runs) then s.preRefused 0x3FF e 0x14
    else s.setEng e { g with imem := Tab.set g.imem 0 (a % 65536 / 4) (BitVec.ofNat 32 v), ibad := freshParity g.ibad (a % 65536 / 4) 1 }
  s1.windowStep .PR_MEM_ADDR e 17

/-- A read of PR_STM_DATA: the word of S at PR_STM_ADDR. -/
def State.stmDataRead (s : State) : State × Nat :=
  (s.windowStep .PR_STM_ADDR 0 24, leNat (s.readS (s.rd Fld.PR_STM_ADDR_ADDR / 4 * 4) 4))

/-- A write of PR_STM_DATA. -/
def State.stmDataWrite (s : State) (v : Nat) : State :=
  (s.writeS (s.rd Fld.PR_STM_ADDR_ADDR / 4 * 4) (leBytes v 4)).windowStep .PR_STM_ADDR 0 24

/-! ## Register views of a machine (R72, R73, R111) -/

/-- The WAIT code of PR_CTX_STATE. (log 122, DESIGN CHOICE) -/
def State.waitCode (s : State) (c : Nat) : Nat :=
  match (s.ctx c).wait with
  | some (.load _ .s _ _ _ _) => if s.asleep 1 then 9 else 1
  | some (.load _ .h a _ _ _) => if s.asleep (interleavedDomain a) then 9 else 2
  | some (.load _ .k _ _ _ _) => 2
  | some (.load _ .l _ _ _ _) => 0
  | some (.atomic _ _ _ _ _ _ _) => if s.asleep 1 then 9 else 1
  | some .fence => 8
  | some (.send _ _ _) => 4
  | some (.recv _ _ _) => 5
  | some (.twait _) => 6
  | some (.pktNext _) => 3
  | some (.hcall _ _ _ _) => 3
  | some (.access _ _) => 7
  | none => 0

/-- PR_CTX_STATE as read. -/
def State.ctxStateWord (s : State) (c : Nat) : Nat :=
  let x := s.ctx c
  x.st.code + b2n x.hmode * 8 + (if x.st = .waiting then s.waitCode c * 256 else 0)

/-- PR_CTX_PC as read: in Ready and Waiting the last issued. -/
def State.ctxPcWord (s : State) (c : Nat) : Nat :=
  let x := s.ctx c
  if x.st.runs then x.lastPc.toNat else x.cpu.pc.toNat

/-- PR_ENG_STATUS as read. -/
def State.engStatus (s : State) (e : Nat) : Nat :=
  (List.range 8).foldl (fun a k => match (s.ctx (8 * e + k)).st with
    | .ready => a + 2 ^ k
    | .waiting => a + 2 ^ (8 + k)
    | .trapped => a + 2 ^ (16 + k)
    | .halted => a + 2 ^ (24 + k)
    | _ => a) 0

/-- GT_STATUS as read. -/
def State.gateStatus (s : State) (p : Nat) : Nat :=
  let g := s.gate p
  g.st.code + g.edges.length % 32 * 8 + g.loader.toNat * 256 + g.tcause.toNat * 65536

/-- A write of PR_CTX_PC, PR_CTX_TRAPVEC or the general-register window is accepted outside Ready and Waiting (R53). -/
def State.ctxRegWrite (s : State) (c off : Nat) (x : Ctx) : State :=
  if (s.ctx c).st.runs then s.preRefused c (ctxEngine c) off else s.setCtx c x

end Sys2Proof.Machine
end

