-- ==== Sys2Proof/Machine/Fibre.lean ====
section
/-! DEFINITION. What the chapters of the shared fibre have in common: activation as a state, the head end's view of the terminal
(Membership, PairRequest), the working upstream channels, grant-loss hold, and the reorder groups (R158 to R169, R195, R199 to R202,
R227, R241, R250). -/
namespace Sys2Proof.Machine

/-! ## Activation and the reference -/

/-- The activation state (R176). -/
def State.act (s : State) : Nat := s.rd Fld.TC_ACT_STATUS_STATE

/-- The timing reference channel. -/
def State.refChan (s : State) : Nat := s.rd Fld.TC_ACT_STATUS_REF

/-- Bonded mode (R139). -/
def State.bonded (s : State) : Bool := s.on Fld.TC_DS_MODE_BONDED

/-- A channel is a bonding member (R166). -/
def State.isMember (s : State) (n : Nat) : Bool := s.on Fld.TC_DSC_STATUS_MEMBER n

/-- The members, lowest first. -/
def State.members (s : State) : List Nat := (List.range 4).filter s.isMember

/-- The mask of the channels that satisfy a test. -/
def maskOf (p : Nat → Bool) : Nat := (List.range 4).foldl (fun a n => if p n then a + 2 ^ n else a) 0

/-- Last BondSet carried UC1 in use. -/
def State.uc1Use (s : State) : Bool := s.on Fld.TC_US_MODE_UC1USE

/-- UCm is working (R227). -/
def State.working (s : State) (m : Nat) : Bool := bit (s.rd Fld.TC_US_MODE_WORKING) m

/-- A UC's watchdog latch (R215). -/
def State.tripped (s : State) (m : Nat) : Bool := if m = 0 then s.on Fld.OP_WD_STATUS_TRIP0 else s.on Fld.OP_WD_STATUS_TRIP1

/-- EqD of a UC is valid. -/
def State.eqdValid (s : State) (m : Nat) : Bool := s.on Fld.TC_RNG_EQD_VALID 0 m

/-! ## The roles of the shared-fibre group (R109, R120)

What a role does is done only while the base program set runs it: a context that the groups of KT_BOOT_CTRL leave out, or that was stopped or trapped,
does none of it. -/

/-- Role 3, the PLOAM handler. -/
def State.ploamRole (s : State) : Bool := s.roleRuns 8

/-- Role 4, activation. -/
def State.activationRole (s : State) : Bool := s.roleRuns 9

/-- Role 5, ranging. -/
def State.rangingRole (s : State) : Bool := s.roleRuns 10

/-- Role 12, the bonding monitor. -/
def State.bondingRole (s : State) : Bool := s.roleRuns 17

/-! ## Stamps of 1/256 ns -/

/-- The signed difference of two 40-bit stamps. -/
def stampDiff (a b : Nat) : Int := sgn 40 (unsgn 40 ((a : Int) - b))

/-- A 40-bit stamp in 1/256 ns since power-on. -/
def State.sinceOn (s : State) (t : Nat) : Int := (s.ns64 * 256 : Nat) + stampDiff t s.stamp40

/-- A 40-bit stamp in nanoseconds since power-on. -/
def State.nsOf (s : State) (t : Nat) : Nat := (s.sinceOn t / 256).toNat

/-! ## Vendor messages (R192, R193) -/

/-- Queue an upstream PLOAM message. -/
def State.sendUp (s : State) (m : UpMsg) : State := { s with fib := { s.fib with up := s.fib.up ++ [m] } }

/-- Queue a vendor message; while TYPE = 0x00 the terminal sends none (R192). -/
def State.sendVendor (s : State) (sub : Nat) (body : List Byte) : State :=
  if s.rd Fld.TC_VPLOAM_CTRL_TYPE = 0 then s else s.sendUp (.vendor sub body)

/-- With TYPE = 0x00 the terminal sends no vendor message (R192): those that wait are dropped, and in a burst that has not started an
Acknowledgement that nothing waits takes the place of one (R188). -/
def State.vendorSilent (s : State) : State :=
  let ours := fun (m : UpMsg) => match m with
    | .vendor _ _ => true
    | _ => false
  let other := fun (m : UpMsg) => if ours m then (if s.ploamRole then some (.ack (Config.ackCode 3)) else none) else some m
  { s with fib := { s.fib with
      up := s.fib.up.filter (fun m => !ours m)
      bursts := s.fib.bursts.map (fun (b : Burst) => if b.started then b else { b with msgs := b.msgs.filterMap other }) } }

/-- A list brought to a length: cut, or filled with zeros. -/
def fitBytes (n : Nat) (l : List Byte) : List Byte := (l ++ List.replicate n 0).take n

/-- The type and the 36 bytes of content of an upstream message (R182, R187, R188, R192); what this specification leaves to G.9804.2 is of
Config. (log 59, DEDUCED) -/
def State.upContent (s : State) (m : UpMsg) : Byte × List Byte :=
  match m with
  | .serialNumber vendor serial delay =>
    (Config.upType 0, beBytes vendor.toNat 4 ++ beBytes serial.toNat 4 ++ Config.upContent 0 [delay.toNat])
  | .registration id => (Config.upType 1, id)
  | .ack code => (Config.upType 2, Config.upContent 2 [code])
  | .keyReport ws => (Config.upType 3, Config.upContent 3 (ws.map fun w => w.toNat))
  | .sleepRequest mode => (Config.upType 4, Config.upContent 4 [mode])
  | .vendor sub body => (BitVec.ofNat 8 (s.rd Fld.TC_VPLOAM_CTRL_TYPE), [0xDE, 0x7A, BitVec.ofNat 8 sub, 1] ++ body)

/-- The 48 bytes of an upstream PLOAM message: ONU-ID (0x3FF while none is assigned), type, sequence number, content and MIC (R182, R189,
R192). (log 59, DEDUCED) (log 62, PRESUMED) -/
def State.upBytes (s : State) (m : UpMsg) (n : Nat) : List Byte :=
  let c := s.upContent m
  let id := if s.on Fld.TC_ACT_STATUS_IDVALID then s.rd Fld.TC_ACT_STATUS_ONUID else 0x3FF
  let b := beBytes id 2 ++ [c.1, Config.upSeq n] ++ fitBytes 36 c.2
  b ++ fitBytes 8 (Config.upMic (if s.keyv 1020 then some (s.cxKey 1020).key else none) b)

/-- Send a response that is no granted burst: a Serial_Number_ONU, or a Registration in a ranging grant (R177, R203). -/
def State.respond (s : State) (uc ch t : Nat) (m : UpMsg) : State :=
  { s with fib := { s.fib with upSent := s.fib.upSent + 1, respAt := Tab.set s.fib.respAt none uc (some (s.nsOf t)) } }.emit
    (.response uc ch t (s.upBytes m s.fib.upSent))

/-- A message that G.9804.2 has acknowledged is, by role 3 (R188). -/
def State.acknowledge (s : State) (kind result : Nat) : State :=
  match (if s.ploamRole then Config.ackDone kind result else none) with
  | some c => s.sendUp (.ack c)
  | none => s

/-- The content of Membership after MSEQ (R193). -/
def State.memberBody (s : State) : List Byte :=
  [BitVec.ofNat 8 (maskOf s.isMember + s.refChan * 16),
   BitVec.ofNat 8 (maskOf (fun n => s.on Fld.TC_DSC_STATUS_SD n) + maskOf (fun n => s.on Fld.TC_DSC_STATUS_SF n) * 16),
   BitVec.ofNat 8 (s.rd Fld.TC_US_MODE_WORKING)]

/-- Send Membership with the present content (R195). -/
def State.sendMember (s : State) : State :=
  { s with fib := { s.fib with memberAt := s.ns64 } }.sendVendor 0x82 (beBytes s.fib.mseq 2 ++ s.memberBody)

/-- The bonding monitor sends Membership where its body would change (R195): MSEQ is incremented for new content. `force`: at BondSet. -/
def State.tellMember (s : State) (force : Bool := false) : State :=
  if !s.fib.bondSet || !s.bondingRole then s
  else
    let b := s.memberBody
    if s.fib.member = some b then
      (if force then { s with fib := { s.fib with mtries := 0, macked := false } }.sendMember else s)
    else
      { s with fib := { s.fib with member := some b, mseq := (s.fib.mseq + 1) % 65536, mtries := 0, macked := false } }.sendMember

/-! ## Line time -/

/-- The time of `n` bytes at an upstream rate, in 1/256 ns: 24.8832 or 49.7664 Gb/s. -/
def upTime (fast : Bool) (n : Nat) : Nat := n * 20480000 / (if fast then 497664 else 248832)

/-- The bytes that leave in a time of 1/256 ns. -/
def upBytes (fast : Bool) (t : Nat) : Nat := t * (if fast then 497664 else 248832) / 20480000

/-! ## The times of bursts (R197, R200, R236) -/

/-- The start of the upstream frame of a superframe counter on a UC against the PSBd of a channel, with an EqD (R197). -/
def State.upFrameAt (s : State) (ch uc sfc eqd : Nat) : Option Nat :=
  match (s.chan ch).psbd with
  | none => none
  | some (k, ts) =>
    some (unsgn 40 ((ts : Int) + ((sfc : Int) - k) * 32000000 + (Config.responseTime s.boot.calibBad ch uc : Nat) + (eqd : Nat)))

/-- The start of the upstream frame of a superframe counter on a UC (R197, R228): with the EqD and the reference in force, unless it lies
within 125 µs of the delivery of the frame that changed them, when the former ones still apply (R200). -/
def State.frameStart (s : State) (uc sfc : Nat) : Option Nat :=
  match s.upFrameAt s.refChan uc sfc (s.rd Fld.TC_RNG_EQD_EQD 0 uc) with
  | none => none
  | some t =>
    match (s.fib.eqdPast.filter (fun x => x.uc = uc && decide (s.sinceOn t < ((x.till + 125000) * 256 : Nat)))).getLast? with
    | none => some t
    | some x => x.eqd.bind (s.upFrameAt x.ref uc sfc)

/-- The bandwidth-map role declares the start of staging of the earliest burst that is not staged (R236). -/
def State.declareBursts (s : State) : State :=
  if !s.roleRuns 13 then s
  else
    let l := (s.fib.bursts.filter (fun b => !b.staged)).map fun b => stampDiff b.t s.stamp40 - 5120000
    let next := match l with
      | [] => none
      | x :: r => some (BitVec.ofInt 32 ((s.stamp40 + r.foldl min x) / 256))
    (s.setCtx 13 { s.ctx 13 with pnext := next }).settle

/-- The scheduled bursts of a UC that are not staged follow a new delay or reference (R200); one whose frame starts too soon for it keeps its time. -/
def State.retime (s : State) (m : Nat) : State :=
  let move := fun (b : Burst) =>
    if b.staged || b.uc ≠ m then b
    else match s.frameStart m b.sfc with
      | none => b
      | some base => { b with base := base, t := unsgn 40 ((b.t : Int) + stampDiff base b.base) }
  { s with fib := { s.fib with bursts := s.fib.bursts.map move } }.declareBursts

/-! ## Bursts that are cut (R241, R448) -/

/-- Put a packet into a queue by its place in the order of all admissions. -/
def insertSeq (p : Packet) : List Packet → List Packet
  | [] => [p]
  | h :: r => if p.seq < h.seq then p :: h :: r else h :: insertSeq p r

/-- A frame goes back to its place at the head of its queue (R241), whose DEPTH it raises (R458), and its cost to its shapers. -/
def State.giveBack (s : State) (q : Nat) (p : Packet) : State :=
  let s1 := s.setQueue q (insertSeq p (s.queue q))
  (s1.setQstat q { s1.qstat q with maxDepth := max (s1.qstat q).maxDepth (s1.depth q) }).refundQueue q p.len

/-- The frame of a piece. -/
def samePacket (x y : Piece) : Bool := x.q == y.q && x.pkt == y.pkt

/-- The frames, by one piece of each, that pieces of a burst leave without their last byte when `gone` 1/256 ns have passed since T. -/
def lostPieces (gone : Option Nat) (l : List Piece) : List Piece :=
  let lost := fun (x : Piece) => match gone with
    | some g => decide (g < x.stop)
    | none => true
  (l.filter lost).foldr (fun x r => if r.any (samePacket x) then r else x :: r) []

/-- Pieces of a burst that are sent as idle XGEM frames in their place (R244). -/
def Burst.blank (b : Burst) (gone : Piece → Bool) : Burst :=
  { b with pieces := b.pieces.filter (fun y => !gone y), idle := b.idle ++ (b.pieces.filter gone).map (fun y => (y.lead, 8 + y.bytes.length)) }

/-- The frame of a piece is no longer one that waits for another grant (R242): it has been sent, or it returned. -/
def State.fragDone (s : State) (x : Piece) : State :=
  match Tab.get s.fib.partials none x.q with
  | some r => if r.pkt = x.pkt then { s with fib := { s.fib with partials := Tab.set s.fib.partials none x.q none } } else s
  | none => s

/-- A frame that was lost returns to its queue: the bursts that have not started carry it no more. Of one that is on the line, what it has carried
of the frame has been sent; a frame returns once. -/
def State.frameBack (s : State) (x : Piece) : State :=
  if (s.queue x.q).contains x.pkt then s
  else
    let s1 := { s with fib := { s.fib with bursts := s.fib.bursts.map (fun (b : Burst) => if b.started then b else b.blank (samePacket x)) } }
    (s1.fragDone x).giveBack x.q x.pkt

/-- What a burst that is cut has sent when `gone` 1/256 ns have passed since T: its SDU bytes and its idle bytes. -/
def Burst.sentBy (b : Burst) (gone : Option Nat) : Nat × Nat :=
  match gone with
  | none => (0, 0)
  | some g =>
    ((b.pieces.filter (fun x => decide (x.stop ≤ g))).foldl (fun n x => n + x.bytes.length) 0,
     b.idle.foldl (fun n e => n + min e.2 (upBytes b.fast (g - e.1))) 0)

/-- A burst is cut or not sent (R241): the frames whose last byte it did not carry return in their original order, and the others are freed;
what it has sent is counted, and the role of bandwidth maps declares the next burst instead (R236). (log 65, DESIGN CHOICE) -/
def State.cutBurst (s : State) (b : Burst) : State :=
  let gone := if b.started then some (unsgn 40 ((s.stamp40 : Int) - b.t)) else none
  let gone1 := match gone with
    | some g => if g < 2 ^ 39 then some g else some 0
    | none => none
  let lost := (lostPieces gone1 b.pieces).filter fun x => !(s.queue x.q).contains x.pkt
  let up := if b.started then s.fib.up else b.msgs ++ s.fib.up
  let s1 := { s with fib := { s.fib with bursts := s.fib.bursts.filter (· ≠ b), up := up } }
  let s2 := lost.foldr (fun x t => t.frameBack x) s1
  let s3 := (b.pieces.filter (fun x => x.last && !(lostPieces gone1 b.pieces).any (samePacket x))).foldl
    (fun t x => (t.fragDone x).freePacket x.pkt) s2
  let n := b.sentBy gone1
  ((((s3.count Fld.TC_USC_BYTES_COUNT b.uc 0 n.1).count Fld.TC_USC_IDLE_BYTES b.uc 0 n.2).count Fld.TC_USC_CUT_BURSTS b.uc).count
    Fld.TC_USC_CUT_FRAMES b.uc 0 lost.length).declareBursts

/-- Every scheduled burst of a UC is cut, and the frames that wait for another grant on it return (R242). -/
def State.cutUc (s : State) (m : Nat) : State :=
  let s1 := (s.fib.bursts.filter (fun b => b.uc = m)).foldr (fun b t => t.cutBurst b) s
  s1.fib.partials.foldl (fun t e => match e.2 with
    | some r => if r.uc = m then
        (({ t with fib := { t.fib with partials := Tab.set t.fib.partials none e.1 none } }).giveBack e.1 r.pkt).count Fld.TC_USC_CUT_FRAMES m
      else t
    | none => t) s1

/-! ## The working channels (R227, R228) -/

/-- The first condition of R227 that fails for UCm, in the order of its list. -/
def State.ucFails (s : State) (m : Nat) : Option Nat :=
  if s.act ≠ 5 then some 0
  else if !(List.range 4).any (fun n => s.on Fld.TC_USC_PROF_VALID m n) then some 1
  else if !s.eqdValid m then some 2
  else if s.tripped m then some 3
  else if m = 1 ∧ !(s.uc1Use && s.bonded) then some 4
  else none

/-- The map channel of UC1 (R228): the lowest member other than the reference, while UC1 is in use. -/
def State.mapFollow (s : State) : State :=
  match (if s.bonded && s.uc1Use then s.members.find? (· ≠ s.refChan) else none) with
  | some n => (s.wr Fld.TC_US_MODE_MAPCH n).flag Fld.TC_US_MODE_MAPV true
  | none => s.flag Fld.TC_US_MODE_MAPV false

/-- One UC's place in the working set follows R227. -/
def State.ucFollow (s : State) (m : Nat) : State :=
  let set := fun (t : State) (b : Bool) => t.wr Fld.TC_US_MODE_WORKING (putBits (t.rd Fld.TC_US_MODE_WORKING) m 1 (b2n b))
  match s.ucFails m with
  | some k => if s.working m then ((set s false).raise 162 [(8, m), (16, Config.recordCode 162 k)]).cutUc m else s
  | none => if s.working m then s else (set s true).raise 163 [(8, m)]

/-- The working set follows R227, and Membership reports it. -/
def State.workingFollow (s : State) : State := ((s.ucFollow 0).ucFollow 1).mapFollow.tellMember

/-! ## Grant-loss hold (R250, R251) -/

/-- A hold trigger for an allocation (R250): 0 entry to O6 or O7, 1 DETECT, 2 FORCE.START. It is a local wake (R511). -/
def State.holdTrigger (s : State) (kind a : Nat) : State :=
  let go := fun (t : State) =>
    ({ (t.setHold a 2) with tm := { (t.setHold a 2).tm with holdTimes := Tab.set t.tm.holdTimes (0, 0) a (t.ns64, 0) } }.raise 181
      [(16, a), (8, Config.recordCode 181 kind)]).holdReport a 181
  let s1 := s.localWake 2
  if (s1.holdState a = 1 ∧ s1.on Fld.TM_HOLD_CTRL_EN) ∨ s1.holdState a = 3 then go s1 else s1

/-- Entry to O6 or O7 is a hold trigger of every allocation that is armed or draining, in allocation order. -/
def State.holdAll (s : State) : State :=
  (List.range 512).foldl (fun t a => if t.holdState a = 1 ∨ t.holdState a = 3 then t.holdTrigger 0 a else t) s

/-- The hold-drain queue is discarded and counted (R250). -/
def State.holdDiscard (s : State) (a ev : Nat) : State :=
  let l := s.queue (3344 + a)
  let n := l.foldl (fun k p => k + p.len) 0
  let s0 := (s.setQueue (3344 + a) []).setQstat (3344 + a) { s.qstat (3344 + a) with deficit := 0 }
  let s1 := l.foldl (fun t p => t.discard p) s0
  ((((s1.count Fld.TM_HOLD_EXPIRED_BYTES 0 0 n).setHold a 1).raise ev [(16, a), (32, n)]).holdReport a ev).armFollow a

/-- A burst that carries a holding allocation ends (R250): the drain shaper's credit becomes zero. -/
def State.drainStart (s : State) (a : Nat) : State :=
  if s.holdState a ≠ 2 then s
  else
    let q := 3344 + a
    let t := Tab.get s.tm.holdTimes (0, 0) a
    let s1 := s.setShaper q { s.drainShaper a with credit := 0, last := s.ns64 }
    let s2 := { (s1.setHold a 3) with tm := { (s1.setHold a 3).tm with holdTimes := Tab.set s.tm.holdTimes (0, 0) a (t.1, s.ns64) } }
    (s2.raise 182 [(16, a), (32, s2.depth q)]).holdEnd a

/-! ## Delivery into Sieve (R172, R29) -/

/-- An SDU is passed to Sieve. What Sieve does not take yet stays where it is: an SDU that a group had held in the reorder partition, where it
still counts (R165), any other in the boundary store of its channel, whose frames are discarded when that is full (R29). -/
def State.toSieve (s : State) (p : Packet) : State :=
  (({ s with sv := { s.sv with rx := Tab.upd s.sv.rx [] 144 (· ++ [p]) } }).heldFollow p).wakePath

/-- A group passes on an SDU that it held. -/
def State.sieveHeld (s : State) (g : Nat) (h : HeldSdu) : State := s.toSieve { h.pkt with grp := some g }

/-! ## Reordering (R158 to R165) -/

/-- A reorder group. -/
def State.group (s : State) (g : Nat) : Reorder := Tab.get s.fib.groups {} g

/-- Replace a reorder group; HELD follows its bytes. -/
def State.setGroup (s : State) (g : Nat) (x : Reorder) : State :=
  let s1 := { s with fib := { s.fib with groups := Tab.set s.fib.groups {} g x } }
  s1.wr Fld.TC_DS_GRP_HELD_BYTES (s1.groupBytes g) g

/-- EXPECT of a group. -/
def State.expect (s : State) (g : Nat) : Nat := s.rd Fld.TC_DS_GRP_EXPECT_EXPECT g

/-- Set EXPECT, which becomes valid. -/
def State.setExpect (s : State) (g b : Nat) : State :=
  (s.wr Fld.TC_DS_GRP_EXPECT_EXPECT (b % 2 ^ 24) g).flag Fld.TC_DS_GRP_EXPECT_EVALID true g

/-- How far a BSN is ahead of another, modulo 2²⁴ (R158). -/
def ahead (b e : Nat) : Nat := (b + 2 ^ 24 - e % 2 ^ 24) % 2 ^ 24

/-- Release held SDUs while the next one equals EXPECT. -/
def drainGroup (g : Nat) : List HeldSdu → State → State
  | [], s => s.setGroup g { s.group g with held := [] }
  | h :: r, s =>
    if h.bsn = s.expect g then drainGroup g r (((s.setGroup g { s.group g with held := r }).setExpect g (s.expect g + 1)).sieveHeld g h)
    else s.setGroup g { s.group g with held := h :: r }

/-- Release every held SDU in BSN order and count the gaps in SKIPPASS (R159, R162, R171); `void`: EXPECT becomes not valid. (log 61, DEDUCED) -/
def State.releaseGroup (s : State) (g : Nat) (void : Bool) : State :=
  let l := (s.group g).held
  let s1 := match l.getLast? with
    | none => s
    | some z =>
      let gaps := ahead z.bsn (s.expect g) + 1 - l.length
      let s2 := (s.count Fld.TC_DS_GRP_SKIPPASS_COUNT g 0 gaps).setGroup g { s.group g with held := [] }
      (l.foldl (fun t h => t.sieveHeld g h) s2).setExpect g (z.bsn + 1)
  if void then (s1.flag Fld.TC_DS_GRP_EXPECT_EVALID false g).setGroup g { s1.group g with seen := [] } else s1

/-- Skip `k` missing BSNs, counted in a register (R160): 0 timeout, 1 passed, 2 cap. (log 61, DEDUCED) -/
def State.skip (s : State) (g k : Nat) (why : Nat) : State :=
  let s1 := match why with
    | 0 => (s.count Fld.TC_DS_GRP_SKIPTO_COUNT g 0 k).raiseMany 136 k [(8, g)] g
    | 1 => s.count Fld.TC_DS_GRP_SKIPPASS_COUNT g 0 k
    | _ => (s.count Fld.TC_DS_GRP_OVF_COUNT g 0 k).raiseMany 137 k [(8, g)] g
  let s2 := s1.setExpect g (s1.expect g + k)
  drainGroup g (s2.group g).held s2

/-- How many BSNs from EXPECT on every member has gone past (R160). -/
def State.passedBy (s : State) (g : Nat) : Nat :=
  let far := fun n => match Tab.get (s.group g).seen 0 n with
    | 0 => 0
    | b => let d := ahead (b - 1) (s.expect g); if d < 2 ^ 23 then d else 0
  match s.members with
  | [] => 0
  | n :: r => r.foldl (fun a k => min a (far k)) (far n)

/-- The passed rule, as often as it applies: each turn drains a held SDU or ends. -/
def settleGroup (g : Nat) : Nat → State → State
  | 0, s => s
  | n + 1, s =>
    match (s.group g).held with
    | [] => s
    | h :: _ =>
      let k := min (ahead h.bsn (s.expect g)) (s.passedBy g)
      if k = 0 then s else settleGroup g n (s.skip g k 1)

/-- Apply the passed rule to a group. -/
def State.settleOne (s : State) (g : Nat) : State := settleGroup g ((s.group g).held.length + 1) s

/-- Put an SDU among the held ones, in BSN order from EXPECT. -/
def insertHeld (e : Nat) (x : HeldSdu) : List HeldSdu → List HeldSdu
  | [] => [x]
  | h :: r => if ahead x.bsn e < ahead h.bsn e then x :: h :: r else h :: insertHeld e x r

/-- An SDU meets its group (R159, R160): released, held, discarded, or resynchronising the group; at a resynchronisation the numbers between the last
held SDU and the new one are not counted (log 112, DESIGN CHOICE). Against the cap count the SDUs held and the `wait` bytes that Sieve had not taken
when it came (R165); what a skip releases leaves room. A group without a member holds nothing (R162): every channel that is a
member has then passed the missing numbers. Each turn of the cap rule drains held SDUs or reaches the SDU itself. -/
def placeSdu (g : Nat) (x : HeldSdu) (wait : Nat) : Nat → State → State
  | 0, s => s
  | n + 1, s =>
    let d := ahead x.bsn (s.expect g)
    let l := (s.group g).held
    if d = 0 then
      let s1 := (s.setExpect g (x.bsn + 1)).toSieve x.pkt
      drainGroup g l s1
    else if 2 ^ 23 ≤ d ∨ l.any (fun h => h.bsn = x.bsn) then s.count Fld.TC_DS_GRP_LATE_COUNT g
    else if 131071 < d then ((s.releaseGroup g false).setExpect g (x.bsn + 1)).toSieve x.pkt
    else if s.members.isEmpty then placeSdu g x wait n (s.skip g d 1)
    else if s.rd Fld.TC_DS_GRP_CTRL_CAP g * 65536 < wait + l.foldl (fun a h => a + h.pkt.len) 0 + x.pkt.len then
      let k := match l with
        | [] => d
        | h :: _ => min d (ahead h.bsn (s.expect g))
      placeSdu g x wait n (s.skip g k 2)
    else ((s.setGroup g { s.group g with held := insertHeld (s.expect g) x l }).wakeFor 6).wakeFor 7

/-- An SDU arrives for a group on a channel (R159, R160, R162). -/
def State.reorder (s : State) (g ch bsn : Nat) (p : Packet) : State :=
  let s1 := s.setGroup g { s.group g with seen := Tab.set (s.group g).seen 0 ch (bsn + 1) }
  let s2 := if s1.on Fld.TC_DS_GRP_EXPECT_EVALID g then s1 else s1.setExpect g bsn
  let wait := s2.groupBytes g - (s2.group g).held.foldl (fun a h => a + h.pkt.len) 0
  (placeSdu g { bsn := bsn, pkt := p, since := s2.ns } wait ((s2.group g).held.length + 2) s2).settleOne g

/-! ## Membership of a channel (R166, R167, R201) -/

/-- Set or clear membership; MEMBERS follows. -/
def State.setMember (s : State) (n : Nat) (b : Bool) : State :=
  (s.flag Fld.TC_DSC_STATUS_MEMBER b n).wr Fld.TC_DS_MODE_MEMBERS (putBits (s.rd Fld.TC_DS_MODE_MEMBERS) n 1 (b2n b))

/-- The round trip of a pair, where valid. -/
def State.pairRt (s : State) (n m : Nat) : Option Nat :=
  if s.on Fld.TC_PAIR_RT_VALID 0 (2 * n + m) then some (s.rd Fld.TC_PAIR_RT_RT 0 (2 * n + m)) else none

/-- A member qualifies as the new reference (R201). -/
def State.qualifies (s : State) (n : Nat) : Bool :=
  (List.range 2).all fun m => !s.eqdValid m || ((s.pairRt s.refChan m).isSome && (s.pairRt n m).isSome)

/-- What was in force for a UC until now is kept for the upstream frames of the next 125 µs (R200). -/
def State.keepEqd (s : State) (m : Nat) : State :=
  let x : EqdPast := { uc := m, till := s.ns64, eqd := if s.eqdValid m then some (s.rd Fld.TC_RNG_EQD_EQD 0 m) else none, ref := s.refChan }
  { s with fib := { s.fib with eqdPast := x :: s.fib.eqdPast.filter (fun y => s.ns64 < y.till + 1000000) } }

/-- Put the EqD of a UC (R198, R200). -/
def State.putEqd (s : State) (m v : Nat) : State :=
  (((s.wr Fld.TC_RNG_EQD_EQD v 0 m).flag Fld.TC_RNG_EQD_VALID true 0 m).raise 146 [(8, m), (32, v)]).retime m

/-- Set the EqD of a UC (R198, R200). -/
def State.setEqd (s : State) (m v : Nat) : State := (s.keepEqd m).putEqd m v

/-- A write of TC_RNG_EQD (R198, R200, R219): in compatible mode the EqD of UC1 does not become valid. -/
def State.eqdWrite (s : State) (m v : Nat) : State :=
  if bit v 31 && (m = 0 || s.bonded) then s.setEqd m (bits v 0 31)
  else (((s.keepEqd m).wr Fld.TC_RNG_EQD_EQD v 0 m).flag Fld.TC_RNG_EQD_VALID false 0 m).retime m

/-- The reference becomes channel `n` (R201). -/
def State.moveRef (s : State) (n : Nat) : State :=
  let r := s.refChan
  let s1 := ((((s.keepEqd 0).keepEqd 1).wr Fld.TC_ACT_STATUS_REF n).raise 155 [(8, r), (8, n)])
  (List.range 2).foldl (fun t m =>
    if t.eqdValid m then
      t.putEqd m (unsgn 31 ((t.rd Fld.TC_RNG_EQD_EQD 0 m : Int) + ((s.pairRt r m).getD 0 : Nat) - ((s.pairRt n m).getD 0 : Nat)))
    else t.retime m) s1

/-- The ranging role asks for UC1 against the reference (R199). -/
def State.asksUc1 (s : State) : Bool :=
  s.act = 5 && s.on Fld.TC_VPLOAM_CTRL_BONDAG && s.uc1Use && !s.tripped 1 && !s.eqdValid 1

/-- PairRequest (R199, R202): the pairs that the ranging role asks for now. -/
def State.pairMask (s : State) : Nat :=
  let asym := if s.on Fld.TC_VPLOAM_CTRL_ASYMAG then
      s.members.foldl (fun a n => (List.range 2).foldl (fun b m => if s.working m then b ||| 2 ^ (2 * n + m) else b) a) 0
    else 0
  if s.act ≠ 5 then 0 else asym ||| (if s.asksUc1 then 2 ^ (2 * s.refChan + 1) else 0)

/-- The ranging role sends PairRequest, in place of one not yet satisfied; nothing is asked for where the mask is empty. -/
def State.pairRequest (s : State) : State :=
  let k := s.pairMask
  if k = 0 || !s.rangingRole then s else { s with fib := { s.fib with pairWant := k, pairGot := 0, pairAt := s.ns64 } }.sendVendor 0x83 [BitVec.ofNat 8 k]

/-- A channel becomes a member (R166, R167). -/
def State.joinMember (s : State) (n : Nat) : State :=
  let s1 := (s.setMember n true).raise 135 [(8, n)]
  let s2 := (List.range 4).foldl State.settleOne s1
  let s3 := s2.mapFollow.tellMember
  if s3.on Fld.TC_VPLOAM_CTRL_ASYMAG then s3.pairRequest else s3

/-- A channel leaves the group (R162, R166, R201). -/
def State.leaveMember (s : State) (n : Nat) : State :=
  if !s.isMember n then s
  else
    let s1 := (s.setMember n false).raise 134 [(8, n)]
    let s2 := if s1.members.isEmpty then (List.range 4).foldl (fun t g => t.releaseGroup g true) s1
      else (List.range 4).foldl State.settleOne s1
    let s3 := if n = s2.refChan then
        match s2.members.find? s2.qualifies with
        | some k => s2.moveRef k
        | none => s2
      else s2
    s3.mapFollow.tellMember

/-! ## Receivers that are turned off (R171) -/

/-- Turn the receiver of a channel off: it enters Frozen and keeps its membership. -/
def State.receiverOff (s : State) (n : Nat) : State :=
  let clr := fun (t : State) (f : Fld) => t.wr f (putBits (t.rd f) n 1 0)
  let s1 := clr (clr (clr s Fld.OP_DS_STATUS_RXON) Fld.OP_DS_STATUS_SETTLED) Fld.OP_DS_STATUS_LOS
  ((s1.setChan n { s1.chan n with run := 0, win := [], grace := false }).setSync n 4).flag
    Fld.OP_DS_POWER_VALID false 0 n

/-- Role 14 turns the receiver of one channel off: each group releases what it holds and keeps EXPECT. -/
def State.receiverSleep (s : State) (n : Nat) : State :=
  ((List.range 4).foldl (fun t g => t.releaseGroup g false) s).receiverOff n

/-- Role 14 turns the receivers of every channel in use off. -/
def State.receiversOff (s : State) : State :=
  let s1 := (List.range 4).foldl (fun t g => t.releaseGroup g false) s
  (List.range 4).foldl (fun t n => if bit (t.rd Fld.OP_DS_STATUS_RXON) n then t.receiverOff n else t) s1

end Sys2Proof.Machine
end

