-- ==== Sys2Proof/Machine/Asym.lean ====
section
/-! DEFINITION. The asymmetry fit (R206 to R210), in fixed-point numbers of 96 fraction bits: the manual states the arithmetic and no
precision. -/
namespace Sys2Proof.Machine

/-- One, in fixed point. -/
def fxOne : Int := (2 ^ 96 : Nat)

/-- A decimal fraction n/d in fixed point. (log 31, DESIGN CHOICE) -/
def fx (n d : Int) : Int := n * fxOne / d

/-- Product. (log 31, DESIGN CHOICE) -/
def fxMul (a b : Int) : Int := a * b / fxOne

/-- Quotient. (log 31, DESIGN CHOICE) -/
def fxDiv (a b : Int) : Int := if b = 0 then 0 else a * fxOne / b

/-- Sum of a list. -/
def fxSum (l : List Int) : Int := l.foldl (· + ·) 0

/-- Rounded to the nearest whole number after a multiplication. (log 31, DESIGN CHOICE) -/
def fxRound (a : Int) (k : Int) : Int := (a * k * 2 + fxOne) / (2 * fxOne)

/-- The grid wavelength of DCn, nm. -/
def dcLambda (n : Nat) : Int := fx (13420 + 25 * n) 10

/-- The wavelength of UCm's transmitter, nm: calibrated, or of the default coefficients (R118, R206). -/
def State.ucLambda (s : State) (m : Nat) : Int := fx (Config.ucLambda s.boot.calibBad m) 10000

/-- g of R206, nm. -/
def fitG (lam l0 : Int) : Int := fxDiv (fxMul lam lam - fxMul l0 l0) lam

/-- f of R206, nm². -/
def fitF (lam l0 : Int) : Int := fxMul (fitG lam l0) (fitG lam l0)

/-- A pair that enters the fit: n, the wavelength of its UC in nm, and r in ns. -/
structure FitPair where
  n : Nat
  up : Int
  r : Int
deriving DecidableEq, Repr

/-- The numbers that the fit looks for, and how it went. -/
structure Fit where
  c : Int
  p : Int
  l0 : Int
  it : Nat := 0
  done : Bool := false
deriving DecidableEq, Repr

/-- sf of a pair. -/
def FitPair.sf (x : FitPair) (l0 : Int) : Int := fitF (dcLambda x.n) l0 + fitF x.up l0

/-- dsf of a pair. -/
def FitPair.dsf (x : FitPair) (l0 : Int) : Int :=
  -4 * fxMul l0 (fxDiv (fitG (dcLambda x.n) l0) (dcLambda x.n) + fxDiv (fitG x.up l0) x.up)

/-- The starting point: `l0` in 0.01 nm, `s0` in 10⁻⁵ ps/(nm²·km). -/
def fitStart (l : List FitPair) (l0 s0 : Nat) : Fit :=
  let k : Int := l.length
  let z := fx l0 100
  let mean := if k = 0 then 0 else fxSum (l.map (fun x => x.r)) / k
  let len := fxDiv mean (2 * fx 48957 10)
  let p := fxMul len (fx s0 100000) / 8
  let c := if k = 0 then 0 else fxSum (l.map (fun x => x.r - fxMul p (x.sf z) / 1000)) / k
  { c := c, p := p, l0 := z }

/-- The determinant of a symmetric 3 × 3 matrix whose columns may have been replaced. -/
def det3 (a b c d e f g h i : Int) : Int :=
  fxMul a (fxMul e i - fxMul f h) - fxMul b (fxMul d i - fxMul f g) + fxMul c (fxMul d h - fxMul e g)

/-- One iteration: the least-squares step, and whether it was small enough to end. -/
def Fit.step (l : List FitPair) (w : Fit) : Fit :=
  let rows := l.map fun x =>
    let u := x.sf w.l0 / 1000
    let v := fxMul w.p (x.dsf w.l0) / 1000
    (u, v, x.r - (w.c + fxMul w.p u))
  let s := fun (f : Int × Int × Int → Int) => fxSum (rows.map f)
  let a11 := fx l.length 1
  let a12 := s (fun x => x.1)
  let a13 := s (fun x => x.2.1)
  let a22 := s (fun x => fxMul x.1 x.1)
  let a23 := s (fun x => fxMul x.1 x.2.1)
  let a33 := s (fun x => fxMul x.2.1 x.2.1)
  let b1 := s (fun x => x.2.2)
  let b2 := s (fun x => fxMul x.1 x.2.2)
  let b3 := s (fun x => fxMul x.2.1 x.2.2)
  let d := det3 a11 a12 a13 a12 a22 a23 a13 a23 a33
  let d0 := fxDiv (det3 b1 a12 a13 b2 a22 a23 b3 a23 a33) d
  let d1 := fxDiv (det3 a11 b1 a13 a12 b2 a23 a13 b3 a33) d
  let d2 := fxDiv (det3 a11 a12 b1 a12 a22 b2 a13 a23 b3) d
  { c := w.c + d0, p := w.p + d1, l0 := w.l0 + d2, it := w.it + 1
    done := d ≠ 0 && decide (d2.natAbs < (fx 1 100).natAbs) && decide (d1.natAbs < (fx 1 100000).natAbs) }

/-- At most 8 iterations; one more stands for a fit that did not end. (log 31, DESIGN CHOICE) -/
def fitLoop (l : List FitPair) : Nat → Fit → Fit
  | 0, w => { w with it := w.it + 1 }
  | n + 1, w => let v := w.step l; if v.done then v else fitLoop l n v

/-- The mean square residual, ns². -/
def Fit.ms (l : List FitPair) (w : Fit) : Int :=
  fxSum (l.map fun x => let e := x.r - (w.c + fxMul w.p (x.sf w.l0) / 1000); fxMul e e) / (l.length : Int)

/-- The RMS in whole ps, saturating at 255. -/
def rmsPs (ms : Int) : Nat :=
  (List.range 256).foldl (fun (a k : Nat) => if fx ((2 * (k : Int) - 1) * (2 * (k : Int) - 1)) 4000000 ≤ ms ∧ 0 < k then k else a) 0

/-- The fit is accepted. -/
def Fit.accepted (l : List FitPair) (w : Fit) : Bool :=
  decide (w.it ≤ 8) && decide (w.ms l ≤ fx 25 10000) && decide (fx 1290 1 ≤ w.l0) && decide (w.l0 ≤ fx 1340 1) && decide (0 < w.p)

/-- The one-way delay at a wavelength, in 1/256 ns. -/
def Fit.delay (w : Fit) (lam : Int) : Nat := unsgn 40 (fxRound (w.c / 2 + fxMul w.p (fitF lam w.l0) / 1000) 256)

/-- A new result (R210): `mask` the pairs used. REJECTED tells of the last fit, which a programmed result is not (R219). -/
def State.asymResult (s : State) (w : Fit) (prog : Bool) (mask rms : Nat) : State :=
  let s1 := (s.wr Fld.TT_ASYM_FIT_L0 (unsgn 18 (fxRound w.l0 100))).wr Fld.TT_ASYM_FIT_P (unsgn 16 (fxRound w.p 10000))
  let s2 := (List.range 4).foldl (fun t n => t.wr Fld.TT_ASYM_DS_DELAY (w.delay (dcLambda n)) 0 n) s1
  let s3 := (List.range 2).foldl (fun t m => t.wr Fld.TT_ASYM_US_DELAY (w.delay (s.ucLambda m)) 0 m) s2
  let s4 := ((s3.flag Fld.TT_ASYM_STAT_PROG prog).wr Fld.TT_ASYM_STAT_PAIRS mask).wr Fld.TT_ASYM_STAT_RMS rms
  (if prog then s4 else s4.flag Fld.TT_ASYM_STAT_REJECTED false).completeSlot .TT_ASYM_STAT Fld.TT_ASYM_STAT_SEQ

/-- A result is in force. (log 68, DEDUCED) -/
def State.asymInForce (s : State) : Bool := !s.on Fld.TT_ASYM_STAT_NOTREADY

/-- A pair's round trip, where it is valid. -/
def State.pairTrip (s : State) (n m : Nat) : Option FitPair :=
  let k := 2 * n + m
  if s.on Fld.TC_PAIR_RT_VALID 0 k then some { n := n, up := s.ucLambda m, r := fx (s.rd Fld.TC_PAIR_RT_RT 0 k) 256 } else none

/-- A pair's round trip, where it may enter the fit (R206). -/
def State.fitPair (s : State) (n m : Nat) : Option FitPair :=
  if s.on Fld.TC_PAIR_RT_TSV 0 (2 * n + m) then s.pairTrip n m else none

/-- The programmed fibre model (R207): a result, where the pair of the reference and UC0 is valid. -/
def State.asymProgrammed (s : State) : State :=
  match (if s.roleRuns 11 then s.pairTrip s.refChan 0 else none) with
  | none => s
  | some x => s.asymResult (fitStart [x] (s.rd Fld.TT_ASYM_MODEL_L0) (s.rd Fld.TT_ASYM_MODEL_S0)) true (2 ^ (2 * s.refChan)) 0

/-- The programmed model applies: it does not replace a fit in force unless FORCEPROG = 1. -/
def State.asymModel (s : State) : State :=
  if s.on Fld.TT_ASYM_CTRL_FORCEPROG || !s.asymInForce || s.on Fld.TT_ASYM_STAT_PROG then s.asymProgrammed else s

/-- The asymmetry-fit role has results newer than the last PairRequest (R207, R209). (log 31, DESIGN CHOICE) (log 68, DEDUCED) -/
def State.asymRun (s : State) : State :=
  let both := (List.range 4).filter fun n =>
    (s.fitPair n 0).isSome && (s.fitPair n 1).isSome && bits s.fib.pairGot (2 * n) 2 = 3
  let l := both.flatMap fun n => [s.fitPair n 0, s.fitPair n 1].filterMap id
  if !s.roleRuns 11 then s
  else if s.on Fld.TT_ASYM_CTRL_FORCEPROG || decide (both.length < 3) then s.asymModel
  else
    let w := fitLoop l 8 (fitStart l (s.rd Fld.TT_ASYM_MODEL_L0) (s.rd Fld.TT_ASYM_MODEL_S0))
    let mask := both.foldl (fun a n => a + 3 * 2 ^ (2 * n)) 0
    let rms := rmsPs (w.ms l)
    let inForce := if s.asymInForce then ((List.range 8).filter (bit (s.rd Fld.TT_ASYM_STAT_PAIRS))).length else 0
    if w.accepted l && decide (inForce ≤ l.length) then (s.asymResult w false mask rms).raise 153 [(16, mask), (8, rms)]
    else (s.flag Fld.TT_ASYM_STAT_REJECTED true).raise 154 [(8, w.it), (8, rms), (32, unsgn 32 (fxRound w.l0 100))]

/-- O1.1 entry clears the result (R209). -/
def State.asymClear (s : State) : State :=
  ((s.wr ⟨.TT_ASYM_STAT, 0, 1⟩ 0).wr ⟨.TT_ASYM_STAT, 1, 1⟩ 0).wr ⟨.TT_ASYM_STAT, 2, 1⟩ 1

/-- A write of TT_ASYM_MODEL recomputes a programmed result in force (R209). -/
def State.asymModelWrite (s : State) (v : Nat) : State :=
  let s1 := s.wrReg .TT_ASYM_MODEL (BitVec.ofNat 64 v)
  if s1.asymInForce && s1.on Fld.TT_ASYM_STAT_PROG then s1.asymProgrammed else s1

end Sys2Proof.Machine
end

