-- ==== Sys2Proof/Machine/Upstream.lean ====
section
/-! DEFINITION. Upstream bursts (R221 to R258, R363, R474): bandwidth maps, staging, reports, the commands of grant-loss hold, and
writes of the allocation registers. -/
namespace Sys2Proof.Machine

/-- Bytes of a profile's preamble and delimiter. -/
def State.headBytes (s : State) (m n : Nat) : Nat := s.rd Fld.TC_USC_PROF_PREAMBLE m n + s.rd Fld.TC_USC_PROF_DELIM m n

/-- A profile's rate is 49.7664 Gb/s. -/
def State.fastUp (s : State) (m n : Nat) : Bool := s.on Fld.TC_USC_PROF_RATE m n

/-! ## Allocations (R222 to R225) -/

/-- The allocation bound to an alloc-ID. -/
def State.boundTo (s : State) (id : Nat) : Option Nat :=
  (List.range 512).find? fun a => s.on Fld.TM_ALLOC_MAP_BOUND a && s.on Fld.TM_ALLOC_MAP_EN a && decide (s.rd Fld.TM_ALLOC_MAP_ALLOCID a = id)

/-- An alloc-ID is assigned to the terminal; the ONU-ID is the default one (R224). -/
def State.isAssigned (s : State) (id : Nat) : Bool :=
  s.fib.assigned.contains id || (s.on Fld.TC_ACT_STATUS_IDVALID && decide (s.rd Fld.TC_ACT_STATUS_ONUID = id))

/-- Set or clear BOUND of an allocation (R222): setting it is without effect for one that is not enabled, or whose alloc-ID a lower one has
bound; a higher one loses it. -/
def State.bind (s : State) (a : Nat) (b : Bool) : State :=
  let clear := fun (t : State) (k : Nat) =>
    { (t.flag Fld.TM_ALLOC_MAP_BOUND false k) with fib := { t.fib with carried := Tab.set t.fib.carried none k none } }
  if !b then clear s a
  else if !s.on Fld.TM_ALLOC_MAP_EN a then s
  else match s.boundTo (s.rd Fld.TM_ALLOC_MAP_ALLOCID a) with
    | none => s.flag Fld.TM_ALLOC_MAP_BOUND true a
    | some k => if k < a then s else if k = a then s else (clear s k).flag Fld.TM_ALLOC_MAP_BOUND true a

/-- Of the enabled and bound allocations of one alloc-ID only the lowest stays bound (R222). -/
def State.bindOne (s : State) (a : Nat) : State :=
  if s.on Fld.TM_ALLOC_MAP_EN a && s.on Fld.TM_ALLOC_MAP_BOUND a then
    ((List.range 512).filter fun k => k ≠ a && s.on Fld.TM_ALLOC_MAP_EN k && s.on Fld.TM_ALLOC_MAP_BOUND k
      && decide (s.rd Fld.TM_ALLOC_MAP_ALLOCID k = s.rd Fld.TM_ALLOC_MAP_ALLOCID a)).foldl
        (fun t k => t.bind (max a k) false) s
  else s

/-! ## Bandwidth maps (R230) -/

/-- What the processing of a map has so far: structures addressed to the terminal, the line times already taken, the burst that a
continuing structure joins with the start of its first structure, and why the structure that a continuing one follows was not served. -/
structure MapWork where
  st : State
  seen : Nat := 0
  taken : List (Int × Int) := []
  cur : Option (Burst × Int) := none
  dead : Option Nat := none
deriving DecidableEq, Repr

/-- A structure is not served (R230): 0 profile, 1 excess or overlap, 2 late. -/
def MapWork.refuse (w : MapWork) (uc why : Nat) : MapWork :=
  let f := if why = 0 then Fld.TC_USC_HEC_PROF else if why = 1 then Fld.TC_USC_LATE_EXCESS else Fld.TC_USC_LATE_LATE
  { w with st := (w.st.count f uc).raise 161 [(8, uc), (8, Config.recordCode 161 why)] 1, cur := none, dead := some why }

/-- A structure is served (R222, R223, R234): it joins the burst that it continues, or opens one, whose T lies the preamble and the delimiter before
the start that the structure gives. `lo` is where its transmission starts, in 1/256 ns from the start of the frame. -/
def MapWork.serve (w : MapWork) (uc sfc base : Nat) (lo : Int) (a : AllocGrant) : MapWork :=
  let s := w.st
  let al := s.boundTo a.allocId
  let s1 := if al.isSome then s else (s.count Fld.TC_USC_DROP_UNBOUND uc).raise 165 [(16, a.allocId)] 1
  let grant := fun (start : Nat) => ({ alloc := al, id := a.allocId, start := start, room := a.room, wire := a.wire, dbru := a.dbru, ploamu := a.ploamu } : Grant)
  match (if a.cont then w.cur else none) with
  | some (old, at_) =>
    let b := { old with grants := old.grants ++ [grant (lo - at_).toNat] }
    { w with st := { s1 with fib := { s1.fib with bursts := s1.fib.bursts.filter (· ≠ old) ++ [b] } }, cur := some (b, at_) }
  | none =>
    let fast := s.fastUp uc a.profile
    let n := s.headBytes uc a.profile
    let b : Burst := { uc := uc, base := base, t := unsgn 40 (base + lo), sfc := sfc, fast := fast, fec := s.on ⟨.TC_USC_PROF, 2, 1⟩ uc a.profile
                       head := n, grants := [grant (upTime fast n)] }
    { w with st := { s1 with fib := { s1.fib with bursts := s1.fib.bursts ++ [b] } }, cur := some (b, lo), dead := none }

/-- One structure of a map. `base` is the start of the upstream frame. A continuing structure starts where the one before it ends and is refused
with it; what overlaps is judged against every earlier structure whose HEC is right. (log 65, DESIGN CHOICE) -/
def MapWork.take (uc sfc base : Nat) (w : MapWork) (a : AllocGrant) : MapWork :=
  let s := w.st
  if !a.hecOk then { w with st := s.count Fld.TC_USC_HEC_HEC uc, cur := none, dead := none }
  else
    let held := decide (a.profile < 4) && s.on Fld.TC_USC_PROF_VALID uc a.profile
    let fast := !held || s.fastUp uc a.profile
    let head := if held && !(a.cont && w.cur.isSome) then s.headBytes uc a.profile else 0
    let at_ : Int := if a.cont then (match w.taken.getLast? with | some x => x.2 | none => a.start) else a.start
    let lo := at_ - upTime fast head
    let hi := lo + upTime fast (a.wire + head)
    let w1 := { w with taken := w.taken ++ [(lo, hi)] }
    if !s.isAssigned a.allocId then { w1 with cur := none, dead := none }
    else
      let w2 := { w1 with seen := w.seen + 1 }
      if 64 ≤ w.seen then w2.refuse uc 1
      else match (if a.cont then w.dead else none) with
        | some why => w2.refuse uc why
        | none =>
          if !held then w2.refuse uc 0
          else if w.taken.any (fun x => decide (lo < x.2) && decide (x.1 < hi)) then w2.refuse uc 1
          else if !(a.cont && w.cur.isSome) && decide (stampDiff (unsgn 40 (base + lo)) s.stamp40 < 1024000) then w2.refuse uc 2
          else w2.serve uc sfc base lo a

/-- BWMAP_PROCESS (R228, R230, R236): role 8 converts a map to the bursts of one UC, in O5 while the UC works and the terminal sends. (log 62, PRESUMED) (log 65, DESIGN CHOICE) -/
def State.processMap (s : State) (uc sfc : Nat) (map : List AllocGrant) : State :=
  if s.act ≠ 5 ∨ !s.working uc ∨ s.rd Fld.TC_SLEEP_STATUS_STATE = 2 ∨ s.pow.timekeep ∨ !s.roleRuns 13 then s
  else match s.frameStart uc sfc with
    | none => s
    | some base => (map.foldl (MapWork.take uc sfc base) { st := s }).st.declareBursts

/-! ## Staging (R231, R232, R240 to R245, R363, R474) -/

/-- The settings of a frame's own queue: a frame in the hold-drain queue keeps those of the queue it was meant for. -/
def Packet.home (p : Packet) : Nat × Nat := (allocOf p.queue, (p.queue - 1152) % 4)

/-- A frame's queue is served from the grants of a UC (R231). -/
def State.ucServes (s : State) (p : Packet) (m : Nat) : Bool :=
  match s.rd Fld.TM_ALLOC_Q_UCSEL p.home.1 p.home.2 with
  | 0 => true
  | 1 => m = 0 || !s.working 0
  | 2 => m = 1 || !s.working 1
  | _ => false

/-- Gate bit `k` of port 144 at a time, from the pending edges (R363). -/
def State.upGate (s : State) (k : Nat) (t : BitVec 32) : Bool :=
  (s.gate 144).edges.foldl (fun b e => if reached t e.1 then bit e.2.toNat k else b) (s.gateOpen 144 k)

/-- The next edge after a time that closes gate bit `k`. -/
def State.upClose (s : State) (k : Nat) (t : BitVec 32) : Option (BitVec 32) :=
  ((s.gate 144).edges.find? (fun e => !reached t e.1 && !bit e.2.toNat k)).map Prod.fst

/-- The bytes of a frame as it is sent: padding, FCS and the bonding header (R232, R580). -/
def State.upFrame (s : State) (p : Packet) (m bsn : Nat) (bad : Bool) : List Byte :=
  let f := withFcs (padFrame p.data) bad
  if s.uc1Use && decide (s.rd Fld.TM_ALLOC_Q_UCSEL p.home.1 p.home.2 = 0) then
    let h := beBytes (0x10 + s.rd Fld.TM_ALLOC_Q_GRP p.home.1 p.home.2 * 4) 1 ++ beBytes bsn 3
      ++ beBytes (m * 64 + s.rd Fld.TC_US_MODE_WORKING) 1 ++ [0, 0]
    h ++ beBytes (crc8 h) 1 ++ f
  else f

/-- How many bytes a frame takes after its XGEM header. -/
def State.upLen (s : State) (p : Packet) : Nat :=
  max 64 (p.data.length + 4) + (if s.uc1Use && decide (s.rd Fld.TM_ALLOC_Q_UCSEL p.home.1 p.home.2 = 0) then 8 else 0)

/-- The unicast key of CX_PON_KEY.TXIDX, where it is installed (R474). -/
def State.upKey (s : State) : Option (Nat × List Byte) :=
  let i := s.rd Fld.CX_PON_KEY_TXIDX
  if i = 0 ∨ !s.keyv (1015 + i) then none else some (i, (s.cxKey (1015 + i)).key)

/-- What staging has so far: the burst, the bytes used in it, the grant being filled with the bytes used and left in it, the cipher lane, and
the errors still to come. -/
structure Fill where
  st : State
  b : Burst
  used : Nat := 0
  g : Nat := 0
  start : Nat := 0
  got : Nat := 0
  left : Nat := 0
  lane : Nat
  mismatch : Option Nat
  err : EccErr
deriving DecidableEq, Repr

/-- The time after T at which byte `n` of the grant leaves (R234, R237): the grant starts at the time its structure gives, its PLOAMu and DBRu
fields come first, and FEC adds its parity. (log 65, DESIGN CHOICE) -/
def Fill.offset (w : Fill) (n : Nat) : Nat := w.start + upTime w.b.fast (if w.b.fec then Config.upParity n else n)

/-- TB_NS at which the first byte of a frame put next leaves, after its XGEM header (R363). -/
def Fill.now (w : Fill) : BitVec 32 := BitVec.ofNat 32 ((w.b.t + w.offset (w.got + 8)) / 256)

/-- The most bytes, up to a number, whose last has left by a time after T. -/
def Fill.roomBy (w : Fill) (stop : Int) : Nat → Nat
  | 0 => 0
  | n + 1 => if (w.offset (w.got + n + 1) : Int) ≤ stop then n + 1 else w.roomBy stop n

/-- The bytes, header included, that a queue may send before its gate closes or the grant ends (R363). -/
def Fill.room (w : Fill) (q : Nat) : Nat :=
  if isDrain q then w.left
  else match w.st.upClose ((q - 1152) % 4) w.now with
    | none => w.left
    | some t => w.roomBy (stampDiff (t.toNat * 256) w.b.t) w.left

/-- The place in the upstream frame of a UC at which the next byte stands, so that no counter repeats (R474). (log 65, DESIGN CHOICE) -/
def Fill.place (w : Fill) : Nat := w.b.uc * 2 ^ 24 + upBytes w.b.fast (unsgn 40 (stampDiff w.b.t w.b.base) + w.start) + w.got

/-- A frame's bytes whose keystream block `k` was not released: fresh bytes stand in its place (R465). (log 131, DEDUCED) -/
def State.hideBlock (s : State) (k : Nat) (l : List Byte) : List Byte :=
  l.take (16 * k) ++ fitBytes (min 16 (l.length - 16 * k)) (Config.unreleased s.draws) ++ l.drop (16 * k + 16)

/-- Put bytes of a frame into the burst, under a port ID, a key and a cipher lane; the pipelines may disagree at a block of them (R465).
(log 65, DESIGN CHOICE) -/
def Fill.put (w : Fill) (q : Nat) (p : Packet) (port : Nat) (k : Option (Nat × List Byte)) (lane : Option Nat) (bad : Option Nat) (bytes : List Byte)
    (first last : Bool) : Fill :=
  let body := match k with
    | some (_, key) => Config.ponCrypt key w.b.sfc w.place bytes
    | none => bytes
  let body := match bad with
    | some j => w.st.hideBlock j body
    | none => body
  let n := 8 + bytes.length
  let st := match lane with
    | some l => { w.st.laneBytes l bytes.length with draws := w.st.draws + b2n bad.isSome }
    | none => w.st
  let x : Piece := { q := q, g := w.g, pkt := p, port := port, key := (k.map Prod.fst).getD 0, bytes := body, first := first, last := last
                     lead := w.offset w.got, stop := w.offset (w.got + n) }
  { w with st := st, b := { w.b with pieces := w.b.pieces ++ [x] }, used := w.used + n, got := w.got + n, left := w.left - n }

/-- A frame with its FCS inverted. -/
def flipFcs (f : List Byte) : List Byte := f.take (f.length - 4) ++ (f.drop (f.length - 4)).map (fun b => ~~~b)

/-- A mismatch on a lane that works for port 144 (R465). -/
def Fill.hit (w : Fill) (lane : Option Nat) : Fill :=
  match lane with
  | some l => if w.mismatch.isSome then { w with st := w.st.cipherMismatch l 2, mismatch := none } else w
  | none => w

/-- Send the next part of a frame that was begun in an earlier grant, under the settings of its first fragment (R226) and on its lane (R464). It
keeps its queue to this UC until its last fragment has been sent (R242). -/
def Fill.resume (w : Fill) (q : Nat) (r : Partial) : Fill :=
  let n := w.room q - 8
  let bad := if r.lane.isSome then w.mismatch else none
  let rest := if bad.isSome && !r.pkt.poison then flipFcs r.rest else r.rest
  let w1 := (w.hit r.lane).put q r.pkt r.port r.key r.lane bad (rest.take n) false (rest.drop n).isEmpty
  { w1 with st := { w1.st with fib := { w1.st.fib with
      partials := Tab.set w1.st.fib.partials none q (some { r with rest := rest.drop n }) } } }

/-- A queue takes part in this grant now: something to send on this UC, its shapers and gate open. An
express frame must fit: what is left only shrinks, so its queue is passed over for the rest of the grant (R243). -/
def Fill.ready (w : Fill) (q : Nat) : Bool :=
  let s := w.st
  match s.queue q with
  | [] => false
  | p :: _ =>
    let gate := isDrain q || s.upGate ((q - 1152) % 4) w.now
    let drain := !isDrain q || s.drainEligible (q - 3344)
    let credit := isDrain q || s.shapersAllow q
    let part := (Tab.get s.fib.partials none q).all fun r => r.rest.isEmpty && decide (r.uc = w.b.uc)
    let fits := decide (8 + s.upLen p ≤ w.room q) || (!s.on Fld.TM_ALLOC_Q_EXPRESS p.home.1 p.home.2 && decide (24 ≤ w.room q))
    let lane := !s.on Fld.TM_ALLOC_Q_ENC p.home.1 p.home.2 || s.upKey.isNone || (s.cipherLane w.lane).isSome
    gate && drain && credit && part && fits && lane && s.ucServes p w.b.uc

/-- The upstream bonding number of a frame, where it is sent with the bonding header, and the state after it was taken (R232). -/
def State.takeBsn (s : State) (p : Packet) : State × Option Nat :=
  if !(s.uc1Use && decide (s.rd Fld.TM_ALLOC_Q_UCSEL p.home.1 p.home.2 = 0)) then (s, none)
  else match p.bsn with
    | some b => (s, some b)
    | none =>
      let g := s.rd Fld.TM_ALLOC_Q_GRP p.home.1 p.home.2
      let b := Tab.get s.fib.bsn 0 g
      ({ s with fib := { s.fib with bsn := Tab.set s.fib.bsn 0 g ((b + 1) % 2 ^ 24) } }, some b)

/-- Stage the head frame of a queue that was chosen: whole, or its first fragment (R242). A frame that needs a key that is not there
is discarded (R474). -/
def Fill.take (w : Fill) (q : Nat) : Fill :=
  match w.st.queue q with
  | [] => w
  | h :: _ =>
    match (w.st.chargeQueue q h.len).dequeue q with
    | (_, none) => w
    | (s0, some p0) =>
      let s1 := { s0 with tm := { s0.tm with decisions := s0.tm.decisions + 1 } }
      let enc := s1.on Fld.TM_ALLOC_Q_ENC p0.home.1 p0.home.2
      if enc && s1.upKey.isNone then { w with st := (s1.discard p0).count Fld.CX_PON_CNT_NOKEY }
      else
        let key := if enc then s1.upKey else none
        let lane := if enc then s1.cipherLane w.lane else none
        let bad := if enc then w.mismatch else none
        let w0 := { w with st := s1 }.hit lane
        let s2 := if w.err = .single then w0.st.count Fld.LD_LEDGER_ERR_CORR else if w.err = .double then w0.st.count Fld.LD_LEDGER_ERR_UNCORR
          else w0.st
        let r := s2.takeBsn p0
        let p := { p0 with bsn := if r.2.isSome then r.2 else p0.bsn, poison := p0.poison || bad.isSome || decide (w.err = .double) }
        let f := r.1.upFrame p w.b.uc (r.2.getD 0) p.poison
        let port := r.1.rd Fld.TM_ALLOC_Q_PORTID p.home.1 p.home.2
        let w1 := { w0 with st := r.1, err := .clean }
        if 8 + f.length ≤ w.room q then w1.put q p port key lane bad f true true
        else
          let n := w.room q - 8
          let w2 := w1.put q p port key lane bad (f.take n) true false
          { w2 with st := { w2.st with fib := { w2.st.fib with
              partials := Tab.set w2.st.fib.partials none q (some { uc := w.b.uc, pkt := p, port := port, key := key, lane := lane, rest := f.drop n }) } } }

/-- The queues of an allocation: those in use, then its hold-drain queue. -/
def State.allocQueues (s : State) (a : Nat) : List Nat :=
  (List.range (s.rd Fld.TM_ALLOC_MAP_NQ a + 1)).map (fun k => 1152 + 4 * a + k) ++ [3344 + a]

/-- Fill a grant of an allocation (R240 to R243): frames begun before first, then as its scheduler chooses. The fuel bounds the
frames: each takes at least nine bytes or leaves its queue. (log 65, DESIGN CHOICE) -/
def fillGrant (a : Nat) : Nat → Fill → Fill
  | 0, w => w
  | n + 1, w =>
    if w.left < 9 then w
    else
      let begun := (w.st.allocQueues a).findSome? fun q => match Tab.get w.st.fib.partials none q with
        | some r => if r.uc = w.b.uc ∧ r.rest ≠ [] ∧ 9 ≤ w.room q ∧ (isDrain q || w.st.upGate ((q - 1152) % 4) w.now) then some (q, r) else none
        | none => none
      match begun with
      | some (q, r) => fillGrant a n (w.resume q r)
      | none =>
        let qs := (w.st.allocQueues a).filter w.ready
        match w.st.choose (2 * (1000 + a)) qs (fun q => match w.st.queue q with | p :: _ => p.len | [] => 0) with
        | none => w
        | some (q, s1) => fillGrant a n ({ w with st := s1 }.take q)

/-- R243 at the start of a grant: an express frame at a head that the whole payload cannot hold is discarded. -/
def State.expressDrops (s : State) (a m room : Nat) : State :=
  (s.allocQueues a).foldl (fun t q => match t.queue q with
    | p :: _ =>
      if t.on Fld.TM_ALLOC_Q_EXPRESS p.home.1 p.home.2 && t.ucServes p m && decide (room < 8 + t.upLen p) then
        ((((t.chargeQueue q p.len).dequeue q).1.discard p).count Fld.TC_USC_DROP_XOVER m)
      else t
    | [] => t) s

/-- The allocation that a grant serves at its staging: still enabled and bound to the grant's alloc-ID (R222). -/
def State.granted (s : State) (g : Grant) : Option Nat :=
  g.alloc.filter fun a => s.on Fld.TM_ALLOC_MAP_EN a && s.on Fld.TM_ALLOC_MAP_BOUND a && decide (s.rd Fld.TM_ALLOC_MAP_ALLOCID a = g.id)

/-- The bytes of a grant before its XGEM frames: PLOAMu and DBRu (R234). (log 113, PRESUMED) -/
def Grant.overhead (g : Grant) : Nat := (if g.ploamu then 48 else 0) + (if g.dbru then 4 else 0)

/-- Stage one grant. Its PLOAMu field carries the oldest waiting message, or an Acknowledgement that nothing waits (R188). (log 66, DESIGN CHOICE)
(log 59, DEDUCED) -/
def Fill.grant (w : Fill) (g : Grant) : Fill :=
  let al := w.st.granted g
  let w0 := { w with left := g.room, got := g.overhead, start := g.start }
  let w1 := match al with
    | none => w0
    | some a =>
      let s1 := (s0acc w0 a).expressDrops a w0.b.uc g.room
      fillGrant a (g.room + ((s1.allocQueues a).foldl (fun k q => k + (s1.queue q).length) 0)) { w0 with st := s1 }
  let idle := w1.left
  let b := { w1.b with grants := w1.b.grants.set w.g { g with alloc := al }
                       idle := if idle = 0 then w1.b.idle else w1.b.idle ++ [(w1.offset w1.got, idle)] }
  let w2 := { w1 with b := b, used := w1.used + idle, left := 0, g := w.g + 1 }
  if g.ploamu then
    match w2.st.fib.up with
    | [] => if w2.st.ploamRole then { w2 with b := { w2.b with msgs := w2.b.msgs ++ [.ack (Config.ackCode 3)] } } else w2
    | m :: r => { w2 with st := { w2.st with fib := { w2.st.fib with up := r } }, b := { w2.b with msgs := w2.b.msgs ++ [m] } }
  else w2
where
  /-- The shapers of the allocation's queues brought up to now. -/
  s0acc (w : Fill) (a : Nat) : State := (List.range 4).foldl (fun t k => t.accrueQueue (1152 + 4 * a + k)) w.st

/-- The occupancy V that a report carries (R245). -/
def State.occupancy (s : State) (a : Nat) : Nat :=
  let held := (s.allocQueues a).foldl (fun k q => (s.queue q).foldl (fun n p => n + max 64 p.len + 8) k) 0
  held + (if s.on Fld.TM_ALLOC_MAP_PRED a && s.on Fld.TM_ALLOC_MAP_PAGREE a && s.on Fld.TM_PRED_VAL_READY 0 a then
    s.rd Fld.TM_PRED_VAL_BYTES 0 a * 64 else 0)

/-- The occupancy that a report carries: in the unit of G.9804.2, rounded up and saturated (R245). -/
def reportField (v : Nat) : Nat := min ((v + Config.dbruUnit - 1) / Config.dbruUnit) Config.dbruMax

/-- The first burst of a UC that is not staged, or the first that is staged and not started, or the one that is on the line. (log 66, DESIGN CHOICE) -/
def State.burstOf (s : State) (m : Nat) (staged started : Bool) : Option Burst :=
  s.fib.bursts.find? fun b => b.uc = m && b.staged == staged && b.started == started

/-- Replace a burst. -/
def State.putBurst (s : State) (old new : Burst) : State :=
  { s with fib := { s.fib with bursts := s.fib.bursts.map (fun b => if b = old then new else b) } }

/-- BURST_STAGING_START (R234, R240 to R245): the next burst of a UC is staged, from T − 20 µs on. (log 66, DESIGN CHOICE) -/
def execBurstStagingStart (m lane : Nat) (mismatch : Option Nat) (err : EccErr) (s : State) : Host.Outcome State Fault Refusal :=
  if 2 ≤ m then .fault .noSuchObject
  else if s.asleep 5 || s.asleep 8 || s.asleep 9 || s.pow.timekeep then .next s
  else match s.burstOf m false false with
    | none => .next s
    | some b =>
      if 5120000 < stampDiff b.t s.stamp40 then .next s
      else
        let w := b.grants.foldl Fill.grant
          { st := s, b := b, lane := lane, mismatch := mismatch, err := err }
        let reports := w.b.grants.filterMap fun g =>
          if g.dbru then some (match g.alloc with
            | some a => (a, reportField (w.st.occupancy a))
            | none => (512, reportField 0))
          else none
        .next (w.st.putBurst b { w.b with staged := true, reports := reports }).declareBursts

/-- The transmit stamps of the emitted frames that a burst begins (R237, R274): 18.2 ns is added. -/
def State.burstStamps (s : State) (b : Burst) (fine : Int) : State :=
  (b.pieces.filter (fun x => x.first)).foldl (fun t x =>
    t.stampMessage x.pkt 144 (unsgn 40 ((b.t : Int) + (x.lead : Nat) + fine + 4659)) t.tsValid false false) s

/-- The granted length of a burst (R235): the 8.0 ns lead, preamble and delimiter, and every grant, in 1/256 ns. -/
def Burst.length (b : Burst) : Nat := 2048 + upTime b.fast (b.head + b.grants.foldl (fun n g => n + g.wire) 0)

/-- The boundary store runs dry before piece `n` of a burst (R29, R244): the rest of its grant is sent as idle frames, and so is what later grants
would have carried of the same frames. The frames that it does not carry whole return, as R241 states. -/
def State.runDry (s : State) (b : Burst) (n : Nat) : State :=
  match b.pieces[n]? with
  | none => s
  | some y =>
    let lost := lostPieces none ((b.pieces.drop n).filter (fun x => x.g = y.g))
    let rest := ({ b with pieces := b.pieces.drop n }).blank fun x => decide (x.g = y.g) || lost.any (samePacket x)
    (lost.foldr (fun x t => t.frameBack x) (s.putBurst b { rest with pieces := b.pieces.take n ++ rest.pieces })).raise 13 [(8, 4), (16, b.uc)]

/-- BURST_START (R234, R235, R237): from 8 ns before T the staged burst is sent, and its granted length is loaded into the watchdog. `dry`: the
boundary store runs dry before this piece (R29, R244). (log 70, DEDUCED) -/
def execBurstStart (m : Nat) (fine : Int) (dry : Option Nat) (s : State) : Host.Outcome State Fault Refusal :=
  if 2 ≤ m then .fault .noSuchObject
  else if s.asleep 9 then .next s
  else match s.burstOf m true false with
    | none => .next s
    | some b =>
      if 2048 < stampDiff b.t s.stamp40 then .next s
      else
        let b0 := { b with started := true, granted := b.length }
        let s1 := s.putBurst b b0
        let s2 := match dry with
          | some n => s1.runDry b0 n
          | none => s1
        let b1 := match dry with
          | some _ => (s2.fib.bursts.find? (fun x => x.uc = m && x.t = b.t && x.started)).getD b0
          | none => b0
        let sent := s2.fib.upSent
        let s3 := { s2.burstStamps b1 fine with fib := { s2.fib with upSent := sent + b1.msgs.length } }
        .next (s3.emit (.burst m b1.t (b1.msgs.mapIdx fun k x => s2.upBytes x (sent + k)) b1.reports
          (b1.pieces.map (fun x => (x.port, x.key, x.bytes))) (b1.idle.foldl (fun n e => n + e.2) 0)))

/-- The earliest bin boundary of any allocation that the predictor learns, as timer 0 of its context (R248). A boundary lies at
epoch + n · period/64, rounded up to a nanosecond. (log 104, DESIGN CHOICE) -/
def State.predArm (s : State) : State :=
  let due := s.base.pred.filterMap fun e => e.2.map fun p => p.epoch + ((p.next * s.rd Fld.TM_PRED_CFG_PERIOD 0 e.1 * 1000 + 63) / 64 : Nat)
  let k : Timer := match due with
    | [] => {}
    | t :: l => { armed := true, target := BitVec.ofInt 32 (l.foldl min t) }
  s.setCtx 15 { s.ctx 15 with timers := Tab.set (s.ctx 15).timers {} 0 k }

/-- A burst that carries an allocation has been sent: its start, extended, is the epoch of the allocation's first one, and joins the last 16 grants
(R247, R248). -/
def State.predBurst (s : State) (a t : Nat) : State :=
  if s.rd Fld.TM_PRED_CFG_PERIOD 0 a = 0 || !s.roleRuns 15 then s
  else
    let x : Int := (s.extend (BitVec.ofNat 32 t)).toNat
    let p := match Tab.get s.base.pred none a with
      | none => { epoch := x, grants := [x] }
      | some p => { p with grants := (x :: p.grants).take 16 }
    ({ s with base := { s.base with pred := Tab.set s.base.pred none a (some p) } }.predArm).settle

/-! ## Profiles (R188, R239) -/

/-- BURST_PROFILE (R188, R227, R239): profile `n` of UCm; `rate` 0 is 24.8832 Gb/s and 1 is 49.7664 Gb/s, any other is ignored. (log 87, DEDUCED) -/
def execBurstProfile (mic : Bool) (m n rate : Nat) (fec : Bool) (guard : BitVec 8) (preamble : BitVec 10) (delim : BitVec 6) (s : State) :
    Host.Outcome State Fault Refusal :=
  if 2 ≤ m ∨ 4 ≤ n then .fault .noSuchObject
  else if !mic ∨ 2 ≤ rate ∨ s.act = 7 then .next s
  else
    let fast := decide (rate = 1)
    let short := decide (upTime fast guard.toNat < 2048) || decide (upTime fast preamble.toNat < (if fast then 3737 else 4197))
    let v := 1 + rate * 2 + b2n fec * 4 + b2n short * 8 + guard.toNat * 2 ^ 8 + preamble.toNat * 2 ^ 16 + delim.toNat * 2 ^ 26
    let s1 := s.wrReg .TC_USC_PROF (BitVec.ofNat 64 v) m n
    .next ((if short then s1.raise 160 [(8, m), (16, n)] else s1).workingFollow.acknowledge 0 0)

/-! ## Hold (R250) -/

/-- HOLD_DETECT_EXPIRY (R250): DETECT µs in O5 without a burst of an allocation that has carried one since it was bound. -/
def execHoldDetectExpiry (a : Nat) (s : State) : Host.Outcome State Fault Refusal :=
  if 512 ≤ a then .fault .noSuchObject
  else match Tab.get s.fib.carried none a with
    | some t =>
      if s.act = 5 ∧ max t s.fib.timerAt + s.rd ⟨.TM_HOLD_CTRL, 1, 15⟩ * 1000 ≤ s.ns64 then .next (s.holdTrigger 1 a) else .next s
    | none => .next s

/-- HOLD_MAX_EXPIRY (R250): the hold timer reaches HOLDMAX in Holding. -/
def execHoldMaxExpiry (a : Nat) (s : State) : Host.Outcome State Fault Refusal :=
  if 512 ≤ a then .fault .noSuchObject
  else if s.holdState a = 2 ∧ (Tab.get s.tm.holdTimes (0, 0) a).1 + s.rd ⟨.TM_HOLD_CTRL, 16, 11⟩ * 1000000 ≤ s.ns64 then
    .next (s.holdDiscard a 185)
  else .next s

/-- A write of TM_HOLD_FORCE (R250). -/
def State.holdForce (s : State) (v : Nat) : State :=
  let a := bits v 0 9
  let s1 := if bit v 12 then s.holdTrigger 2 a else s
  if bit v 13 ∧ 2 ≤ s1.holdState a then s1.holdDiscard a 186 else s1

/-! ## Writes of the allocation registers (R222, R224, R226) -/

/-- A write of TM_ALLOC_MAP; `prog`: by cwr, which may write BOUND and PAGREE (R11, R222). Any other write while BOUND = 1 is a refused write
of ALLOCID; one by cwr, which has to write the word to reach those fields, is where it would change ALLOCID (R226). (log 114, DEDUCED) -/
def State.allocMapWrite (s : State) (a v : Nat) (prog : Bool) : State :=
  let id := bits v 0 14
  let refused := a ≠ 511 && s.on Fld.TM_ALLOC_MAP_BOUND a && (!prog || decide (id ≠ s.rd Fld.TM_ALLOC_MAP_ALLOCID a))
  let s1 := if refused then s.raise 166 [(16, a)] else if a = 511 then s else s.wr Fld.TM_ALLOC_MAP_ALLOCID id a
  let s2 := ((s1.wr Fld.TM_ALLOC_MAP_NQ (bits v 16 2) a).flag Fld.TM_ALLOC_MAP_PRED (bit v 18) a).flag Fld.TM_ALLOC_MAP_EN (bit v 15) a
  let s3 := if prog then (s2.bind a (bit v 14)).flag Fld.TM_ALLOC_MAP_PAGREE (bit v 19) a else s2
  (s3.bindOne a).armFollow a

end Sys2Proof.Machine
end

