-- ==== Sys2Proof/Machine/Joining.lean ====
section
/-! DEFINITION. Joining the shared fibre (R142, R166, R176 to R217, R509, R510): the activation states, the PLOAM and vendor
messages that the head end sends, ranging, the burst watchdog, and the sleep agreement. -/
namespace Sys2Proof.Machine

/-! ## The sleep agreement (R509, R510) -/

/-- Role 14's conditions to sleep in a mode: 1 doze, 2 watchful sleep. `idle`: the time of empty queues counts too. (log 57, DEDUCED) -/
def State.sleepConditions (s : State) (mode : Nat) (idle : Bool) : Bool :=
  s.act = 5 && s.fib.sleepMode = mode
    && s.on (if mode = 1 then Fld.TC_SLEEP_CTRL_DOZEEN else Fld.TC_SLEEP_CTRL_WSEN)
    && s.tm.queues.all (fun e => !isUpstream e.1 || e.2.isEmpty)
    && (!idle || s.fib.idleFrom + s.rd Fld.TC_SLEEP_CTRL_IDLE * 1000000 ≤ s.ns64)
    && s.regs.all (fun e => match regEntry e with
        | (.TM_ALLOC_HOLD, a, _) => decide (s.holdState a < 2)
        | _ => true)
    && (mode = 1 || (s.rd Fld.TC_SLEEP_PARAM_ILOWPOWER ≠ 0 && s.rd Fld.TC_SLEEP_PARAM_IAWARE ≠ 0))

/-- When the present low-power or aware period ends, in nanoseconds since power-on (R509); a frame lasts 125 µs. -/
def State.periodEnd (s : State) : Nat :=
  s.fib.sleepAt + 125000 * (if s.rd Fld.TC_SLEEP_STATUS_STATE = 2 then s.rd Fld.TC_SLEEP_PARAM_ILOWPOWER else s.rd Fld.TC_SLEEP_PARAM_IAWARE)

/-- Role 14 declares the end of its present period (R506), at most 2 s ahead. (log 57, DEDUCED) -/
def State.declareSleep (s : State) : State :=
  if !s.roleRuns 19 then s
  else if s.rd Fld.TC_SLEEP_STATUS_STATE < 2 then s.setCtx 19 { s.ctx 19 with pnext := none }
  else s.setCtx 19 { s.ctx 19 with pnext := some (s.ns + BitVec.ofNat 32 (min 2000000000 (s.periodEnd - s.ns64))) }

/-- A change of the sleep state (HeadEndSleepChanged, 174): 0 Awake, 1 Doze, 2 LowPower, 3 Aware. In LowPower nothing is sent, so that the bursts
that have not begun are withdrawn (R510). (log 57, DEDUCED) -/
def State.sleepGo (s : State) (new cause : Nat) : State :=
  let st := s.rd Fld.TC_SLEEP_STATUS_STATE
  let s1 := ({ s with fib := { s.fib with sleepAt := s.ns64 } }.wr Fld.TC_SLEEP_STATUS_STATE new).declareSleep
  let s2 := if new = 2 then ((s1.fib.bursts.filter (fun b => !b.started)).foldr (fun b t => t.cutBurst b) s1).receiversOff else s1.receiversOn true
  (s2.raise 174 [(8, st), (8, new), (8, Config.recordCode 174 cause)]).settle

/-- Sleep_Allow is withdrawn or O5 is left: Awake, without a request. -/
def State.sleepOff (s : State) : State := if s.rd Fld.TC_SLEEP_STATUS_STATE = 0 then s else s.sleepGo 0 4

/-- In LowPower the receiver of the reference is on for each frame that the servo has armed, from 500 µs before it (R510). -/
def State.servoFrame (s : State) : State :=
  let r := s.refChan
  match (s.chan r).snap, (s.chan r).psbd with
  | some (t, _), some (k, ts) =>
    let due := stampDiff (unsgn 40 ((ts : Int) + ((t : Int) - k) * 32000000)) s.stamp40
    if due ≤ 128000000 ∧ (0 : Int) ≤ due then (if bit (s.rd Fld.OP_DS_STATUS_RXON) r then s else (s.receiverOn true r).settle) else s
  | _, _ => s

/-- What role 14 does as time passes: it asks for a mode when its conditions hold, and for awake when they no longer do. (log 57, DEDUCED) -/
def State.sleepCheck (s : State) : State :=
  if !s.roleRuns 19 then s
  else
    let busy := s.tm.queues.any fun e => isUpstream e.1 && !e.2.isEmpty
    let s1 := if busy then { s with fib := { s.fib with idleFrom := s.ns64 } } else s
    let ask := fun (t : State) (m : Nat) => { t with fib := { t.fib with up := t.fib.up ++ [UpMsg.sleepRequest m] } }
    match s1.rd Fld.TC_SLEEP_STATUS_STATE with
    | 0 =>
      if s1.on Fld.TC_SLEEP_CTRL_WSEN then (if s1.sleepConditions 2 true then (ask s1 2).sleepGo 2 0 else s1)
      else if s1.sleepConditions 1 true then (ask s1 1).sleepGo 1 0 else s1
    | 1 => if s1.sleepConditions 1 false then s1 else s1.localWake 3
    | _ =>
      if !s1.sleepConditions 2 false then s1.localWake 3
      else
        let s2 := if s1.ns64 < s1.periodEnd && (s1.ctx 19).pnext.any (fun t => reached s1.ns t) then s1.declareSleep.settle else s1
        s2.servoFrame

/-! ## Transitions (R177, R178, R180) -/

/-- A move of the activation state: its event, the start of TO1 or TO2, the end of the sleep agreement outside O5, the working channels, and the hold triggers
of O6 and O7. -/
def State.setAct (s : State) (new : Nat) (cause : Option Nat := none) : State :=
  let old := s.act
  let s1 := s.wr Fld.TC_ACT_STATUS_STATE new
  let s2 := match cause with
    | some c => s1.wr Fld.TC_ACT_STATUS_CAUSE c
    | none => s1
  let s3 := { s2 with fib := { s2.fib with timerAt := s2.ns64 } }.raise 144 [(8, old), (8, new), (8, s2.rd Fld.TC_ACT_STATUS_CAUSE)]
  let s4 := (if old = 5 ∧ new ≠ 5 then s3.sleepOff else s3).workingFollow
  if new = 6 ∨ new = 7 then s4.holdAll else s4

/-- The upstream has failed (R217, step 3): role 2, where it runs, moves to O7 with cause 0x7. (log 80, DESIGN CHOICE) -/
def State.triage (s : State) : State :=
  if s.roleRuns 2 && bit s.fib.wdFailed 0 && (bit s.fib.wdFailed 1 || !s.uc1Use) && 2 ≤ s.act && s.act ≤ 6 then s.setAct 7 (some 7) else s

/-- DC0 joins at once where it has been in Sync for 8 frames (R166). -/
def State.joinReady (s : State) (n : Nat) : State :=
  if s.bonded ∧ !s.isMember n ∧ s.sync n = 2 ∧ 8 ≤ (s.chan n).run then s.joinMember n else s

/-- A change of TC_DS_MODE.BONDED (R142, R163, R166). -/
def State.setBonded (s : State) (b : Bool) : State :=
  if s.bonded == b then s
  else if b then
    let s1 := (s.flag Fld.TC_DS_MODE_BONDED true).flag Fld.OP_DS_STATUS_WIDE false
    let s2 := [1, 2, 3].foldl (fun t n => t.receiverOn false n) s1
    (((s2.raise 140 [(8, 1)]).joinReady 0).workingFollow).settle
  else
    let s1 := (List.range 4).foldl (fun t g => t.releaseGroup g true) (s.flag Fld.TC_DS_MODE_BONDED false)
    let s2 := (List.range 4).foldl (fun t n => t.setMember n false) s1
    let s3 := [1, 2, 3].foldl (fun t n => t.receiverOff n) s2
    let s4 := (s3.flag Fld.OP_DS_STATUS_WIDE true).flag Fld.TC_RNG_EQD_VALID false 0 1
    ((s4.raise 140 [(8, 0)]).workingFollow).settle

/-- A write of TC_DS_MODE (R140). (log 127, DESIGN CHOICE) -/
def State.dsModeWrite (s : State) (v : Nat) : State :=
  if bit v 1 && !s.on Fld.TC_DS_MODE_BONDEN then s.raise 141 []
  else (s.flag Fld.TC_DS_MODE_BONDEN (bit v 0)).setBonded (bit v 1)

/-- The back-off of R184 starts again. -/
def State.backoffReset (s : State) : State :=
  { ((s.wr Fld.TC_DISC_EXP 0).wr Fld.TC_DISC_SKIP 0) with fib := { s.fib with responded := false } }

/-- set_ready of R247: READY of an allocation changes; PredictState tells the head end. (log 80, DESIGN CHOICE) -/
def State.setReady (s : State) (a : Nat) (r : Bool) (cause : Nat) : State :=
  if s.on Fld.TM_PRED_VAL_READY 0 a == r then s
  else
    let id := s.rd Fld.TM_ALLOC_MAP_ALLOCID a
    let s1 := (s.flag Fld.TM_PRED_VAL_READY r 0 a).sendVendor 0x85 (beBytes id 2 ++ [BitVec.ofNat 8 (b2n r)])
    if r then s1.raise 170 [(16, a), (16, id)] else s1.raise 171 [(16, a), (8, Config.recordCode 171 cause)]

/-- The history of an allocation is discarded (R249). -/
def State.predForget (s : State) (a cause : Nat) : State :=
  let s1 := match Tab.get s.base.pred none a with
    | none => s
    | some _ => ({ s with base := { s.base with pred := Tab.set s.base.pred none a none } }.predArm).settle
  s1.setReady a false cause

/-- What an allocation loses at O1.1 (R225, R246, R249). -/
def State.allocForget (s : State) (a : Nat) : State :=
  let s1 := if s.on Fld.TM_ALLOC_MAP_BOUND a then s.bind a false else s
  let s2 := if s1.on Fld.TM_ALLOC_MAP_PAGREE a then s1.flag Fld.TM_ALLOC_MAP_PAGREE false a else s1
  s2.predForget a 1

/-- The registers that entry to O1.1 clears (R180). -/
def State.o11Registers (s : State) : State :=
  let s1 := ((s.flag Fld.TC_ACT_STATUS_IDVALID false).wr Fld.TC_ACT_STATUS_ONUID 0).wr Fld.TC_ACT_STATUS_REF 0
  let s2 := (List.range 2).foldl (fun t m => t.flag Fld.TC_RNG_EQD_VALID false 0 m) s1
  let s3 := (List.range 8).foldl (fun t k => t.flag Fld.TC_PAIR_RT_VALID false 0 k) s2
  let s4 := ((s3.flag Fld.TC_VPLOAM_CTRL_HELLO false).flag Fld.TC_VPLOAM_CTRL_BONDAG false).flag Fld.TC_VPLOAM_CTRL_ASYMAG false
  (s4.flag Fld.TC_US_MODE_UC1USE false).flag Fld.TT_TOD_STAT_VALID false

/-- What every entry to O1.1 does (R180, R213, R225, R232, R249, R476); from there to O7 while KT_ESTOP.LATCH = 1. (log 63, DEDUCED) -/
def State.o11Entry (s1 : State) : State :=
  let s2 := { s1 with fib := { s1.fib with assigned := [], offered := 0, bondSet := false, channels := 0, member := none, macked := true
                                           armed := [], keyWait := 0, pairWant := 0, pairGot := 0, up := [], bsn := [], sleepMode := 0, eqdPast := [] } }
  let s3 := (s2.setBonded false).o11Registers.flag Fld.TC_SLEEP_STATUS_ALLOWED false
  let s4 := (List.range 512).foldl State.allocForget s3
  let s5 := s4.asymClear.clearFibreKeys.backoffReset.workingFollow
  if s5.on Fld.KT_ESTOP_LATCH then s5.setAct 7 (some 6) else s5

/-- Entry to O1.1. -/
def State.enterO11 (s : State) (cause : Option Nat := none) : State := (s.setAct 1 cause).o11Entry

/-- LODS moves activation, where its role runs (R177, R178). -/
def State.lods (s : State) : State :=
  if !s.activationRole then s
  else match s.act with
  | 2 => s.enterO11
  | 3 => s.enterO11 (some 5)
  | 4 => s.enterO11 (some 5)
  | 5 => s.setAct 6
  | _ => s

/-- LODS begins where the reference channel is in Hunt and does not count as Frozen. -/
def State.lodsCheck (s : State) : State :=
  if s.sync s.refChan = 0 && !(s.chan s.refChan).grace then s.lods else s

/-- The first identity that a message names is the site's (R133, R185, R211). -/
def State.isSite (s : State) (vendor serial : Word) : Bool :=
  s.rdReg .KT_SITE_VENDOR = BitVec.ofNat 64 vendor.toNat && s.rdReg .KT_SITE_SERIAL = BitVec.ofNat 64 serial.toNat

/-- A PLOAM message can be acted on: its MIC checks (R189; its reception has counted one that fails), D9 is awake and the state is not O7 (R212). -/
def State.ploamActs (s : State) (mic : Bool) : Bool := mic && !s.asleep 9 && s.act ≠ 7

/-- ASSIGN_ONU_ID (R177, R185, R224): in O2-3, for the site serial, role 4 records the ONU-ID; role 3 binds allocation 511 to it. -/
def execAssignOnuId (mic : Bool) (onu : BitVec 10) (vendor serial : Word) (s : State) : Host.Outcome State Fault Refusal :=
  if s.ploamActs mic && s.activationRole && s.act = 3 && s.isSite vendor serial then
    let s1 := (s.wr Fld.TC_ACT_STATUS_ONUID onu.toNat).flag Fld.TC_ACT_STATUS_IDVALID true
    let s2 := if s1.ploamRole then (s1.wr Fld.TM_ALLOC_MAP_ALLOCID onu.toNat 511).bind 511 true else s1
    .next (s2.backoffReset.setAct 4)
  else .next s

/-- A pair's round trip is entered (R204); PairRangingComplete (152) and the fit follow when the last PairRequest is answered. -/
def State.pairTripEnter (s : State) (n m rt : Nat) (tsv : Bool) : State :=
  let k := 2 * n + m
  let s1 := ((((s.wr Fld.TC_PAIR_RT_RT rt 0 k).wr Fld.TC_PAIR_RT_SEQ (s.rd Fld.TC_PAIR_RT_SEQ 0 k + 1) 0 k).flag Fld.TC_PAIR_RT_TSV tsv 0
    k).flag Fld.TC_PAIR_RT_VALID true 0 k)
  let got := s1.fib.pairGot ||| 2 ^ k
  let last := got &&& s1.fib.pairWant = s1.fib.pairWant && s1.fib.pairGot &&& s1.fib.pairWant ≠ s1.fib.pairWant
  let s2 := { s1 with fib := { s1.fib with pairGot := got } }
  if last then (s2.raise 152 [(16, s2.fib.pairWant)]).asymRun else s2.asymModel

/-- A Ranging_Time's delay, in 2⁻²⁴ ns, rounded to the nearest 1/256 ns (R198). (log 62, PRESUMED) -/
def roundEqd (v : Nat) : Nat := (v + 32768) / 65536

/-- RANGING_TIME (R177, R188, R198, R204): role 5 sets the EqD of UC0, the round trip where TEQD is known, and O4 to O5. -/
def execRangingTime (mic : Bool) (eqd : Nat) (s : State) : Host.Outcome State Fault Refusal :=
  if s.ploamActs mic && s.rangingRole && (s.act = 4 || s.act = 5) then
    let v := roundEqd eqd % 2 ^ 31
    let s1 := (s.setEqd 0 v).acknowledge 2 0
    let rt := unsgn 40 ((s1.rd Fld.TC_RNG_TEQD_TEQD : Int) - (v : Nat) - (Config.responseTime s1.boot.calibBad s1.refChan 0 : Nat))
    let s2 := if s1.on Fld.TC_RNG_TEQD_VALID then s1.pairTripEnter s1.refChan 0 rt s1.tsValid else s1
    .next (if s2.act = 4 && s2.activationRole then s2.setAct 5 else s2.workingFollow)
  else .next s

/-- DEACTIVATE_ONU_ID (R177): for the ONU-ID, or broadcast. (log 62, PRESUMED) -/
def execDeactivateOnuId (mic : Bool) (onu : Option (BitVec 10)) (s : State) : Host.Outcome State Fault Refusal :=
  let mine := match onu with
    | none => true
    | some o => decide (o.toNat = s.rd Fld.TC_ACT_STATUS_ONUID) && s.on Fld.TC_ACT_STATUS_IDVALID
  if s.ploamActs mic && s.activationRole && (s.act = 4 || s.act = 5) && mine then .next (s.enterO11 (some 3)) else .next s

/-- DISABLE_SERIAL_NUMBER (R211): the hardware stops both lasers, sets LATCH and moves to O7. -/
def execDisableSerialNumber (mic : Bool) (vendor serial : Word) (s : State) : Host.Outcome State Fault Refusal :=
  if s.ploamActs mic && 2 ≤ s.act && s.act ≤ 6 && s.isSite vendor serial then
    .next (((s.flag Fld.KT_ESTOP_LATCH true).setAct 7 (some 6)).raise 147 [])
  else .next s

/-- O7 is left where LATCH = 0 and TRIP0 = 0; while TRIP0 = 1, CAUSE shows 0x7 (R212). -/
def State.leaveO7 (s : State) : State :=
  if s.act ≠ 7 || s.on Fld.KT_ESTOP_LATCH then s
  else if s.tripped 0 then s.wr Fld.TC_ACT_STATUS_CAUSE 7
  else s.enterO11

/-- LATCH is cleared (R212): 0 by the enable form, 1 by CLEAR. (log 63, DEDUCED) -/
def State.clearLatch (s : State) (why : Nat) : State :=
  ((s.flag Fld.KT_ESTOP_LATCH false).raise 148 [(16, Config.recordCode 148 why)]).leaveO7

/-- ENABLE_SERIAL_NUMBER (R212): in O7, for the site serial or broadcast. -/
def execEnableSerialNumber (mic : Bool) (target : Option (Word × Word)) (s : State) : Host.Outcome State Fault Refusal :=
  let mine := match target with
    | none => true
    | some (v, n) => s.isSite v n
  if mic && !s.asleep 9 && s.act = 7 && mine then .next (s.clearLatch 0) else .next s

/-- A write of KT_ESTOP.CLEAR (R212). (log 63, DEDUCED) -/
def State.estopClear (s : State) (v : Nat) : State :=
  if bit v 1 && (s.on Fld.KT_ESTOP_LATCH || s.act = 7) then s.clearLatch 1 else s

/-- The registration ID, bits [31:24] of TC_ACT_REGID0 first (R187). -/
def State.regId (s : State) : List Byte := (List.range 9).flatMap fun k => beBytes (s.rd Fld.TC_ACT_REGID_REGID 0 k) 4

/-- REQUEST_REGISTRATION (R187, R188): answered with Registration. It is accepted where the terminal has an ONU-ID, in O4 and O5 (log 97, DESIGN CHOICE). -/
def execRequestRegistration (mic : Bool) (s : State) : Host.Outcome State Fault Refusal :=
  if s.ploamActs mic && s.ploamRole && (s.act = 4 || s.act = 5) then .next (s.sendUp (.registration s.regId)) else .next s

/-- ASSIGN_ALLOC_ID (R188, R190, R222): up to 512 alloc-IDs; the lowest enabled allocation of the alloc-ID is bound. It is accepted in O5 (log 97, DESIGN CHOICE). -/
def execAssignAllocId (mic : Bool) (id : BitVec 14) (assign : Bool) (s : State) : Host.Outcome State Fault Refusal :=
  let n := id.toNat
  if !(s.ploamActs mic && s.ploamRole && s.act = 5) then .next s
  else if assign then
    if !s.fib.assigned.contains n && 512 ≤ s.fib.assigned.length then .next (s.sendUp (.ack (Config.ackCode 2)))
    else
      let s1 := if s.fib.assigned.contains n then s else { s with fib := { s.fib with assigned := n :: s.fib.assigned } }
      let s2 := match (List.range 512).find? (fun a => s1.on Fld.TM_ALLOC_MAP_EN a && s1.rd Fld.TM_ALLOC_MAP_ALLOCID a = n) with
        | some a => s1.bind a true
        | none => s1
      .next (s2.acknowledge 6 0)
  else
    let s1 := { s with fib := { s.fib with assigned := s.fib.assigned.filter (· ≠ n) } }
    let s2 := (List.range 512).foldl (fun t a =>
      if t.on Fld.TM_ALLOC_MAP_BOUND a && t.rd Fld.TM_ALLOC_MAP_ALLOCID a = n then t.bind a false else t) s1
    .next (s2.acknowledge 6 0)

/-- Role 18 has a unicast key generated, and reports it (R475). -/
def State.keyTurn (s : State) (idx : BitVec 2) : State :=
  let s1 := { s with fib := { s.fib with keyWait := 0 } }.ponGenerate idx.toNat
  if idx = 0 ∨ idx = 3 ∨ s1.on Fld.CX_PON_GENSTAT_BUSY then s1
  else s1.sendUp (.keyReport ((List.range 8).map fun k => BitVec.ofNat 32 (s1.rd Fld.CX_PON_GENOUT_BYTES 0 k)))

/-- KEY_CONTROL (R475): role 18 generates a unicast key and reports it. It is accepted in O5 (log 97, DESIGN CHOICE); the request waits for the cipher
engine to wake (R25). -/
def execKeyControl (mic : Bool) (idx : BitVec 2) (s : State) : Host.Outcome State Fault Refusal :=
  if !(s.ploamActs mic && s.roleRuns 18) || s.act ≠ 5 then .next s
  else if s.asleep 8 then .next ({ s with fib := { s.fib with keyWait := idx } }.wakeFor 8)
  else .next (s.keyTurn idx)

/-- SLEEP_ALLOW (R188, R190, R509): 0 withdraws it, 1 doze, 2 watchful sleep; any other mode is not supported. -/
def execSleepAllow (mic : Bool) (mode : BitVec 2) (s : State) : Host.Outcome State Fault Refusal :=
  if !s.ploamActs mic then .next s
  else if mode = 3 then
    let s1 := s.count Fld.TC_PLOAM_CNT_UNSUP
    .next (if s1.ploamRole && (Config.ackDone 8 1).isSome then s1.sendUp (.ack (Config.ackCode 1)) else s1)
  else if !s.roleRuns 19 then .next s
  else
    let s1 := { (s.flag Fld.TC_SLEEP_STATUS_ALLOWED (mode ≠ 0)) with fib := { s.fib with sleepMode := mode.toNat } }.acknowledge 8 0
    .next (if mode = 0 then s1.sleepOff else s1)

/-- SLEEP_LOWPOWER_END (R509): ILOWPOWER frames have passed; the receivers turn on for Aware. (log 57, DEDUCED) -/
def execSleepLowpowerEnd (s : State) : Host.Outcome State Fault Refusal :=
  if s.rd Fld.TC_SLEEP_STATUS_STATE = 2 && decide (s.periodEnd ≤ s.ns64) then .next (s.sleepGo 3 1) else .next s

/-- SLEEP_AWARE_END (R509): IAWARE frames have passed; LowPower again while the conditions are met. (log 57, DEDUCED) -/
def execSleepAwareEnd (s : State) : Host.Outcome State Fault Refusal :=
  if s.rd Fld.TC_SLEEP_STATUS_STATE ≠ 3 || decide (s.ns64 < s.periodEnd) then .next s
  else if s.sleepConditions 2 false then .next (s.sleepGo 2 2)
  else .next (s.localWake 3)

/-! ## Derward's vendor messages (R192 to R195, R199, R202 to R204) -/

/-- A field of a vendor message's body: its first byte, counted as R193 does from the start of the content, and its bytes. -/
def vendorField (body : List Byte) (k n : Nat) : Nat := beAt body (k - 4) n

/-- A vendor message is acted on: its MIC checks (R189), role 3 runs, D9 awake, TYPE not 0x00, in O5. (log 80, DESIGN CHOICE) -/
def State.vendorActs (s : State) (mic : Bool) : Bool := mic && s.ploamRole && !s.asleep 9 && s.act = 5 && s.rd Fld.TC_VPLOAM_CTRL_TYPE ≠ 0

/-- A vendor message that is ignored is counted (R194). -/
def State.vendorIgnored (s : State) : State := s.count Fld.TC_VPLOAM_CTRL_IGNORED

/-- An agreement is made (VendorExchangeAgreed, 150): 0 BOND, 1 ASYM, 2 PRED. -/
def State.agreed (s : State) (feature : Nat) (id : List (Nat × Nat)) : State := s.raise 150 ((8, Config.recordCode 150 feature) :: id)

/-- HELLO (R193, R194, R202). (log 63, DEDUCED) -/
def execHello (mic : Bool) (body : List Byte) (s : State) : Host.Outcome State Fault Refusal :=
  if !s.vendorActs mic then .next s
  else
    let f := vendorField body 4 1
    let cap := b2n (bit f 0 && s.on Fld.TC_DS_MODE_BONDEN) + b2n (bit f 1 && s.on Fld.TC_VPLOAM_CTRL_ASYMEN) * 2
      + b2n (bit f 2 && s.on Fld.TC_VPLOAM_CTRL_PREDEN) * 4
    let s1 := { (s.flag Fld.TC_VPLOAM_CTRL_HELLO true) with fib := { s.fib with offered := cap } }
    let s2 := s1.sendVendor 0x81 [BitVec.ofNat 8 cap, BitVec.ofNat 8 (15 + s1.rd Fld.TC_US_MODE_WORKING * 16)]
    if bit cap 1 && !s2.on Fld.TC_VPLOAM_CTRL_ASYMAG then
      .next (((s2.flag Fld.TC_VPLOAM_CTRL_ASYMAG true).agreed 1 []).pairRequest)
    else .next s2

/-- BONDSET (R194, R195, R199, R232). -/
def execBondset (mic : Bool) (body : List Byte) (s : State) : Host.Outcome State Fault Refusal :=
  if !s.vendorActs mic then .next s
  else if !s.on Fld.TC_VPLOAM_CTRL_HELLO || !(bit s.fib.offered 0 || s.on Fld.TC_VPLOAM_CTRL_BONDAG) then .next s.vendorIgnored
  else if !s.bondingRole then .next s
  else
    let bonded := bit (vendorField body 4 1) 0
    let uc1 := bit (vendorField body 5 1) 4
    let s1 := if s.on Fld.TC_VPLOAM_CTRL_BONDAG then s else (s.flag Fld.TC_VPLOAM_CTRL_BONDAG true).agreed 0 []
    let s2 := { (s1.flag Fld.TC_US_MODE_UC1USE uc1) with
      fib := { s1.fib with bondSet := true, channels := bits (vendorField body 5 1) 0 4, bsn := if uc1 then s1.fib.bsn else [] } }
    let s3 := if bonded && !s2.on Fld.TC_DS_MODE_BONDEN then s2.raise 141 [] else s2.setBonded bonded
    let s4 := (s3.workingFollow).tellMember true
    .next ((if uc1 && !s4.eqdValid 1 then s4.pairRequest else s4).triage)

/-- MEMBERACK (R195). -/
def execMemberack (mic : Bool) (body : List Byte) (s : State) : Host.Outcome State Fault Refusal :=
  if !s.vendorActs mic then .next s
  else if !s.on Fld.TC_VPLOAM_CTRL_HELLO || !s.on Fld.TC_VPLOAM_CTRL_BONDAG then .next s.vendorIgnored
  else if !s.bondingRole then .next s
  else if vendorField body 4 2 = s.fib.mseq then .next { s with fib := { s.fib with macked := true } }
  else .next s

/-- MEMBERSHIP_REPEAT (R195): 1 s without an acknowledgement; after 10 repeats VendorExchangeTimeout (151). -/
def execMembershipRepeat (s : State) : Host.Outcome State Fault Refusal :=
  if !s.bondingRole || s.fib.macked || s.fib.member.isNone || 10 < s.fib.mtries || decide (s.ns64 < s.fib.memberAt + 1000000000) then .next s
  else
    let s1 := { s with fib := { s.fib with mtries := s.fib.mtries + 1 } }
    if s.fib.mtries = 10 then .next (s1.raise 151 [(16, s.fib.mseq)]) else .next s1.sendMember

/-- A pair's exchange is agreed: ASYM, or BOND for the pair of the reference with UC1 (R199). -/
def State.pairAgreed (s : State) (n m : Nat) : Bool :=
  s.on Fld.TC_VPLOAM_CTRL_HELLO
    && (s.on Fld.TC_VPLOAM_CTRL_ASYMAG || (s.on Fld.TC_VPLOAM_CTRL_BONDAG && decide (n = s.refChan) && m = 1))

/-- PAIRRANGE (R203): the pair is armed. -/
def execPairrange (mic : Bool) (body : List Byte) (s : State) : Host.Outcome State Fault Refusal :=
  let n := bits (vendorField body 4 1) 0 2
  let m := bits (vendorField body 4 1) 4 1
  if !s.vendorActs mic then .next s
  else if !s.pairAgreed n m then .next s.vendorIgnored
  else if !s.rangingRole then .next s
  else
    let rest := s.fib.armed.filter fun x => x.n ≠ n || x.m ≠ m
    .next { s with fib := { s.fib with armed := rest ++ [{ n := n, m := m, since := s.ns64 }] } }

/-- PAIR_ARM_TIMEOUT (R203): no ranging grant within 10 ms. -/
def execPairArmTimeout (n : BitVec 2) (m : BitVec 1) (s : State) : Host.Outcome State Fault Refusal :=
  .next { s with fib := { s.fib with armed := s.fib.armed.filter fun x =>
    x.n ≠ n.toNat || x.m ≠ m.toNat || x.answered.isSome || decide (s.ns64 < x.since + 10000000) } }

/-- RANGING_GRANT (R177, R197, R203): a grant at `start` (1/256 ns) in the upstream frame of a superframe counter is answered by the
registration of O4, or for an armed pair whose channel is in Sync and whose UC is not latched, where the grant starts within 10 ms of the arming;
both with EqD = 0. While EQD1 is not valid UC1 answers only for the reference (R198, R199). (log 67, DEDUCED) -/
def execRangingGrant (m : BitVec 1) (sfc start : Nat) (s : State) : Host.Outcome State Fault Refusal :=
  let u := m.toNat
  let time := fun (ch : Nat) => (s.upFrameAt ch u sfc 0).map fun a => unsgn 40 (a + start : Nat)
  if s.asleep 9 then .next (s.wakeFor 9)
  else if s.tripped u then .next s
  else if s.act = 4 then
    match (if u = 0 && s.activationRole then time s.refChan else none) with
    | some t => .next (s.respond u s.refChan t (.registration s.regId))
    | none => .next s
  else if s.act = 5 && s.rangingRole then
    match s.fib.armed.find? (fun x => x.m = u && x.answered.isNone && (time x.n).any (fun t => decide (s.nsOf t ≤ x.since + 10000000))) with
    | none => .next s
    | some x =>
      if s.sync x.n ≠ 2 || (u = 1 && !s.eqdValid 1 && decide (x.n ≠ s.refChan)) then .next s
      else match time x.n with
        | none => .next s
        | some t =>
          let l := s.fib.armed.map fun y => if y = x then { y with answered := some s.tsValid, at_ := s.nsOf t } else y
          .next ({ s with fib := { s.fib with armed := l } }.respond u x.n t (.registration s.regId))
  else .next s

/-- PAIRRESULT (R194, R198, R199, R204). -/
def execPairresult (mic : Bool) (body : List Byte) (s : State) : Host.Outcome State Fault Refusal :=
  let i := bits (vendorField body 4 1) 0 2
  let u := bits (vendorField body 4 1) 4 1
  let eqdv := bit (vendorField body 5 1) 0
  if !s.vendorActs mic then .next s
  else if !s.pairAgreed i u then .next s.vendorIgnored
  else if !s.rangingRole then .next s
  else match s.fib.armed.find? (fun x => x.n = i && x.m = u && x.answered.isSome) with
    | none => .next s.vendorIgnored
    | some x =>
      let s1 := { s with fib := { s.fib with armed := s.fib.armed.filter (· ≠ x) } }
      let s2 := if eqdv && i = s.refChan && u = 1 && s.bonded then (s1.setEqd 1 (vendorField body 16 4 % 2 ^ 31)).workingFollow else s1
      .next (if s2.on Fld.TC_VPLOAM_CTRL_ASYMAG then
        s2.pairTripEnter i u (unsgn 40 ((vendorField body 8 5 : Int) - (Config.responseTime s.boot.calibBad i u : Nat))) (x.answered.getD false) else s2)

/-- PREDICTSET (R194, R246): the agreement of prediction for an alloc-ID. (log 82, DEDUCED) -/
def execPredictset (mic : Bool) (body : List Byte) (s : State) : Host.Outcome State Fault Refusal :=
  if !s.vendorActs mic then .next s
  else match s.boundTo (vendorField body 4 2) with
    | none => .next s.vendorIgnored
    | some a =>
      if !s.on Fld.TC_VPLOAM_CTRL_HELLO || !(bit s.fib.offered 2 || s.on Fld.TM_ALLOC_MAP_PAGREE a) then .next s.vendorIgnored
      else if !s.roleRuns 15 then .next s
      else if !bit (vendorField body 6 1) 0 then .next (s.flag Fld.TM_ALLOC_MAP_PAGREE false a)
      else if !s.on Fld.TM_ALLOC_MAP_PRED a || !s.on Fld.TC_VPLOAM_CTRL_PREDEN || !bit s.fib.offered 2 then .next s.vendorIgnored
      else
        let s1 := s.flag Fld.TM_ALLOC_MAP_PAGREE true a
        .next (if s.on Fld.TM_ALLOC_MAP_PAGREE a then s1 else s1.agreed 2 [(16, vendorField body 4 2)])

/-- A PairRequest is due (R199, R202): PERIOD minutes since the last one while ASYM is agreed, none for 0; or 1 s while UC1 is asked for. -/
def State.pairDue (s : State) : Bool :=
  let p := s.rd ⟨.TT_ASYM_CTRL, 8, 8⟩
  (s.on Fld.TC_VPLOAM_CTRL_ASYMAG && p ≠ 0 && decide (s.fib.pairAt + p * 60000000000 ≤ s.ns64))
    || (s.asksUc1 && decide (s.fib.pairAt + 1000000000 ≤ s.ns64))

/-- PAIR_REQUEST_PERIOD (R199, R202): every PERIOD minutes, or every 1 s while UC1 has no EqD. -/
def execPairRequestPeriod (s : State) : Host.Outcome State Fault Refusal :=
  if !s.pairDue || !s.rangingRole then .next s else if s.asleep 9 then .next (s.wakeFor 9) else .next s.pairRequest

/-! ## Discovery and timers (R177, R182 to R184) -/

/-- DISCOVERY_WINDOW (R183, R184): in O2-3 the window at `start` (1/256 ns) in the upstream frame of a superframe counter is answered, at the
random delay, or skipped; one that starts within 1 ms of the previous response is ignored. (log 67, DEDUCED) -/
def execDiscoveryWindow (sfc start : Nat) (s : State) : Host.Outcome State Fault Refusal :=
  if s.act ≠ 3 || !s.activationRole then .next s
  else if s.asleep 9 then .next (s.wakeFor 9)
  else match s.upFrameAt s.refChan 0 sfc 0 with
  | none => .next s
  | some a =>
    let at_ := s.sinceOn (unsgn 40 (a + start : Nat))
    if s.fib.respondedAt.any (fun t => at_ < ((t + 1000000) * 256 : Nat)) then .next s
    else
      let s1 := if s.fib.responded then
          let e := min (s.rd Fld.TC_DISC_EXP + 1) (s.rd Fld.TC_DISC_MAXEXP)
          let k := (Config.draw s.draws).toNat % 2 ^ e
          let t := ((s.wr Fld.TC_DISC_EXP e).wr Fld.TC_DISC_SKIP k).raise 145 [(8, e), (16, k)]
          { t with draws := t.draws + 1, fib := { t.fib with responded := false } }
        else s
      let k := s1.rd Fld.TC_DISC_SKIP
      if k ≠ 0 then .next (s1.wr Fld.TC_DISC_SKIP (k - 1))
      else
        let d := (Config.discoveryDelay s1.draws).toNat
        let m : UpMsg := .serialNumber ((s1.rdReg .KT_SITE_VENDOR).setWidth 32) ((s1.rdReg .KT_SITE_SERIAL).setWidth 32) (BitVec.ofNat 32 d)
        let s2 := { s1 with draws := s1.draws + 1, fib := { s1.fib with
          responded := true, respondedAt := some ((at_ + (d : Nat)) / 256).toNat } }
        .next (if s2.tripped 0 then s2 else s2.respond 0 s2.refChan (unsgn 40 (a + start + d : Nat)) m)

/-- TO1_EXPIRY (R177, R179): TO1 ms in O4. -/
def execTo1Expiry (s : State) : Host.Outcome State Fault Refusal := 
  if s.act = 4 && s.activationRole && decide (s.fib.timerAt + s.rd ⟨.TC_ACT_TIMERS, 0, 16⟩ * 1000000 ≤ s.ns64) then .next (s.enterO11 (some 1)) else .next s

/-- TO2_EXPIRY (R177, R179): TO2 ms in O6. -/
def execTo2Expiry (s : State) : Host.Outcome State Fault Refusal := 
  if s.act = 6 && s.activationRole && decide (s.fib.timerAt + s.rd ⟨.TC_ACT_TIMERS, 16, 16⟩ * 1000000 ≤ s.ns64) then .next (s.enterO11 (some 2)) else .next s

/-- A write of TC_ACT_CTRL (R177, R181). -/
def State.actCtrlWrite (s : State) (v : Nat) : State :=
  let s1 := s.flag Fld.TC_ACT_CTRL_HOLD (bit v 1)
  if bit v 0 && s1.act ≠ 7 && s1.activationRole then s1.enterO11 (some 4) else s1

/-! ## The burst watchdog (R214 to R217) -/

/-- The TRIP and CAUSE fields of a UC. -/
def State.wdSet (s : State) (m : Nat) (trip : Bool) (cause : Nat) : State :=
  if m = 0 then (s.flag Fld.OP_WD_STATUS_TRIP0 trip).wr Fld.OP_WD_STATUS_CAUSE0 cause
  else (s.flag Fld.OP_WD_STATUS_TRIP1 trip).wr Fld.OP_WD_STATUS_CAUSE1 cause

/-- CLEARm of OP_WD_CTRL (R215): only while enable is deasserted and the monitor reads dark. (log 81, DEDUCED) -/
def State.wdClear (s : State) (m : Nat) (dark : Bool) : State :=
  if !dark || !s.tripped m || (s.burstOf m true true).isSome then s
  else
    let s1 := s.wdSet m false 0
    let s2 := { s1 with fib := { s1.fib with wdFailed := putBits s1.fib.wdFailed m 1 0, wdRetry := Tab.set s1.fib.wdRetry none m none } }.workingFollow
    if m = 0 then s2.leaveO7 else s2

/-- Event triage (role 2) clears a UC's first trip after 1 s, and tries again after each further second while it finds light (R217). -/
def State.triageClear (s : State) (m : Nat) : State :=
  match Tab.get s.fib.wdRetry none m with
  | some t =>
    if s.ns64 < t || !s.roleRuns 2 then s
    else
      let s1 := { s with draws := s.draws + 1, fib := { s.fib with wdRetry := Tab.set s.fib.wdRetry none m (some (t + 1000000000)) } }
      s1.wdClear m (Config.monitorDark m s.draws)
  | none => s

/-- A burst on the line has held enable more than 64 ns beyond its granted length, or more than 125 µs (R214, R235). -/
def State.overlong (s : State) (b : Burst) : Bool :=
  let held := stampDiff s.stamp40 b.t + 2048
  decide ((b.granted + 16384 : Nat) < held) || decide (32000000 < held)

/-- Enable may have been asserted for a response for more than 64 ns: its grant's length is not known here, and is at most 125 µs. -/
def State.responding (s : State) (u : Nat) : Bool :=
  match Tab.get s.fib.respAt none u with
  | some t => decide (t + 64 ≤ s.ns64) && decide (s.ns64 ≤ t + 125080)
  | none => false

/-- A watchdog trips (R214, R215, R217): it is latched, counted and raised, the UC's bursts are cut, and the event triage takes it on. A response that
has not ended leaves its grant unanswered. The watchdog runs without the core supply; COUNT is in D9. -/
def State.wdTrip (s : State) (u cause : Nat) : State :=
  let s0 := s.wdSet u true cause
  let s1 := if bit s.boot.powered 9 then s0.count (if u = 0 then Fld.OP_WD_STATUS_COUNT0 else Fld.OP_WD_STATUS_COUNT1) else s0
  let s2 := s1.raise 156 [(8, u), (8, cause)]
  let t := Tab.get s2.fib.wdLast 0 u
  let again := t ≠ 0 && decide (s2.ns64 + 1 ≤ t + 600000000000)
  let s3 := { s2 with fib := { s2.fib with wdLast := Tab.set s2.fib.wdLast 0 u (s2.ns64 + 1)
                                           wdRetry := Tab.set s2.fib.wdRetry none u (if again then none else some (s2.ns64 + 1000000000))
                                           wdFailed := if again then putBits s2.fib.wdFailed u 1 1 else s2.fib.wdFailed } }
  let armed := s3.fib.armed.map fun x => if x.m = u && decide (s3.ns64 ≤ x.at_ + 125000) then { x with answered := none } else x
  ({ s3 with fib := { s3.fib with armed := armed } }.cutUc u).workingFollow.triage

/-- BURST_WATCHDOG_TRIP (R214, R215, R217): `light` tells the second cause, light while enable is deasserted; the first is a burst or a response
that holds enable too long. -/
def execBurstWatchdogTrip (m : BitVec 1) (light : Bool) (s : State) : Host.Outcome State Fault Refusal :=
  let u := m.toNat
  let asserted := match s.burstOf u true true with
    | some b => s.overlong b
    | none => s.responding u
  if s.tripped u || (light && (s.burstOf u true true).isSome) || (!light && !asserted) then .next s
  else .next (s.wdTrip u (if light then 2 else 1))

/-- BURST_END (R234, R235, R241, R250): at the last granted bit the burst's frames are freed and its allocations leave Holding. An end that would come
more than 64 ns later comes too late: the watchdog has tripped. -/
def execBurstEnd (m : Nat) (s : State) : Host.Outcome State Fault Refusal :=
  if 2 ≤ m then .fault .noSuchObject
  else match s.burstOf m true true with
    | none => .next s
    | some b =>
      if stampDiff s.stamp40 b.t + 2048 < (b.granted : Nat) then .next s
      else if s.overlong b then .next (s.wdTrip m 1)
      else
        let s1 := { s with fib := { s.fib with bursts := s.fib.bursts.filter (· ≠ b) } }
        let s2 := (b.pieces.filter (fun x => x.last)).foldl (fun t x => (t.fragDone x).freePacket x.pkt) s1
        let s3 := ((s2.count Fld.TC_USC_BURSTS_COUNT m).count Fld.TC_USC_BYTES_COUNT m 0
          (b.pieces.foldl (fun a x => a + x.bytes.length) 0)).count Fld.TC_USC_IDLE_BYTES m 0 (b.idle.foldl (fun n e => n + e.2) 0)
        .next ((b.grants.filterMap (fun g => g.alloc)).foldl (fun t a =>
          let t1 := t.wr Fld.TM_ALLOC_LASTGRANT_NS (b.t / 256) a
          ({ t1 with fib := { t1.fib with carried := Tab.set t1.fib.carried none a (some t1.ns64) } }.predBurst a (b.t / 256)).drainStart a) s3)


/-! ## Delivery of PLOAM messages (R191) -/

/-- PLOAM_DELIVERY (R191): the oldest held message goes to the destination in TC_PLOAM_TARGET. (log 59, DEDUCED) -/
def execPloamDelivery (s : State) : Host.Outcome State Fault Refusal :=
  if s.asleep 9 || !s.on Fld.TC_PLOAM_TARGET_EN then .next s
  else match s.fib.ploam with
    | [] => .next s
    | b :: r =>
      let m : Msg := { sender := .block 0x300, tag := 0, dword := none
                       body := (List.range 6).map fun k => BitVec.ofNat 64 (leNat ((b.drop (8 * k)).take 8)) }
      match s.tryBlock 0 m with
      | some t => .next { t with fib := { t.fib with ploam := r } }
      | none => .next s

end Sys2Proof.Machine
end

