-- ==== Sys2Proof/Machine/Downstream.lean ====
section
/-! DEFINITION. Downstream reception (R143 to R175, R189, R191, R218, R474): frame synchronisation, delineation and decryption, the
PLOAM store, signal evaluation, snapshots, and writes of the group caps. -/
namespace Sys2Proof.Machine

/-! ## Synchronisation (R146 to R148, R166, R171) -/

/-- A channel reaches Hunt: its window ends, it leaves the group, and LODS begins where it was the reference (R150, R166, R178). -/
def State.toHunt (s : State) (ch : Nat) : State :=
  let s1 := (s.setChan ch { s.chan ch with run := 0, win := [] }).setSync ch 0
  if (s1.chan ch).grace then s1
  else if ch = s1.refChan then (s1.leaveMember ch).lodsCheck else s1.leaveMember ch

/-- The third consecutive miss: Hunt, DownstreamFrameSyncLost (130). -/
def State.syncLost (s : State) (ch : Nat) : State := (((s.wr Fld.TC_DSC_STATUS_MISSED 3 ch).raise 130 [(8, ch)]).toHunt ch)

/-- A miss in Sync or ReSync. (log 60, DEDUCED) -/
def State.missed (s : State) (ch : Nat) : State :=
  let n := s.rd Fld.TC_DSC_STATUS_MISSED ch
  if s.sync ch = 2 then
    ((s.setChan ch { s.chan ch with run := 0 }).setSync ch 3).wr Fld.TC_DSC_STATUS_MISSED 1 ch
  else if 2 ≤ n then s.syncLost ch
  else s.wr Fld.TC_DSC_STATUS_MISSED (n + 1) ch

/-- PreSync to Sync (131): the reference in Sync ends Off-sync and LODS (R177). (log 60, DEDUCED) -/
def State.toSync (s : State) (ch : Nat) : State :=
  let s1 := ((s.setSync ch 2).wr Fld.TC_DSC_STATUS_MISSED 0 ch).raise 131 [(8, ch)]
  let s2 := s1.setChan ch { s1.chan ch with run := 0, grace := false }
  if ch = s2.refChan && s2.activationRole then (if s2.act = 1 then (s2.setAct 2).triage else if s2.act = 6 then s2.setAct 5 else s2) else s2

/-! ## Counts, stamps and snapshots (R149, R150, R173) -/

/-- Codewords of a frame whose position is held: none are decoded while the channel searches for one (log 111, DESIGN CHOICE); the window
of R150 holds the last 8,000 frames. -/
def State.tally (s : State) (ch : Nat) (f : DsFrame) : State :=
  let s1 := ((s.count Fld.TC_DSC_CW_COUNT ch 0 f.cw).count Fld.TC_DSC_CORR_COUNT ch 0 f.corr).count Fld.TC_DSC_UNCORR_COUNT ch 0 f.uncorr
  let x := s1.chan ch
  s1.setChan ch { x with win := ((f.corr, f.uncorr) :: x.win).take 8000 }

/-- A snapshot completes: stamped, or missed. -/
def State.snapDone (s : State) (ch : Nat) (ts : Option Nat) : State :=
  let s1 := s.setChan ch { s.chan ch with snap := none }
  let s2 := match ts with
    | some t => s1.wr Fld.TC_DSC_SNAPTS_TS t ch
    | none => s1
  (s2.flag Fld.TC_DSC_SNAPSTAT_MISSED ts.isNone ch).completeSlot .TC_DSC_SNAPSTAT Fld.TC_DSC_SNAPSTAT_SEQ ch

/-- The armed snapshot meets the frame with counter `k`. -/
def State.snapFrame (s : State) (ch k : Nat) (ts : Option Nat) : State :=
  match (s.chan ch).snap with
  | some (t, _) => if t = k then s.snapDone ch ts else if t < k then s.snapDone ch none else s
  | none => s

/-- The time by which the frame with counter `t` has passed: 125 µs for each frame since the latest PSBd, or since now where there was none, and
one frame more. (log 60, DEDUCED) -/
def State.snapDue (s : State) (ch t : Nat) : Nat :=
  let x := s.chan ch
  (if x.psbd.isSome then x.psbdAt else s.ns64) + (t + 1 - s.rd Fld.TC_DSC_SFC_SFC ch) * 125000

/-- A target frame that has passed while its channel was in Hunt or Frozen was not received (R173). -/
def State.snapPassed (s : State) (ch : Nat) : State :=
  match (s.chan ch).snap with
  | some (_, due) => if (s.sync ch = 0 ∨ s.sync ch = 4) ∧ due < s.ns64 then s.snapDone ch none else s
  | none => s

/-- A write of TC_DSC_SNAPREQ with ARM. -/
def State.snapArm (s : State) (ch t : Nat) : State :=
  let s1 := (s.requestSlot .TC_DSC_SNAPSTAT ch).setChan ch { s.chan ch with snap := some (t, s.snapDue ch t) }
  if t ≤ s.rd Fld.TC_DSC_SFC_SFC ch then s1.snapDone ch none else s1

/-! ## PLOAM messages (R188 to R192) -/

/-- The vendor subtypes that the head end sends (R193). -/
def vendorSubtype (k : Nat) : Bool := 1 ≤ k && k ≤ 6

/-- A downstream PLOAM message is received (R189 to R192): `b` is its 48 bytes. (log 59, DEDUCED) -/
def State.ploamReceive (s : State) (b : List Byte) : State :=
  let id := beAt b 0 2 % 1024
  let mine := (s.on Fld.TC_ACT_STATUS_IDVALID && decide (id = s.rd Fld.TC_ACT_STATUS_ONUID))
  let key := if s.keyv 1020 then some (s.cxKey 1020).key else none
  let type := beAt b 2 1
  let vendor := s.rd Fld.TC_VPLOAM_CTRL_TYPE ≠ 0 && decide (type = s.rd Fld.TC_VPLOAM_CTRL_TYPE)
  if !mine && id ≠ 0x3FF then s
  else if !Config.ploamMic key b then (s.count Fld.TC_PLOAM_CNT_MICFAIL).raise 149 [] 1
  else if vendor && (!mine || beAt b 4 2 ≠ 0xDE7A || !vendorSubtype (beAt b 6 1) || beAt b 7 1 ≠ 1) then
    (if s.act = 5 then s.vendorIgnored else s)
  else if !vendor && !Config.ploamListed (BitVec.ofNat 8 type) then
    let s1 := s.count Fld.TC_PLOAM_CNT_UNSUP
    if Config.ploamWantsAck (BitVec.ofNat 8 type) then s1.sendUp (.ack (Config.ackCode 1)) else s1
  else if 32 ≤ s.fib.ploam.length then (s.count Fld.TC_PLOAM_CNT_OVF).raise 158 [] 1
  else { s with fib := { s.fib with ploam := s.fib.ploam ++ [b] } }

/-! ## SDUs (R152 to R157, R172, R218) -/

/-- The port-ID entry of a port ID (R153): the lowest valid one. KIND 0b11 is no match. -/
def State.portEntry (s : State) (port : Nat) : Option Nat :=
  (List.range 1024).find? fun k =>
    s.on Fld.TC_DS_PORTID_VALID 0 k && s.rd Fld.TC_DS_PORTID_PORTID 0 k = port && s.rd Fld.TC_DS_PORTID_KIND 0 k ≠ 3

/-- An OMCI message goes to the receive ring in H (R218), after its MIC was checked (R474). -/
def State.omciReceive (s : State) (port : Nat) (sdu : List Byte) : State :=
  let key := if s.keyv 1020 then some (s.cxKey 1020).key else none
  let n := s.rd Fld.TC_OMCI_RXRING_ENTRIES
  let w := s.rd Fld.TC_OMCI_RXPTR_WR
  if !Config.omciMic key sdu then s.count Fld.CX_PON_CNT_MICERR
  else if 2040 < sdu.length ∨ n = 0 ∨ (w + 1) % n = s.rd Fld.TC_OMCI_RXPTR_RD % n then (s.count Fld.TC_PLOAM_CNT_OMCIOVF).raise 157 [] 1
  else
    let o := s.rd Fld.TC_OMCI_RXRING_BASE + 2048 * w
    ((((s.wakeFor 6).wakeFor 7).hbmWrite 3 o (leBytes sdu.length 2 ++ leBytes port 2 ++ [0, 0, 0, 0] ++ sdu)).wr Fld.TC_OMCI_RXPTR_WR
      ((w + 1) % n))

/-- The bonding header of a group is right on a channel (R156, R157). -/
def bondingOk (h : List Byte) (g ch : Nat) : Bool :=
  let b := fun k => beAt h k 1
  8 ≤ h.length && crc8 (h.take 7) = b 7 && b 0 = 0x10 + g * 4 && bits (b 4) 6 2 = ch && bits (b 4) 4 2 = 0
    && b 5 = 0 && b 6 = 0

/-- What the reception of a frame has so far: whether its pipelines still are to disagree, whether delineation has ended, and the XGEM frames
that wait for a cipher lane. -/
structure RxWork where
  st : State
  mismatch : Bool
  stop : Bool := false
  rest : List Xgem := []
deriving DecidableEq, Repr

/-- A whole SDU after decryption (R154, R155): `e` is its port-ID entry. The FCS is tried before the length, and both without the bonding header
(log 112, DESIGN CHOICE). -/
def State.sduCheck (s : State) (ch port e : Nat) (r : Reasm) (sdu : List Byte) : State :=
  let kind := s.rd Fld.TC_DS_PORTID_KIND 0 e
  let g := s.rd Fld.TC_DS_PORTID_GRP 0 e
  let head := kind ≠ 1 && s.on Fld.TC_DS_PORTID_BONDED 0 e && s.bonded
  let f := if head then sdu.drop 8 else sdu
  let n := f.length - 4
  if f.length < 4 ∨ leNat (f.drop n) ≠ crc32 (f.take n) then s.count Fld.TC_DSC_FCSERR_FCS ch
  else if f.length < 64 ∨ 10240 < f.length then s.count Fld.TC_DSC_FCSERR_LONG ch
  else if kind = 1 then s.omciReceive port (f.take n)
  else
    let p : Packet := { inport := 144, dch := ch, aux := port, len := f.length, ts := r.ts, tsv := r.tsv, data := f.take n }
    if !head then s.toSieve p
    else if bondingOk sdu g ch then s.reorder g ch (beAt sdu 1 3) p
    else s.count Fld.TC_DS_GRP_HDRERR_COUNT g

/-- The last fragment of an SDU has arrived (R154, R465, R474). -/
def RxWork.finish (w : RxWork) (ch port e lane : Nat) (r : Reasm) : RxWork :=
  let s := w.st
  let ctx := (if s.rd Fld.TC_DS_PORTID_KIND 0 e = 2 then 1017 else 1015) + r.key
  let plain := r.pieces.flatMap fun x => x.2.2
  if r.key = 0 then
    (if s.on Fld.TC_DS_PORTID_ENCREQ 0 e then { w with st := s.count Fld.TC_DSC_DROP_KEY ch } else { w with st := s.sduCheck ch port e r plain })
  else if r.key = 3 ∨ !s.keyv ctx then { w with st := s.count Fld.TC_DSC_DROP_KEY ch }
  else match s.cipherLane lane with
    | none => w
    | some l =>
      if w.mismatch then { w with st := s.cipherMismatch l 3, mismatch := false }
      else
        let key := (s.cxKey ctx).key
        let s1 := s.laneBytes l plain.length
        { w with st := s1.sduCheck ch port e r (r.pieces.flatMap fun x => Config.ponCrypt key x.1 x.2.1 x.2.2) }

/-- One XGEM frame of a delivered frame (R152, R153). What was reassembled stays until its last fragment comes: this specification does not say when
an SDU whose last fragments are lost is given up (log 112, DESIGN CHOICE). A fragment for which no cipher lane is left waits, with all
that follow it (R27). -/
def RxWork.take (ch sfc ts lane : Nat) (tsv : Bool) (w : RxWork) (x : Xgem) : RxWork :=
  let s := w.st
  if !w.rest.isEmpty then { w with rest := w.rest ++ [x] }
  else if w.stop then w
  else if s.keyedXgem ch x && (s.cipherLane lane).isNone then { w with rest := [x] }
  else match x with
    | .idle => w
    | .bad => { w with st := s.count Fld.TC_DSC_HEC_XGEM ch, stop := true }
    | .frag port key last bit bytes =>
      match s.portEntry port with
      | none => { w with st := s.count Fld.TC_DSC_DROP_PORTMISS ch }
      | some e =>
        let k := 65536 * ch + port
        let piece := (sfc, bit, bytes)
        let r := match Tab.get s.fib.reasm none k with
          | some r => { r with pieces := r.pieces ++ [piece] }
          | none => { key := key.toNat, ts := (ts + bit * 2560000 / 497664) % 2 ^ 40, tsv := tsv, pieces := [piece] }
        let put := fun (v : Option Reasm) => { s with fib := { s.fib with reasm := Tab.set s.fib.reasm none k v } }
        if last then { w with st := put none }.finish ch port e lane r else { w with st := put (some r) }

/-! ## Delivery of a frame -/

/-- A delivered frame of the reference moves activation on: from O1.1 to O1.2, as R181 expects where the reference was in Sync already (log 63,
DEDUCED), and from O1.2 where the identity is set and UC0 has a profile (R177). -/
def State.joinStep (s : State) (ch : Nat) : State :=
  if !s.activationRole then s
  else if s.act = 1 && decide (ch = s.refChan) && decide (s.sync ch = 2) then (s.setAct 2).triage
  else if s.act = 2 && decide (ch = s.refChan) && (List.range 4).any (fun n => s.on Fld.TC_USC_PROF_VALID 0 n)
    && s.on Fld.KT_SITE_CTRL_VVALID && s.on Fld.KT_SITE_CTRL_SVALID && !s.on Fld.TC_ACT_CTRL_HOLD then s.setAct 3 else s

/-- Everything that a delivered frame carries: PLOAM, XGEM frames and its bandwidth map (R147, R228, R274); and the part that still waits for a
cipher lane. -/
def State.converge (s : State) (ch : Nat) (x : DsStored) : State × Option DsStored :=
  let f := x.frame
  let s1 := f.ploam.foldl State.ploamReceive s
  let w := f.xgem.foldl (RxWork.take ch x.sfc x.ts f.lane x.tsv) { st := s1, mismatch := f.mismatch }
  let s2 := if ch = w.st.refChan then w.st.processMap 0 x.sfc f.map else w.st
  let s3 := if s2.bonded && s2.uc1Use && s2.on Fld.TC_US_MODE_MAPV && decide (ch = s2.rd Fld.TC_US_MODE_MAPCH) then
      s2.processMap 1 x.sfc f.map else s2
  (s3.joinStep ch, if w.rest.isEmpty then none
    else some { x with frame := { f with ploam := [], map := [], xgem := w.rest, mismatch := w.mismatch } })

/-- A frame waits in its channel's store: D9 is asleep, or it needs a cipher lane and none is there (R25, R27). -/
def State.dsWaits (s : State) (ch : Nat) (x : DsStored) : Bool :=
  s.asleep 9 || (s.keyedFrame ch x.frame && (s.asleep 8 || (s.cipherLane x.frame.lane).isNone))

/-- The frames in a channel's store reach the convergence in order while they may; those that wait vote in the domains of their path (R25). -/
def drainChannel (ch : Nat) : List DsStored → State → State
  | [], s => s.setChan ch { s.chan ch with store := [] }
  | x :: r, s =>
    if s.dsWaits ch x then
      let s1 := (s.setChan ch { s.chan ch with store := x :: r }).wakeFor 9
      let s2 := if s.keyedFrame ch x.frame then s1.wakeFor 8 else s1
      if x.frame.xgem.isEmpty then s2 else s2.wakePath
    else match (s.setChan ch { s.chan ch with store := r }).converge ch x with
      | (s1, none) => drainChannel ch r s1
      | (s1, some y) => s1.setChan ch { s1.chan ch with store := y :: r }

/-- Every channel's waiting frames, when a domain has woken or a lane has been revived. -/
def State.drainChannels (s : State) : State := (List.range 4).foldl (fun t n => drainChannel n (t.chan n).store t) s

/-- The bytes of a delivered frame as the model counts them: 48 for each PLOAM message, 8 for each XGEM header and each allocation structure, and
the payload. (log 117, DESIGN CHOICE) -/
def frameBytes (f : DsFrame) : Nat :=
  48 * f.ploam.length + 8 * f.map.length
    + f.xgem.foldl (fun a x => a + (match x with | .frag _ _ _ _ b => 8 + b.length | _ => 8)) 0

/-- The bytes in the boundary store of a channel (R29): its frames, and the SDUs of theirs that Sieve has not yet taken, where no group held
them. (log 117, DESIGN CHOICE) -/
def State.dsBytes (s : State) (ch : Nat) : Nat :=
  (s.chan ch).store.foldl (fun a x => a + frameBytes x.frame) 0
    + ((Tab.get s.sv.rx [] 144).filter (fun p => p.dch = ch && p.grp.isNone)).foldl (fun a p => a + p.len) 0

/-- A delivered frame enters the boundary store, or is discarded whole and counted when that is full (R29). -/
def State.dsArrive (s : State) (ch : Nat) (x : DsStored) : State :=
  if 262144 < s.dsBytes ch + frameBytes x.frame then (s.count Fld.TC_DSC_OVF_COUNT ch).raise 12 [(8, 3), (16, ch)]
  else s.setChan ch { s.chan ch with store := (s.chan ch).store ++ [x] }

/-- A frame is delivered (R146): its counter and PSBd stamp in the island, then what it carries, behind what waits. -/
def State.deliver (s : State) (ch k : Nat) (f : DsFrame) : State :=
  let ts := s.stampAt (f.fine - 6093)
  let x := s.chan ch
  let s1 := (s.wr Fld.TC_DSC_SFC_SFC k ch).setChan ch { x with run := x.run + 1, psbd := some (k, ts), psbdAt := s.ns64 }
  let s2 := (s1.snapFrame ch k (some ts)).dsArrive ch { sfc := k, ts := ts, tsv := s1.tsValid, frame := f }
  let s3 := drainChannel ch (s2.chan ch).store s2
  if s3.rd Fld.TC_SLEEP_STATUS_STATE = 2 && (s3.chan ch).snap.isNone then (s3.receiverSleep ch).settle else s3

/-- DS_FRAME (R146, R147): a frame position of a channel whose receiver is on. (log 60, DEDUCED) -/
def execDsFrame (ch : Nat) (f : DsFrame) (s : State) : Host.Outcome State Fault Refusal :=
  if 4 ≤ ch then .fault .noSuchObject
  else if !bit (s.rd Fld.OP_DS_STATUS_RXON) ch || s.sync ch = 4 then .next s
  else
    let st := s.sync ch
    let hec := b2n f.sfc.isNone + b2n f.ocsBad
    let s0 := if st ≠ 0 || f.psync then s.count Fld.TC_DSC_HEC_PSBD ch 0 hec else s
    let want := (s0.chan ch).next
    let good := f.psync && f.sfc.any (fun v => v.toNat = want)
    let lost := fun (t : State) => t.count Fld.TC_DSC_FRLOST_COUNT ch
    let s1 := if st = 0 then s0 else s0.setChan ch { s0.chan ch with next := (want + 1) % 2 ^ 51 }
    match st with
    | 0 =>
      match f.psync, f.sfc with
      | true, some v =>
        .next ((lost ((s1.setChan ch { s1.chan ch with next := (v.toNat + 1) % 2 ^ 51 }).setSync ch 1)).snapFrame ch v.toNat none)
      | _, _ => .next (lost s1)
    | 1 => if good then .next (((lost s1).snapFrame ch want none).toSync ch) else .next (((lost s1).snapFrame ch want none).toHunt ch)
    | _ =>
      let s2 := s1.tally ch f
      if good then
        let s3 := if st = 3 then (s2.setSync ch 2).wr Fld.TC_DSC_STATUS_MISSED 0 ch else s2
        .next (s3.deliver ch want f)
      else .next (((lost s2).snapFrame ch want none).missed ch)

/-- DS_FRAME_SYNC_LOST (R146): the third miss of a channel in ReSync. -/
def execDsFrameSyncLost (ch : Nat) (s : State) : Host.Outcome State Fault Refusal :=
  if 4 ≤ ch then .fault .noSuchObject
  else if s.sync ch ≠ 3 || s.rd Fld.TC_DSC_STATUS_MISSED ch < 2 then .next s
  else .next (((s.count Fld.TC_DSC_FRLOST_COUNT ch).snapFrame ch (s.chan ch).next none).syncLost ch)

/-- BOND_CHANNEL_JOINED (R166, R167): 8 consecutive frames in Sync. -/
def execBondChannelJoined (ch : Nat) (s : State) : Host.Outcome State Fault Refusal :=
  if 4 ≤ ch then .fault .noSuchObject else .next (s.joinReady ch)

/-- FROZEN_GRACE_EXPIRY (R171, R510): a channel that role 14 turned on no longer counts as Frozen once 500 µs have passed. -/
def execFrozenGraceExpiry (ch : Nat) (s : State) : Host.Outcome State Fault Refusal :=
  if 4 ≤ ch then .fault .noSuchObject
  else if !(s.chan ch).grace || decide (s.ns64 < (s.chan ch).onAt + 500000) then .next s
  else
    let s1 := s.setChan ch { s.chan ch with grace := false }
    if s1.sync ch ≠ 0 then .next s1
    else .next (if ch = s1.refChan then (s1.leaveMember ch).lodsCheck else s1.leaveMember ch)

/-- DS_LOS_CHANGE (R148, R175): LOS of a receiver that is on. -/
def execDsLosChange (ch : Nat) (los : Bool) (s : State) : Host.Outcome State Fault Refusal :=
  if 4 ≤ ch then .fault .noSuchObject
  else
    let old := s.rd Fld.OP_DS_STATUS_LOS
    if !bit (s.rd Fld.OP_DS_STATUS_RXON) ch || bit old ch == los then .next s
    else .next ((s.wr Fld.OP_DS_STATUS_LOS (putBits old ch 1 (b2n los))).raise (if los then 128 else 129) [(8, ch)])

/-- DS_SIGNAL_EVAL (R150, R151): the window of the last 8,000 frames is evaluated, once per second. (log 127, DESIGN CHOICE) -/
def execDsSignalEval (ch : Nat) (s : State) : Host.Outcome State Fault Refusal :=
  if 4 ≤ ch then .fault .noSuchObject
  else
    let x := s.chan ch
    if x.win.length < 8000 || x.evalAt.any (fun t => s.ns64 < t + 1000000000) then .next s
    else
      let corr := x.win.foldl (fun a w => a + w.1) 0
      let uncorr := x.win.foldl (fun a w => a + w.2) 0
      let thr := s.rd Fld.TC_DSC_SDTHR_BITS ch
      let sd := s.on Fld.TC_DSC_STATUS_SD ch
      let sf := s.on Fld.TC_DSC_STATUS_SF ch
      let clean := if uncorr = 0 then x.clean + 1 else 0
      let sd1 := if thr < corr then true else if 2 * corr < thr then false else sd
      let sf1 := if s.rd Fld.TC_DSC_SFTHR_COUNT ch < uncorr then true else if 10 ≤ clean then false else sf
      let s1 := (s.wr Fld.TC_DSC_CORR1S_BITS (min corr (2 ^ 32 - 1)) ch).setChan ch
        { x with evalAt := some s.ns64, clean := clean }
      let s2 := if sd1 == sd then s1 else (s1.flag Fld.TC_DSC_STATUS_SD sd1 ch).raise 132 [(8, ch), (8, b2n sd1)]
      let s3 := if sf1 == sf then s2 else (s2.flag Fld.TC_DSC_STATUS_SF sf1 ch).raise 133 [(8, ch), (8, b2n sf1)]
      .next s3.tellMember

/-- REORDER_TIMEOUT (R160, R161): TIMEOUT µs since the group first held an SDU ahead of the missing BSNs. (log 61, DEDUCED) -/
def execReorderTimeout (g : Nat) (s : State) : Host.Outcome State Fault Refusal :=
  if 4 ≤ g then .fault .noSuchObject
  else match (s.group g).held with
    | [] => .next s
    | h :: r =>
      let age := r.foldl (fun a x => max a (s.ns - x.since).toNat) (s.ns - h.since).toNat
      if age < s.rd ⟨.TC_DS_REORDER, 0, 16⟩ * 1000 then .next s
      else .next ((s.skip g (ahead h.bsn (s.expect g)) 0).settleOne g)

/-- A write of TC_DS_GRP_CTRL.CAP (R165). -/
def State.groupCapWrite (s : State) (g v : Nat) : State :=
  let sum := (List.range 4).foldl (fun a k => a + (if k = g then v % 65536 else s.rd Fld.TC_DS_GRP_CTRL_CAP k)) 0
  if s.rd Fld.TC_DS_GRP_HELD_BYTES g ≠ 0 ∨ s.partBytes 2 < sum * 65536 then s.raise 141 [] else s.wr Fld.TC_DS_GRP_CTRL_CAP v g

/-! ## What waited (R25, R27) -/

/-- The frames that wait in the boundary stores go on while they may. -/
def State.drainStores (s : State) : State := s.drainChannels.drainInboxes

/-- CIPHER_REVIVE_DONE (R467): the known-answer test of a lane ends; frames that waited for a lane go on. (log 78, DEDUCED) -/
def execCipherReviveDone (l : Nat) (pass : Bool) (s : State) : Host.Outcome State Fault Refusal :=
  if 12 ≤ l then .fault .noSuchObject
  else if !s.cx.reviving.contains l then .next s
  else
    let s1 := { s with cx := { s.cx with reviving := s.cx.reviving.filter (· ≠ l) } }
    if pass then
      .next ((((s1.flag Fld.CX_LANE_STAT_QUAR false l).flag Fld.CX_LANE_STAT_FAILKAT false l).capFollow).raise 834 [(8, l)]).drainStores
    else .next (((((((if s1.on Fld.CX_LANE_STAT_QUAR l then s1 else s1.quarantined l)).flag Fld.CX_LANE_STAT_QUAR true l).flag Fld.CX_LANE_STAT_FAILKAT true l).capFollow)).raise 833
      [(8, l), (8, (Config.quarantineCause true).toNat)])

end Sys2Proof.Machine
end

