-- ==== Sys2Proof/Machine/Timebase.lean ====
section
/-! DEFINITION. The timebase and the timing signals at J14 (R262 to R268, R281 to R288), and the statements of time transfer that
commands reach (R294, R307). -/
namespace Sys2Proof.Machine

/-! ## The accumulator (R262, R263, R265, R267, R268) -/

/-- TimebaseWriteRefused (67), counted in REFUSED where the rule says so. -/
def State.tbRefused (s : State) (off : Nat) (src : Src) (counted : Bool := true) : State :=
  (if counted then s.count Fld.TB_STATUS_REFUSED else s).raise 67 [(16, off), (16, srcCode src)]

/-- A write of one half of TB_INCR (R263). -/
def State.incrWrite (s : State) (high : Bool) (v : Nat) (src : Src) : State :=
  if !high then { s with tb := { s.tb with incrLow := BitVec.ofNat 32 v } }
  else
    let x := v % 65536 * 2 ^ 32 + s.tb.incrLow.toNat
    let nom := s.nominal.toNat
    if nom / 1024 < x - nom ∨ nom / 1024 < nom - x then s.tbRefused 0x10 src
    else { s with tb := { s.tb with incrNext := some (BitVec.ofNat 48 x) } }

/-- A write of one half of TB_STEP (R265): accepted once, from any source with authority 0b01 or 0b10. -/
def State.stepWrite (s : State) (high : Bool) (v : Nat) (src : Src) : State :=
  if !high then { s with tb := { s.tb with stepLow := BitVec.ofNat 32 v } }
  else if s.on Fld.TB_STATUS_SETDONE || s.tb.step.isSome then s.tbRefused 0x20 src
  else { s with tb := { s.tb with step := some (BitVec.ofNat 40 (v % 256 * 2 ^ 32 + s.tb.stepLow.toNat), srcCode src) } }

/-- The accepted step is added (R265, R267): scheduled bursts keep their instants, the PPS_OUT edge is disarmed, and CLK10_OUT keeps its
phase. -/
def State.addStep (s : State) : State :=
  match s.tb.step with
  | none => s
  | some (off, _) =>
    let shift := fun t => unsgn 40 ((t : Int) + off.toInt)
    let tb := { s.tb with acc := s.tb.acc + off.signExtend 108 <<< 36, step := none }
    let fib := { s.fib with
      bursts := s.fib.bursts.map (fun b => { b with base := shift b.base, t := shift b.t })
      chans := s.fib.chans.map (fun e => (e.1, { e.2 with psbd := e.2.psbd.map (fun x => (x.1, shift x.2)) })) }
    let s1 := { s with tb := tb, fib := fib }
    ((s1.flag Fld.TB_STATUS_SETDONE true).wrReg .TB_STEP_LAST (off.setWidth 64)).flag Fld.TB_PPSOUT_CTRL_ARMED false

/-- The accumulator takes one increment (R262, R263): a new one applies from this tick on. -/
def State.addIncr (s : State) : State :=
  let i := s.tb.incrNext.getD s.tb.incr
  { s with tb := { s.tb with acc := s.tb.acc + i.setWidth 108, gained := s.tb.gained + i.toNat, incr := i, incrNext := none } }

/-- The accumulator at a tick (R268): the accepted step first, then the increment, the new one where one was written; then what tells of the step
(TimebaseStepped, 66). -/
def State.advance (s : State) : State :=
  let t := s.addStep.addIncr
  match s.tb.step with
  | some (off, src) => t.raise 66 [(40, off.toNat), (16, src)]
  | none => t

/-- A read of TB_NS latches the fraction and the wraps for its requester (R264). -/
def State.latchNs (s : State) (src : Src) : State :=
  { s with tb := { s.tb with latch := Tab.set s.tb.latch (0, 0) (requesterOf src) (s.frac.toNat, s.wrap.toNat) } }

/-! ## PPS and CLK10 (R281 to R285) -/

/-- A write of TB_PPSOUT_NEXT (R282): 1,000 ns to 2³¹ − 1 ns ahead, or refused. -/
def State.ppsNextWrite (s : State) (v : Nat) (src : Src) : State :=
  if 1000 ≤ (BitVec.ofNat 32 v - s.ns).toInt then
    (s.wrReg .TB_PPSOUT_NEXT (BitVec.ofNat 64 (v % 2 ^ 32))).flag Fld.TB_PPSOUT_CTRL_ARMED true
  else s.tbRefused 0x40 src false

/-- A signed compensation of 24 bits. (log 69, DEDUCED) -/
def State.comp (s : State) (f : Fld) : Int := sgn 24 (s.rd f)

/-- The time the accumulator has gained, in 1/256 ns. -/
def State.gained256 (s : State) : Nat := s.tb.gained / 2 ^ 36

/-- The time to the next edge of PPS_OUT, in 1/256 ns, while one is armed. -/
def State.toEdge (s : State) : Option Int :=
  if s.on Fld.TB_PPSOUT_CTRL_ARMED then some (stampDiff (s.rd Fld.TB_PPSOUT_NEXT_NS * 256) s.stamp40) else none

/-- Where CLK10_OUT realigns next, and how far ahead that is: at the NEXT of an edge that COMP has brought forward, or at that of the armed one. (log 92, DESIGN CHOICE) -/
def State.realign (s : State) : Option Int :=
  match s.tb.clkNext with
  | some r => if s.gained256 < r then some ((r : Int) - s.gained256) else s.toEdge
  | none => s.toEdge

/-- A rising edge of CLK10_OUT by its present alignment (R283): that of the last NEXT that has come. (log 92, DESIGN CHOICE) -/
def State.clkRise (s : State) : Nat :=
  let r := match s.tb.clkNext with
    | some r => if s.gained256 < r then s.tb.clkPhase else r
    | none => s.tb.clkPhase
  match s.realign with
  | some left => if left ≤ 0 then ((s.gained256 : Int) + left).toNat else r
  | none => r

/-- PPS_OUT_EDGE (R281, R283, R284): the edge instant, when TB_NS has reached NEXT − COMP. -/
def execPpsOutEdge (s : State) : Host.Outcome State Fault Refusal :=
  let next := s.rd Fld.TB_PPSOUT_NEXT_NS
  let at_ := unsgn 40 ((next * 256 : Nat) - s.comp Fld.TB_PPSOUT_COMP_COMP)
  if !s.on Fld.TB_PPSOUT_CTRL_ARMED || (0 : Int) < stampDiff at_ s.stamp40 then .next s
  else
    let s1 := s.wrReg .TB_PPSOUT_LAST (BitVec.ofNat 64 next)
    let rise := ((s1.gained256 : Int) + stampDiff (next * 256) s1.stamp40).toNat
    let s2 := { s1 with tb := { s1.tb with clkPhase := s.clkRise, clkNext := some rise, todDue := some s1.ns64 } }
    let s3 := if s2.on Fld.TB_PPSOUT_CTRL_EN then s2.emit (.pps (s2.rd Fld.TB_PPSOUT_CTRL_WIDTH)) else s2
    if s3.on Fld.TB_PPSOUT_CTRL_AUTO then .next (s3.wrReg .TB_PPSOUT_NEXT (BitVec.ofNat 64 ((next + 1000000000) % 2 ^ 32)))
    else .next (s3.flag Fld.TB_PPSOUT_CTRL_ARMED false)

/-- The level of CLK10_OUT on the phase of its last alignment (R283). -/
def State.clk10Plain (s : State) : Bool := decide (((s.gained256 : Int) - (s.clkRise : Nat)) % 25600 < 12800)

/-- The level of CLK10_OUT (R283, R284). `short` is how long the period before the next realignment is, where that moves the phase: at
25 ns or less it is not begun, so that the low half-period before it lasts up to 75 ns; from 75 ns its own low half-period ends early. (log 92, DESIGN CHOICE) -/
def State.clk10 (s : State) : Bool :=
  s.on Fld.TB_CLK10_CTRL_EN && match s.realign with
    | none => s.clk10Plain
    | some left =>
      let short := ((s.gained256 : Int) + left - (s.clkRise : Nat)) % 25600
      if left ≤ 0 ∨ short < left ∨ 19200 ≤ short then s.clk10Plain
      else if short ≤ 6400 then false
      else Config.clk10 s.tb.acc.toNat

/-- PPS_IN_EDGE (R285): `fine` is added to the time of the edge, in 1/256 ns. (log 70, DEDUCED) -/
def execPpsInEdge (fine : Int) (s : State) : Host.Outcome State Fault Refusal :=
  if s.rd Fld.KT_BOOT_STATUS_STAGE < 2 then .next s
  else if (match s.tb.ppsAt with | some t => decide (s.ns64 < t + 900000000) | none => false) then .next (s.count Fld.TB_IO_CNT_PPSGLITCH)
  else
    let ts := unsgn 40 ((s.stamp40 : Int) + fine - s.comp Fld.TB_PPSIN_COMP_COMP)
    let s1 := { s with tb := { s.tb with ppsAt := some s.ns64 } }
    let s2 := s1.wrReg .TB_PPSIN_TS (BitVec.ofNat 64 (ts + b2n s1.tsValid * 2 ^ 40 + 2 ^ 63))
    let s3 := s2.completeSlot .TB_PPSIN_STAT Fld.TB_PPSIN_STAT_SEQ
    .next (if s3.on Fld.TB_PPSIN_STAT_LOST then (s3.flag Fld.TB_PPSIN_STAT_LOST false).raise 70 [(40, ts)] else s3)

/-- PPS_IN_LOSS (R285): 1.5 s without an accepted edge. -/
def execPpsInLoss (s : State) : Host.Outcome State Fault Refusal :=
  match s.tb.ppsAt with
  | none => .next s
  | some t =>
    if s.on Fld.TB_PPSIN_STAT_LOST ∨ s.ns64 < t + 1500000000 then .next s
    else .next ((s.flag Fld.TB_PPSIN_STAT_LOST true).raise 69 [(40, s.rd Fld.TB_PPSIN_TS_TS)])

/-! ## Time-of-day sentences (R287, R288) -/

/-- TOD_OUT_SEND (R287): DELAY ms after a PPS_OUT edge; in Timekeep TOD_OUT is silent (R317). -/
def execTodOutSend (s : State) : Host.Outcome State Fault Refusal :=
  match s.tb.todDue with
  | none => .next s
  | some t =>
    if s.ns64 < t + s.rd Fld.TB_TODOUT_CTRL_DELAY * 1000000 then .next s
    else
      let s1 := { s with tb := { s.tb with todDue := none } }
      if !s1.on Fld.TB_TODOUT_CTRL_EN then .next s1
      else if !s1.on Fld.TB_TODOUT_CTRL_FULL then .next ((s1.count Fld.TB_IO_CNT_TODOUTMISS).raise 73 [] 1)
      else if s1.keepsTime then .next s1
      else
        let n := s1.rd Fld.TB_TODOUT_CTRL_LEN
        let bytes := ((List.range 16).flatMap fun k => leBytes (s1.rdReg .TB_TODOUT_BUF 0 k).toNat 4).take n
        .next ({ s1 with tb := { s1.tb with todUntil := some (s1.ns64 + n * 10000000000 / 115200) } }.emit (.tod bytes))

/-- An upper-case hexadecimal digit. -/
def hexDigit (b : Byte) : Nat := if b.toNat < 0x3A then b.toNat - 0x30 else b.toNat - 0x37

/-- A byte is an upper-case hexadecimal digit. -/
def isHex (b : Byte) : Bool := (0x30 ≤ b.toNat && b.toNat < 0x3A) || (0x41 ≤ b.toNat && b.toNat < 0x47)

/-- A received line is a sentence (R286, R288). -/
def todLineOk (l : List Byte) : Bool :=
  let chk := (l.drop 42).take 4
  l.length = 48 && l.take 6 = [0x24, 0x42, 0x4E, 0x54, 0x4F, 0x44] && l.drop 46 = [0x0D, 0x0A] && (l.drop 41).take 1 = [0x2A]
    && chk.all isHex && chk.foldl (fun a b => a * 16 + hexDigit b) 0 = ((l.drop 1).take 40).foldl (fun a b => a + b.toNat) 0 % 65536

/-- TOD_IN_LINE (R288): a line ended; `lasted` is the time since its first byte, in ns. -/
def execTodInLine (line : List Byte) (framing : Bool) (lasted : Nat) (s : State) : Host.Outcome State Fault Refusal :=
  if framing || !todLineOk line then .next ((s.count Fld.TB_IO_CNT_TODINERR).raise 71 [] 1)
  else
    let s1 := (List.range 12).foldl (fun t k =>
      t.wrReg .TB_TODIN_BUF (BitVec.ofNat 64 (leNat ((line.drop (4 * k)).take 4))) 0 k) s
    let fresh := match s.tb.ppsAt with
      | some t => decide (s.ns64 ≤ t + 1000000000 + lasted)
      | none => false
    let s2 := s1.wrReg .TB_TODIN_PPS (BitVec.ofNat 64 (putBits (s1.rdReg .TB_PPSIN_TS).toNat 63 1 (b2n fresh)))
    .next (s2.completeSlot .TB_TODIN_STAT Fld.TB_TODIN_STAT_SEQ)

/-! ## Time transfer (R294, R307) -/

/-- A write of TT_TOD_INFO (R294). With GO the statement is committed, or refused: 0 SFC, 1 NSEC, 2 not in O5. -/
def State.todInfoWrite (s : State) (v : Nat) : State :=
  let put := fun (t : State) => t.wrReg .TT_TOD_INFO (BitVec.ofNat 64 (v % 2 ^ 26))
  let sfc := (s.rdReg .TT_TOD_SFC).toNat
  let now := s.rd Fld.TC_DSC_SFC_SFC s.refChan
  let refuse := fun (why : Nat) => (s.count Fld.TT_TOD_STAT_REFUSED).raise 83 [(32, sfc), (8, Config.recordCode 83 why)]
  if !bit v 31 then put s
  else if s.act ≠ 5 then refuse 2
  else if 480000 < sfc - now ∨ 480000 < now - sfc then refuse 0
  else if 1000000000 ≤ s.rd Fld.TT_TOD_NSEC_NS then refuse 1
  else
    let stmt : Statement := { sfc := sfc, sec := (s.rdReg .TT_TOD_SEC).toNat, nsec := s.rd Fld.TT_TOD_NSEC_NS, info := v % 2 ^ 26
                              gmid := (s.rdReg .TT_TOD_GMID).toNat }
    ({ put s with base := { s.base with stmt := stmt } }.flag Fld.TT_TOD_STAT_VALID true).wr Fld.TT_TOD_STAT_SEQ (s.rd Fld.TT_TOD_STAT_SEQ + 1)

/-- A field of the committed statement's TT_TOD_INFO. -/
def State.stated (s : State) (f : Fld) : Nat := bits s.base.stmt.info f.lo f.len

/-- A write of one half of TT_BC_ID (R307): the first sets CIDV. -/
def State.bcIdWrite (s : State) (high : Bool) (v : Nat) : State :=
  let w := (s.rdReg .TT_BC_ID).toNat
  (s.wrReg .TT_BC_ID (BitVec.ofNat 64 (if high then putBits w 32 32 v else putBits w 0 32 v))).flag Fld.TT_BC_CTRL_CIDV true

end Sys2Proof.Machine
end

