-- ==== Sys2Proof/Machine/Servo.lean ====
section
/-! DEFINITION. The epoch keeper (R269 to R272), the servo (R295 to R305, R309, R313 to R316), the holdover model (R311, R312) and timing I/O
(R282, R286, R317): roles 1, 15, 16 and 19 of the base program set, each as what it does at one of its turns. A turn is the message of timer 0
of the role's context. (log 89, DESIGN CHOICE) -/
namespace Sys2Proof.Machine

/-! ## Numbers -/

/-- The nearest whole number to n/d, halves up. -/
def nearest (n d : Int) : Int := (2 * n + d) / (2 * d)

/-- n/d rounded up. -/
def ceilDiv (n d : Int) : Int := -((-n) / d)

/-- The largest r whose square is at most n, by its bits below 2^k. -/
def rootBits : Nat → Nat → Nat → Nat
  | 0, r, _ => r
  | k + 1, r, n => if (r + 2 ^ k) * (r + 2 ^ k) ≤ n then rootBits k (r + 2 ^ k) n else rootBits k r n

/-- The square root of a number below 2^128, rounded up. -/
def ceilRoot (n : Nat) : Nat :=
  let r := rootBits 64 0 n
  if r * r = n then r else r + 1

/-- A number kept within the signed numbers of a width, as its bits. -/
def satSigned (w : Nat) (x : Int) : Nat := unsgn w (max (-(2 ^ (w - 1) : Nat)) (min ((2 ^ (w - 1) : Nat) - 1) x))

/-- 10⁹. -/
def giga : Nat := 1000000000

/-! ## Turns of a role -/

/-- Arm timer 0 of a context, for a time of TB_NS. -/
def State.turnAt (s : State) (c : Nat) (t : BitVec 32) : State :=
  s.setCtx c { s.ctx c with timers := Tab.set (s.ctx c).timers {} 0 { armed := true, target := t } }

/-- Arm timer 0 of a context, `n` ns ahead. -/
def State.turnIn (s : State) (c n : Nat) : State := s.turnAt c (s.ns + BitVec.ofNat 32 n)

/-- Declare the time of a context's next known event, as pw.next does (R102). -/
def State.declare (s : State) (c : Nat) (t : Option (BitVec 32)) : State := s.setCtx c { s.ctx c with pnext := t }

/-- Replace what the servo keeps. -/
def State.putServo (s : State) (v : Servo) : State := { s with base := { s.base with servo := v } }

/-- Replace what the holdover model keeps. -/
def State.putHo (s : State) (h : Holdover) : State := { s with base := { s.base with ho := h } }

/-! ## The history area (R126, R272, R311) -/

/-- Write to the history area. (log 95, DESIGN CHOICE) -/
def State.keepAt (s : State) (a : Nat) (b : List Byte) : State := { s with save := Tab.write s.save 0 a b }

/-- Read from the history area. -/
def State.keptAt (s : State) (a n : Nat) : Nat := leNat (Tab.read s.save 0 a n)

/-- BASE, UTCOFF, LEAP and BASEV, and whether Locked has been reached since power-on, are kept in the history area (R272). (log 95, DESIGN CHOICE) -/
def State.keepEpoch (s : State) : State :=
  s.keepAt 0x70000 (leBytes (s.rdReg .TT_SERVO_BASE).toNat 8 ++ leBytes (s.rdReg .TT_SERVO_UTC).toNat 8 ++ leBytes (b2n s.base.servo.locked) 8)

/-- Signed numbers of 128 bits one after another. -/
def intBytes (l : List Int) : List Byte := l.flatMap fun x => leBytes (unsgn 128 x) 16

/-- The holdover model and its check state are kept in the history area (R311). (log 95, DESIGN CHOICE) -/
def State.keepModel (s : State) : State :=
  let h := s.base.ho
  (s.keepAt 0x70200 (leBytes (b2n h.loaded) 8 ++ leBytes h.t0 8 ++ leBytes h.lock 8 ++ leBytes h.fails 8 ++ intBytes h.theta ++ intBytes h.p)).keepAt
    0x70400 (leBytes h.hourFor 8 ++ leBytes h.hour.length 8 ++ intBytes ((h.hourTheta ++ List.replicate 5 0).take 5)
      ++ h.hour.flatMap (fun e => intBytes (e.1 :: e.2)))

/-! ## The epoch keeper (R269 to R272) -/

/-- BASE of R297. -/
def State.baseNs (s : State) : Int := (s.rdReg .TT_SERVO_BASE).toInt

/-- BASE is valid. -/
def State.baseValid (s : State) : Bool := s.on Fld.TT_SERVO_UTC_BASEV

/-- observe of R270: the epoch record takes the present count, and BASE, UTCOFF, LEAP and BASEV as the servo publishes them. -/
def State.observe (s : State) : State :=
  let u := (s.rdReg .TT_SERVO_UTC).toNat
  let flags := 1 + bits u 31 1 * 2 + bits u 0 8 * 2 ^ 8 + bits u 8 2 * 2 ^ 16
  let seq := leNat (s.readS 0x200 8)
  (s.latchNs (.ctx 1)).writeS 0x200 (leBytes (seq + 2) 8 ++ leBytes s.ns.toNat 4 ++ leBytes s.wrap.toNat 4
    ++ leBytes (s.rdReg .TT_SERVO_BASE).toNat 8 ++ leBytes flags 8)

/-- Role 1, once a second (R270). -/
def State.epochTurn (s : State) : State := s.observe.turnIn 1 giga

/-- Role 1 starts: BASE, UTCOFF, LEAP and BASEV come back from the history area (R272). (log 95, DESIGN CHOICE) -/
def State.epochStart (s : State) : State :=
  ((s.wrReg .TT_SERVO_BASE (BitVec.ofNat 64 (s.keptAt 0x70000 8))).wrReg .TT_SERVO_UTC (BitVec.ofNat 64 (s.keptAt 0x70008 8))).epochTurn

/-- The present count of ns since power-on with BASE: TAI (R270). -/
def State.tai (s : State) (x : BitVec 32) : Int := (s.extend x).toNat + s.baseNs

/-! ## Measurements (R295, R296)

A source's measurement is the extended count of a stamp less the source's time for it, in 1/256 ns: e without BASE. Source 1 is the shared
fibre and source 2 is J14, as TT_SERVO_STATUS.SRC codes them. -/

/-- A 40-bit stamp, extended, in 1/256 ns. -/
def State.stampCount (s : State) (ts : Nat) : Int := ((s.extend (BitVec.ofNat 32 (ts / 256))).toNat * 256 + ts % 256 : Nat)

/-- The result of the armed frame (R295), none where it is invalid. Its slot has been read (R543). -/
def State.measurePon (s : State) : State × Option Int :=
  match s.base.servo.armed with
  | none => (s, none)
  | some (r, tai) =>
    let ready := !s.asleep 9 && s.on ⟨.TC_DSC_SNAPSTAT, 0, 1⟩ r
    let ok := ready && s.on Fld.TT_TOD_STAT_VALID && !s.on Fld.TC_DSC_SNAPSTAT_MISSED r && s.refChan = r
      && s.on Fld.KT_BOOT_STATUS_TSVALID && s.asymInForce
    (if ready then s.flag ⟨.TC_DSC_SNAPSTAT, 1, 1⟩ true r else s,
     if ok then some (s.stampCount (s.rd Fld.TC_DSC_SNAPTS_TS r) - (tai : Nat) - (s.rd Fld.TT_ASYM_DS_DELAY 0 r : Nat)) else none)

/-- The bytes of the sentence in TB_TODIN_BUF. -/
def State.todLine (s : State) : List Byte := (List.range 12).flatMap fun k => leBytes (s.rdReg .TB_TODIN_BUF 0 k).toNat 4

/-- The decimal number of `n` digits at a place of a line (R286), none where a byte is no digit. -/
def decAt (l : List Byte) (o n : Nat) : Option Nat :=
  let d := (l.drop o).take n
  if d.all (fun b => 0x30 ≤ b.toNat && b.toNat < 0x3A) then some (d.foldl (fun a b => a * 10 + (b.toNat - 0x30)) 0) else none

/-- LEAP of the character at its place in a sentence (R286). -/
def leapOf (l : List Byte) : Nat := if beAt l 24 1 = 0x2B then 1 else if beAt l 24 1 = 0x2D then 2 else 0

/-- A PPS_IN stamp was taken before the last step, so that it is on the old scale (R267) and is discarded (R301): no edge has been accepted since, or
it is not that of the last edge and the step is less than 2 s old. (log 100, DEDUCED) -/
def State.oldPps (s : State) (ts : Nat) : Bool :=
  match s.base.servo.stepAt with
  | none => false
  | some t => decide (s.tb.ppsAt.getD 0 ≤ t) || (decide (ts ≠ s.rd Fld.TB_PPSIN_TS_TS) && decide (s.ns64 < t + 2 * giga))

/-- A sentence that the servo has not yet taken, and the measurement of it (R296); its slot has been read. -/
def State.measureJ (s : State) : State × Option Int :=
  let seq := s.rd Fld.TB_TODIN_STAT_SEQ
  let v := s.base.servo
  if !s.on ⟨.TB_TODIN_STAT, 0, 1⟩ || seq = v.todSeq then (s, none)
  else
    let l := s.todLine
    let pps := (s.rdReg .TB_TODIN_PPS).toNat
    let s1 := (s.flag ⟨.TB_TODIN_STAT, 1, 1⟩ true).putServo { v with todSeq := seq }
    match decAt l 7 12, decAt l 28 3 with
    | some sec, some cls =>
      if bit pps 63 && bit pps 40 && beAt l 26 1 = 0x4C && decide (cls ≤ s.rd Fld.TT_SERVO_CTRL_MINCLASS) then
        (s1, if s.oldPps (pps % 2 ^ 40) then none else some (s.stampCount (pps % 2 ^ 40) - (sec * giga * 256 : Nat)))
      else (s1, none)
    | _, _ => (s1, none)

/-! ## Sources (R297 to R299) -/

/-- The sources that PRIO selects among, the preferred one first. -/
def State.sources (s : State) : List Nat :=
  match s.rd Fld.TT_SERVO_CTRL_PRIO with
  | 0 => [1]
  | 1 => [2]
  | 2 => [1, 2]
  | _ => [2, 1]

/-- Note what a source gave in this second, and since when it is valid (R298). -/
def State.noteSource (s : State) (k : Nat) (m : Option Int) : State :=
  let v := s.base.servo
  let now := s.ns64
  let good := (if m.isSome then [now] else []) ++ (Tab.get v.good [] k).filter (fun t => now < t + 10 * giga)
  let valid := decide (8 ≤ good.length) && (k = 2 || decide (s.stated Fld.TT_TOD_INFO_CLASS ≤ s.rd Fld.TT_SERVO_CTRL_MINCLASS))
  let since := if valid then some ((Tab.get v.since none k).getD now) else none
  s.putServo { v with good := Tab.set v.good [] k good, since := Tab.set v.since none k since, got := Tab.set v.got none k m }

/-- What a source measured in this second. -/
def State.gotOf (s : State) (k : Nat) : Option Int := Tab.get s.base.servo.got none k

/-- e of a source in this second, in 1/256 ns. -/
def State.errorOf (s : State) (k : Nat) : Option Int := (s.gotOf k).map (· + s.baseNs * 256)

/-- A source is valid (R298). -/
def State.sourceValid (s : State) (k : Nat) : Bool := (Tab.get s.base.servo.since none k).isSome

/-- UTCOFF and LEAP as a source states them. -/
def State.publishUtc (s : State) (k : Nat) : State :=
  let l := s.todLine
  let (u, p) := if k = 1 then (s.stated Fld.TT_TOD_INFO_UTCOFF, s.stated Fld.TT_TOD_INFO_LEAP) else ((decAt l 20 3).getD 0, leapOf l)
  (s.wr Fld.TT_SERVO_UTC_UTCOFF u).wr Fld.TT_SERVO_UTC_LEAP p

/-- BASE at the first valid measurement while BASEV = 0 (R297). -/
def State.setBase (s : State) : State :=
  if s.baseValid then s
  else match s.sources.findSome? (fun k => (s.gotOf k).map (fun m => (k, m))) with
    | none => s
    | some (k, m) =>
      ((s.wrReg .TT_SERVO_BASE (BitVec.ofInt 64 (nearest (-m) (2 ^ 40 : Nat) * (2 ^ 32 : Nat)))).publishUtc k).flag Fld.TT_SERVO_UTC_BASEV true

/-- A source may be selected: it has stayed valid for WTR, or it is the one selected (R298). -/
def State.selectable (s : State) (k : Nat) : Bool :=
  match Tab.get s.base.servo.since none k with
  | none => false
  | some t => s.rd Fld.TT_SERVO_STATUS_SRC = k || decide (t + s.rd Fld.TT_SERVO_CFG_WTR * giga ≤ s.ns64)

/-- The selection of R298; ServoSourceChanged (81) at a change. (log 98, DESIGN CHOICE) -/
def State.selectSource (s : State) : State :=
  let old := s.rd Fld.TT_SERVO_STATUS_SRC
  let new := (s.sources.find? s.selectable).getD 0
  if new = old then s
  else (s.wr Fld.TT_SERVO_STATUS_SRC new).raise 81 [(8, old), (8, new), (32, satSigned 32 ((s.errorOf new).getD 0))]

/-- The cross-check of R299. -/
def State.crossCheck (s : State) : State :=
  let v := s.base.servo
  let sel := s.rd Fld.TT_SERVO_STATUS_SRC
  match s.errorOf sel, s.errorOf (3 - sel) with
  | some a, some b =>
    if sel = 0 || !s.sourceValid 1 || !s.sourceValid 2 then (s.wr Fld.TT_SERVO_XDIFF_NS 0x80000000).putServo { v with apart := 0 }
    else
      let far := decide (256000 < (b - a).natAbs)
      let n := if far then v.apart + 1 else 0
      let s1 := s.wr Fld.TT_SERVO_XDIFF_NS (satSigned 32 (nearest (b - a) 256))
      let say := decide (10 ≤ n) && !v.apartSaid
      let s2 := s1.putServo { v with apart := n, apartSaid := far && (v.apartSaid || say) }
      if say then s2.raise 87 [(32, s2.rd Fld.TT_SERVO_XDIFF_NS)] else s2
  | _, _ => (s.wr Fld.TT_SERVO_XDIFF_NS 0x80000000).putServo { v with apart := 0 }

/-! ## The holdover model (R311 to R313) -/

/-- The case temperature, in 0.01 °C. -/
def State.caseTemp (s : State) : Int := sgn 16 (s.measured .KT_OVEN_CASE 0 0 giga)

/-- The case temperature noted about 10 minutes ago, or the oldest there is. (log 99, DESIGN CHOICE) -/
def State.tempBefore (s : State) : Int := ((s.base.ho.temps.getLast?).map (·.2)).getD s.caseTemp

/-- The regressors x of R311 in 10⁻⁶: 1, days since t0, T − 25, its square, and K/min. -/
def State.regressors (s : State) : List Int :=
  let h := s.base.ho
  let t := s.caseTemp
  [1000000, ((s.ns64 : Int) - h.t0) / 86400000, (t - 2500) * 10000, (t - 2500) * (t - 2500) * 100, (t - s.tempBefore) * 1000]

/-- Sum of products. -/
def dot : List Int → List Int → Int
  | a :: l, b :: r => a * b + dot l r
  | _, _ => 0

/-- predict of R311, in 10⁻²⁴. -/
def predict (theta x : List Int) : Int := dot theta x / 1000000

/-- TT_HO_COEF and TT_HO_STATUS show the model; QUAL is shown in TT_SERVO_STATUS as well (R312). -/
def State.showModel (s : State) : State :=
  let h := s.base.ho
  let q := decide (259200 ≤ h.lock)
  let s1 := (List.range 5).foldl (fun t k => t.wrReg .TT_HO_COEF (BitVec.ofInt 64 (nearest ((h.theta[k]?).getD 0) giga)) 0 k) s
  (((s1.wr Fld.TT_HO_STATUS_LOCKHRS (min 65535 (h.lock / 3600))).flag Fld.TT_HO_STATUS_QUAL q).wr Fld.TT_HO_STATUS_FAILS h.fails).flag
    Fld.TT_SERVO_STATUS_QUAL q

/-- The first coefficients: theta[0] from u, theta[1] = 0 and the others from the seed (R311). (log 69, DEDUCED) -/
def State.seedModel (s : State) : Holdover :=
  let seed := fun (k : Nat) => (Config.holdoverSeed s.boot.calibBad k).toInt * giga
  { loaded := true, theta := [-s.base.servo.u, 0, seed 2, seed 3, seed 4], p := (List.range 25).map Config.holdoverP, t0 := s.ns64
    last := s.base.ho.last, temps := s.base.ho.temps }

/-- One update of recursive least squares with forgetting: x, y and the model; lambda is 259,184/259,200. (log 99, DESIGN CHOICE) -/
def rlsUpdate (x : List Int) (y : Int) (h : Holdover) : Holdover :=
  let px := (List.range 5).map fun i => dot ((h.p.drop (5 * i)).take 5) x
  let den := 259184 * (10 ^ 24 : Nat) / 259200 + dot px x
  let k := px.map fun a => if den = 0 then 0 else a * (10 ^ 18 : Nat) / den
  let err := y - predict h.theta x
  { h with theta := List.zipWith (fun t g => t + g * err / (10 ^ 12 : Nat)) h.theta k
           p := (List.range 25).map fun i =>
             ((h.p[i]?).getD 0 - (k[i / 5]?).getD 0 * (px[i % 5]?).getD 0 / (10 ^ 18 : Nat)) * 259200 / 259184 }

/-- hourly_check of R311, after an hour spent Locked: the model, and whether it is disqualified. -/
def hourlyCheck (h : Holdover) : Holdover × Bool :=
  match h.hour.getLast? with
  | none => (h, false)
  | some (y0, x0) =>
    let ph := h.hour.foldl (fun a e => a + ((e.1 - y0) - (predict h.hourTheta e.2 - predict h.hourTheta x0)) * 16) 0
    let fails := if (6 * 10 ^ 16 : Nat) < ph.natAbs then h.fails + 1 else 0
    let g := { h with hour := [], hourTheta := h.theta }
    if fails = 3 then ({ g with lock := min h.lock (48 * 3600), fails := 0 }, true) else ({ g with fails := fails }, false)

/-- sample of R311, and what follows from it. -/
def State.hoSample (s : State) : State :=
  let h0 := if s.base.ho.loaded then s.base.ho else s.seedModel
  let s1 := s.putHo h0
  let x := s1.regressors
  let y := -s.base.servo.u
  let h1 := rlsUpdate x y h0
  let theta := if h1.lock < 86400 then h1.theta.set 1 0 else h1.theta
  let h2 := { h1 with theta := theta, lock := h1.lock + 16, last := s.ns64, hour := (y, x) :: h1.hour
                      hourTheta := if h1.hourTheta.isEmpty then theta else h1.hourTheta }
  let was := s.on Fld.TT_HO_STATUS_QUAL
  let s3 := ((s1.putHo h2).showModel).keepModel
  if s3.on Fld.TT_HO_STATUS_QUAL && !was then s3.raise 84 [(16, s3.rd Fld.TT_HO_STATUS_LOCKHRS)] else s3

/-- The time spent Locked since the role's last turn counts toward the hour, whose end has hourly_check run (R311). -/
def State.hoHour (s : State) : State :=
  let h := s.base.ho
  let spent := h.hourFor + (match h.lockedAt with | some t => s.ns64 - t | none => 0)
  let h1 := { h with hourFor := spent, lockedAt := some s.ns64 }
  if spent < 3600 * giga then s.putHo h1
  else
    let (h2, out) := hourlyCheck { h1 with hourFor := spent - 3600 * giga }
    let s1 := ((s.putHo h2).showModel).keepModel
    if out then s1.raise 85 [(8, Config.recordCode 85 0)] else s1

/-- Role 16, once a second: the temperature is noted, and a sample is taken every 16 s while the servo is Locked, the oven in band and TEEST at
most 50 ns (R311). -/
def State.hoTurn (s : State) : State :=
  let h := s.base.ho
  let s1 := s.putHo { h with temps := (s.ns64, s.caseTemp) :: h.temps.filter (fun e => s.ns64 ≤ e.1 + 600 * giga) }
  let locked := s.rd Fld.TT_SERVO_STATUS_STATE = 2
  let s2 := if locked && s.on Fld.KT_OVEN_STATUS_INBAND && decide (s.rd Fld.TT_SERVO_TEEST_NS ≤ 50) && decide (h.last + 16 * giga ≤ s.ns64)
    then s1.hoSample else s1
  let s3 := if locked then s2.hoHour else s2.putHo { s2.base.ho with lockedAt := none }
  s3.turnIn 25 (if s.keepsTime then 2 * giga else giga)

/-- Role 16 starts: the model comes back from the history area (R311). (log 95, DESIGN CHOICE) -/
def State.hoStart (s : State) : State :=
  let ints := fun (a n : Nat) => (List.range n).map fun k => sgn 128 (s.keptAt (a + 16 * k) 16)
  let h : Holdover := { loaded := s.keptAt 0x70200 8 ≠ 0, t0 := s.keptAt 0x70208 8, lock := s.keptAt 0x70210 8, fails := s.keptAt 0x70218 8
                        theta := ints 0x70220 5, p := ints 0x70270 25, hourFor := s.keptAt 0x70400 8
                        hour := (List.range (s.keptAt 0x70408 8)).map fun k => (sgn 128 (s.keptAt (0x70460 + 96 * k) 16), ints (0x70470 + 96 * k) 5)
                        hourTheta := if s.keptAt 0x70408 8 = 0 then [] else ints 0x70410 5 }
  (if h.loaded then (s.putHo h).showModel else s).hoTurn

/-- A write of TT_HO_CTRL (R312): the seed is loaded again, lock_s is 0 and the model is no longer qualified. (log 69, DEDUCED) -/
def State.modelReset (s : State) (v : Nat) : State :=
  if !(bit v 0 && bits v 8 8 = 0x5A) then s
  else
    let was := s.on Fld.TT_HO_STATUS_QUAL
    let s1 := ((s.putHo s.seedModel).showModel).keepModel
    if was then s1.raise 85 [(8, Config.recordCode 85 1)] else s1

/-! ## The servo (R300 to R305, R309, R313, R315) -/

/-- The rate follows u, in 10⁻²⁴: TB_INCR and TT_SERVO_FREQ (R302). -/
def State.setRate (s : State) (u : Int) : State :=
  let nom := s.nominal.toNat
  let x := unsgn 48 ((nom : Int) + nearest (nom * u) (10 ^ 24 : Nat))
  let s1 := (s.incrWrite false (x % 2 ^ 32) (.ctx 24)).incrWrite true (x / 2 ^ 32) (.ctx 24)
  (s1.wrReg .TT_SERVO_FREQ (BitVec.ofInt 64 (nearest u giga))).putServo { s1.base.servo with u := u }

/-- The update of R302 for a valid e in 1/256 ns. (log 98, DESIGN CHOICE) -/
def State.servoLoop (s : State) (e : Int) : State :=
  let v := s.base.servo
  let bw : Int := s.rd Fld.TT_SERVO_CFG_BW
  let lim : Int := (s.rd Fld.TT_SERVO_CFG_SLEW * 10 ^ 15 : Nat)
  let integ := v.integ - nearest (e * bw * bw * 39478417604357434) (256 * 10 ^ 8 : Nat)
  let p := max (-lim) (min lim (nearest (-(e * bw * 6283185307179586)) (256 * 10 ^ 3 : Nat)))
  (s.putServo { v with integ := integ }).setRate (integ + p)

/-- The mean of u over the 1,000 s that end 10 s before the last valid e (R313). (log 98, DESIGN CHOICE) (log 1, DESIGN CHOICE) -/
def Servo.entryMean (v : Servo) : Int :=
  let l := v.us.filter fun e => e.1 + 10 * giga ≤ v.goodAt && decide (v.goodAt ≤ e.1 + 1010 * giga)
  if l.isEmpty then v.u else nearest (l.foldl (fun a e => a + e.2) 0) l.length

/-- The servo changes its state (R300, R313); ServoStateChanged (80). (log 98, DESIGN CHOICE) -/
def State.servoEnter (s : State) (new : Nat) : State :=
  let v := s.base.servo
  let old := s.rd Fld.TT_SERVO_STATUS_STATE
  let holds := fun (n : Nat) => n = 3 || n = 4
  let v1 := { v with run := 0, locked := v.locked || new = 2 }
  let v2 := if holds new && !holds old then
      { v1 with uEntry := v.entryMean, xEntry := s.regressors, te0 := s.rd Fld.TT_SERVO_TEEST_NS, oos := false, first := none }
    else if holds old && !holds new then { v1 with integ := v.u } else v1
  let s1 := s.putServo v2
  let s2 := match v.first with
    | some (e, d) => if holds old && new = 1 then s1.wrReg .TT_HO_LAST (BitVec.ofNat 64 (satSigned 32 (nearest e 256) + d % 2 ^ 32 * 2 ^ 32)) else s1
    | none => s1
  (s2.wr Fld.TT_SERVO_STATUS_STATE new).raise 80 [(8, old), (8, new), (8, s.rd Fld.TT_SERVO_STATUS_SRC)]

/-- The initial set of R301. -/
def State.initialSet (s : State) (e : Int) : State :=
  let x := unsgn 40 (-e)
  (s.stepWrite false (x % 2 ^ 32) (.ctx 24)).stepWrite true (x / 2 ^ 32) (.ctx 24)

/-- The servo enters Mismatch; PhaseMismatch (82). -/
def State.mismatch (s : State) (e : Int) : State :=
  (s.servoEnter 4).raise 82 [(32, satSigned 32 e), (8, s.rd Fld.TT_SERVO_STATUS_SRC)]

/-- The events of R300 that count valid e in a row: one more has met the test, `need` of them lead to `new`; one that has not starts again. -/
def State.inRow (s : State) (met : Bool) (need new : Nat) : State :=
  let v := s.base.servo
  let n := if met then v.run + 1 else 0
  if need ≤ n then s.servoEnter new else s.putServo { v with run := n }

/-- The state table of R300 for a valid e. (log 98, DESIGN CHOICE) -/
def State.servoValid (s : State) (e : Int) : State :=
  let st := s.rd Fld.TT_SERVO_STATUS_STATE
  let set := s.on Fld.TB_STATUS_SETDONE
  let far := decide (s.rd Fld.TT_SERVO_THR_MISMATCH * 25600 < e.natAbs)
  let near := decide (e.natAbs ≤ s.rd Fld.TT_SERVO_THR_LOCKTHR * 256)
  if !set && (st = 0 || st = 4) then (if s.on Fld.KT_BOOT_STATUS_TSVALID then (s.initialSet e).servoEnter 1 else s)
  else if far then (if st = 4 then s.inRow false 10 1 else if set then s.mismatch e else s.putServo { s.base.servo with run := 0 })
  else match st with
    | 1 => s.inRow near 60 2
    | 2 => s.inRow (!near) 10 1
    | 4 => s.inRow true 10 1
    | _ => s.servoEnter 1

/-- The state table of R300 for a second without a valid e. -/
def State.servoLost (s : State) : State :=
  let v := s.base.servo
  let st := s.rd Fld.TT_SERVO_STATUS_STATE
  if (st = 1 || st = 2 || st = 4) && decide (v.seenAt + s.rd Fld.TT_SERVO_CFG_LOSS * giga ≤ s.ns64) then
    s.servoEnter (if st = 4 || v.locked then 3 else 0)
  else s

/-- A valid e is shown and remembered (R303, R318). -/
def State.noteError (s : State) (e : Int) : State :=
  let v := s.base.servo
  let far := decide (s.rd Fld.TT_SERVO_THR_MISMATCH * 25600 < e.natAbs)
  (s.wr Fld.TT_SERVO_PHASE_E (satSigned 32 e)).putServo
    { v with es := e :: v.es.take 15, seenAt := s.ns64, goodAt := if far then v.goodAt else s.ns64 }

/-- The first measurement that comes back in Holdover, for TT_HO_LAST. -/
def State.noteFirst (s : State) : State :=
  let v := s.base.servo
  if s.rd Fld.TT_SERVO_STATUS_STATE = 3 && v.first.isNone then
    match s.sources.findSome? s.errorOf with
    | some e => s.putServo { v with first := some (e, (s.ns64 - v.goodAt) / giga) }
    | none => s
  else s

/-- The rate after the state table (R302, R313); `e` is the valid e, none where there is none or the initial set has just been made. -/
def State.servoRate (s : State) (e : Option Int) : State :=
  let st := s.rd Fld.TT_SERVO_STATUS_STATE
  let v := s.base.servo
  if st = 3 || st = 4 then s.setRate (v.uEntry - (predict s.base.ho.theta s.regressors - predict s.base.ho.theta v.xEntry))
  else if st = 0 then s
  else
    let s1 := match e with
      | some x => s.servoLoop x
      | none => s
    let w := s1.base.servo
    s1.putServo { w with us := (s.ns64, w.u) :: w.us.filter (fun x => s.ns64 ≤ x.1 + 1030 * giga) }

/-- TEEST of R303 and R315, in ns; `fresh`: there is a valid e in this second. (log 98, DESIGN CHOICE) -/
def State.teest (s : State) (fresh : Bool) : Nat :=
  let v := s.base.servo
  let own := s.rd Fld.TT_SERVO_TEEST_NS
  let allow := 7680 + (if s.rd Fld.TT_SERVO_STATUS_SRC = 1 then (if s.on Fld.TT_ASYM_STAT_PROG then 6400 else 1536) else 0)
  let up := fun (r : Nat) => (ceilDiv ((allow + r : Nat) : Int) 2560).toNat
  let rms := ceilRoot (ceilDiv (v.es.foldl (fun a e => a + 100 * e * e) 0) (max 1 v.es.length : Nat)).toNat
  let t := s.ns64 - v.goodAt
  let h := (if s.on Fld.TT_HO_STATUS_QUAL then 28800 else 14400) * giga
  let n := match s.rd Fld.TT_SERVO_STATUS_STATE with
    | 0 => 999999
    | 1 => if fresh then up (10 * ((v.es.head?).getD 0).natAbs) else own
    | 2 => if fresh then up rms else own
    | _ => v.te0 + (ceilDiv (((s.rd Fld.TT_HO_CFG_SPEC - 30) * t * t : Nat) : Int) (h * h : Nat)).toNat
  min 999999 n

/-- The clockClass of R309. (log 98, DESIGN CHOICE) -/
def State.clockClass (s : State) : Nat :=
  let st := s.rd Fld.TT_SERVO_STATUS_STATE
  match st, s.rd Fld.TT_SERVO_STATUS_SRC with
  | 2, 1 => s.stated Fld.TT_TOD_INFO_CLASS
  | 2, 2 => 6
  | 2, _ => s.rd Fld.TT_SERVO_STATUS_CLASS
  | _, _ =>
    if st = 0 || !s.base.servo.locked then 248
    else if s.rd Fld.TT_SERVO_TEEST_NS ≤ s.rd Fld.TT_HO_CFG_SPEC then 135 else 165

/-- What the servo reports: TEEST, INSPEC, PROG, QUAL, CLASS, with ClockClassChanged (88) before HoldoverOutOfSpec (86) (R303, R309, R315, R319). -/
def State.servoReport (s : State) (fresh : Bool) : State :=
  let n := s.teest fresh
  let ok := decide (n ≤ s.rd Fld.TT_HO_CFG_SPEC)
  let s1 := ((s.wr Fld.TT_SERVO_TEEST_NS n).flag Fld.TT_SERVO_STATUS_INSPEC ok).flag Fld.TT_SERVO_STATUS_PROG
    (s.rd Fld.TT_SERVO_STATUS_SRC = 1 && s.on Fld.TT_ASYM_STAT_PROG)
  let s2 := s1.flag Fld.TT_SERVO_STATUS_QUAL (s1.on Fld.TT_HO_STATUS_QUAL)
  let old := s2.rd Fld.TT_SERVO_STATUS_CLASS
  let new := s2.clockClass
  let s3 := if new = old then s2 else (s2.wr Fld.TT_SERVO_STATUS_CLASS new).raise 88 [(8, old), (8, new)]
  let v := s3.base.servo
  let st := s3.rd Fld.TT_SERVO_STATUS_STATE
  if (st = 3 || st = 4) && !ok && !v.oos then
    (s3.putServo { v with oos := true }).raise 86 [(32, (s3.ns64 - v.goodAt) / giga)]
  else s3

/-- The time of PSBd of a superframe of a channel, from the last one delivered. -/
def State.psbdTime (s : State) (r sfc : Nat) : Option (BitVec 32) :=
  ((s.chan r).psbd).map fun x => BitVec.ofInt 32 ((x.2 / 256 : Nat) + ((sfc : Int) - x.1) * 125000)

/-- next_k and arm_snapshot of R295: the state, and the time of the armed frame. -/
def State.armPon (s : State) : State × Option (BitVec 32) :=
  let v := s.base.servo
  let r := s.refChan
  if !s.on Fld.TT_TOD_STAT_VALID || s.asleep 9 then (s.putServo { v with armed := none }, none)
  else
    let n0 : Int := s.base.stmt.sfc
    let k := ceilDiv ((s.rd Fld.TC_DSC_SFC_SFC r : Int) + 4000 - n0) 8000
    let f := (n0 + 8000 * k).toNat
    let tai := ((s.base.stmt.sec * giga + s.base.stmt.nsec : Nat) + k * giga) * 256
    let s1 := (s.wrReg .TC_DSC_SNAPREQ (BitVec.ofNat 64 (f % 2 ^ 51)) r).snapArm r (f % 2 ^ 51)
    (s1.putServo { v with armed := some (r, tai.toNat) }, s1.psbdTime r f)

/-- The next turn of the servo, and the known event that it declares (R305, R316). (log 98, DESIGN CHOICE) -/
def State.servoNext (s : State) : State :=
  let (s1, f) := s.armPon
  let st := s1.rd Fld.TT_SERVO_STATUS_STATE
  let ahead := fun (t : BitVec 32) => decide (0 < (t - s1.ns).toInt)
  let turn := match f with
    | some t => if ahead t && decide ((t - s1.ns).toInt < 2000000000) then t + 2000000 else s1.ns + BitVec.ofNat 32 giga
    | none => s1.ns + BitVec.ofNat 32 (if s1.keepsTime then 2 * giga else giga)
  let pps := BitVec.ofNat 32 (s1.rd Fld.TB_PPSIN_TS_TS / 256 + 1100000000)
  let pn := if st = 1 || st = 2 then
      (if s1.rd Fld.TT_SERVO_STATUS_SRC = 2 then (if ahead pps then some pps else none) else f.map (· - 2000000))
    else if st = 3 || st = 4 then some turn else none
  (s1.turnAt 24 turn).declare 24 pn

/-! ## Timing I/O (R282, R286, R317) -/

/-- Role 19 holds a vote in D1 throughout Holdover and Mismatch where TODKEEP = 1 (R317). -/
def State.ioVote (s : State) : State :=
  let st := s.rd Fld.TT_SERVO_STATUS_STATE
  let want := s.roleRuns 28 && s.on Fld.TT_HO_CFG_TODKEEP && (st = 3 || st = 4)
  let have_ := s.base.ioVote.filter fun k => Tab.get s.pow.owner 0 (32 + k) = 29
  let put := fun (t : State) (k : Option Nat) => { t with base := { t.base with ioVote := k } }
  match want, have_ with
  | true, none => match s.takeSlot 1 28 with
    | some (k, t) => put t (some k)
    | none => put s none
  | false, some k => put (s.freeSlot 1 k) none
  | _, k => put s k

/-- The first PPS_OUT edge is armed at the TB_NS of a whole second of TAI, at least 1 ms ahead (R282). (log 101, DESIGN CHOICE) -/
def State.armPps (s : State) : State :=
  if s.on Fld.TB_PPSOUT_CTRL_ARMED || !s.baseValid then s
  else
    let left := giga - ((s.tai s.ns) % (giga : Nat)).toNat
    s.ppsNextWrite ((s.ns + BitVec.ofNat 32 (if left < 1000000 then left + giga else left)).toNat) (.ctx 28)

/-- The decimal digits of a number, `n` of them, saturating. -/
def decBytes (n v : Nat) : List Byte :=
  (List.range n).map fun k => BitVec.ofNat 8 (0x30 + min v (10 ^ n - 1) / 10 ^ (n - 1 - k) % 10)

/-- Upper-case hexadecimal digits of a number. -/
def hexBytes (n v : Nat) : List Byte :=
  (List.range n).map fun k => let d := v / 16 ^ (n - 1 - k) % 16; BitVec.ofNat 8 (if d < 10 then 0x30 + d else 0x37 + d)

/-- The state field of a sentence (R309). -/
def State.stateLetter (s : State) : Nat :=
  match s.rd Fld.TT_SERVO_STATUS_STATE with
  | 0 => 0x46
  | 1 => 0x41
  | 2 => 0x4C
  | _ => if s.on Fld.TT_HO_STATUS_QUAL then 0x48 else 0x55

/-- The sentence for an edge at a TAI second (R286, R309). -/
def State.sentence (s : State) (sec : Nat) : List Byte :=
  let comma : List Byte := [0x2C]
  let leap := match s.rd Fld.TT_SERVO_UTC_LEAP with
    | 1 => 0x2B
    | 2 => 0x2D
    | _ => 0x30
  let body : List Byte := [0x42, 0x4E, 0x54, 0x4F, 0x44] ++ comma ++ decBytes 12 sec ++ comma ++ decBytes 3 (s.rd Fld.TT_SERVO_UTC_UTCOFF) ++ comma
    ++ [BitVec.ofNat 8 leap] ++ comma ++ [BitVec.ofNat 8 s.stateLetter] ++ comma ++ decBytes 3 (s.rd Fld.TT_SERVO_STATUS_CLASS) ++ comma
    ++ decBytes 6 (s.rd Fld.TT_SERVO_TEEST_NS) ++ comma ++ hexBytes 2 s.base.ioSeq
  [0x24] ++ body ++ [0x2A] ++ hexBytes 4 (body.foldl (fun a b => a + b.toNat) 0 % 65536) ++ [0x0D, 0x0A]

/-- The sentence of the next edge goes to TB_TODOUT_BUF, with LEN = 48 and FULL = 1 (R287). -/
def State.writeSentence (s : State) : State :=
  if s.keepsTime || s.on Fld.TB_TODOUT_CTRL_FULL || s.tb.todUntil.isSome || !s.baseValid then s
  else
    let l := s.sentence (nearest (s.tai (BitVec.ofNat 32 (s.rd Fld.TB_PPSOUT_NEXT_NS))) giga).toNat
    let s1 := (List.range 12).foldl (fun t k => t.wrReg .TB_TODOUT_BUF (BitVec.ofNat 64 (leNat ((l.drop (4 * k)).take 4))) 0 k) s
    { (s1.wr Fld.TB_TODOUT_CTRL_LEN 48).flag Fld.TB_TODOUT_CTRL_FULL true with base := { s1.base with ioSeq := (s.base.ioSeq + 1) % 256 } }

/-- Role 19 leaves D1 asleep between update visits: in Holdover and Mismatch where TODKEEP = 0, and in Timekeep (R317). (log 101, DESIGN CHOICE) -/
def State.ioQuiet (s : State) : Bool :=
  let st := s.rd Fld.TT_SERVO_STATUS_STATE
  s.keepsTime || ((st = 3 || st = 4) && !s.on Fld.TT_HO_CFG_TODKEEP)

/-- Role 19: it arms the first edge, and 300 ms before each edge writes its sentence (R282, R287); where it leaves D1 asleep, it writes at a visit that
falls within that time, and arms no timer (R317). (log 101, DESIGN CHOICE) -/
def State.ioTurn (s : State) : State :=
  let s1 := s.ioVote.armPps
  let next := BitVec.ofNat 32 (s1.rd Fld.TB_PPSOUT_NEXT_NS)
  let left := (next - s1.ns).toInt
  if s1.ioQuiet then
    let s2 := s1.setCtx 28 { s1.ctx 28 with timers := Tab.set (s1.ctx 28).timers {} 0 {} }
    if s2.on Fld.TB_PPSOUT_CTRL_ARMED && decide (0 ≤ left) && decide (left ≤ 300000000) then s2.writeSentence else s2
  else if !s1.on Fld.TB_PPSOUT_CTRL_ARMED || left < 0 then s1.turnIn 28 giga
  else if left ≤ 300000000 then s1.writeSentence.turnAt 28 (next + 700000000)
  else s1.turnAt 28 (next - 300000000)

/-! ## Turns of the servo (R295 to R305, R272, R301) -/

/-- Role 15, once a second (R295 to R305). -/
def State.servoTurn (s : State) : State :=
  let (s1, pon) := s.measurePon
  let (s2, jin) := s1.measureJ
  let s3 := (((s2.noteSource 1 pon).noteSource 2 jin).setBase).selectSource.crossCheck.noteFirst
  let src := s3.rd Fld.TT_SERVO_STATUS_SRC
  let e := if s3.sourceValid src then s3.errorOf src else none
  let s4 := match e with
    | some x => ((s3.noteError x).servoValid x).publishUtc src
    | none => s3.servoLost
  let made := s4.tb.step.isSome && s3.tb.step.isNone
  let s5 := (((s4.servoRate (if made then none else e)).servoReport e.isSome).keepEpoch).servoNext
  if s5.roleRuns 28 && (s.ioQuiet || s5.ioQuiet) then s5.ioTurn else s5.ioVote

/-- Role 15 starts. (log 95, DESIGN CHOICE) -/
def State.servoStart (s : State) : State :=
  (s.putServo { todSeq := s.rd Fld.TB_TODIN_STAT_SEQ, locked := s.keptAt 0x70010 8 ≠ 0, seenAt := s.ns64, goodAt := s.ns64 }).turnIn 24 giga

/-- After a step the base program set discards what was measured before it, BASE changes by the step and stays invalid until the next valid
measurement sets it, and a new observation is written (R272, R297, R301). (log 100, DEDUCED) -/
def State.stepNoted (s : State) (off : BitVec 40) : State :=
  let s1 := if s.roleRuns 24 then
      let v := s.base.servo
      ((s.wrReg .TT_SERVO_BASE (BitVec.ofInt 64 (s.baseNs + off.toInt / 256))).flag Fld.TT_SERVO_UTC_BASEV false).putServo
        { v with armed := none, todSeq := s.rd Fld.TB_TODIN_STAT_SEQ, got := [], stepAt := some s.ns64 }
    else s
  let s2 := if s1.roleRuns 1 then s1.epochTurn else s1
  let again := [(24, 15), (25, 16), (26, 17), (27, 18), (28, 19)]
  (again.foldl (fun t x => if t.roleRuns x.1 then (if x.1 = 28 && t.ioQuiet then t else t.turnIn x.1 giga) else t) s2).settle

/-- A write of TB_CTRL (R266); the base program set clears BASEV and BASE is set anew (R272, R297). (log 100, DEDUCED) -/
def State.rearm (s : State) (v : Nat) (src : Src) : State :=
  if bit v 0 && bits v 8 8 = 0x5A then
    let s1 := (s.flag Fld.TB_STATUS_SETDONE false).raise 68 [(16, srcCode src)]
    if s1.roleRuns 24 then
      let s2 := s1.flag Fld.TT_SERVO_UTC_BASEV false
      if s2.roleRuns 1 then s2.observe else s2
    else s1
  else s

end Sys2Proof.Machine
end

