-- ==== Sys2Proof/Machine/Clock.lean ====
section
/-! DEFINITION. The boundary clock and the timing ingress (R306 to R309): roles 17, 18 and 22 of the base program set. The layouts of the PTP
messages are those of IEEE 1588. (log 118, PRESUMED) -/
namespace Sys2Proof.Machine

/-- Replace what the boundary clock keeps. -/
def State.putClock (s : State) (k : Clock) : State := { s with base := { s.base with clock := k } }

/-- The context of the boundary clock of a port. -/
def clockCtx (p : Nat) : Nat := if p < 72 then 26 else 27

/-! ## Frames (R306, R308) -/

/-- The MAC address of a port. -/
def macOf (p : Nat) : List Byte := beBytes (Config.portMac p).toNat 6

/-- The head of a G.8275.1 frame of a port: its destination by DA, and the PTP EtherType. -/
def State.multicastHead (s : State) (p : Nat) : List Byte :=
  (if s.on Fld.TT_BC_PORT_DA 0 p then [0x01, 0x80, 0xC2, 0x00, 0x00, 0x0E] else [0x01, 0x1B, 0x19, 0x00, 0x00, 0x00]) ++ macOf p ++ [0x88, 0xF7]

/-- The head of a frame back to the sender of a frame over UDP: its Ethernet and IP addresses exchanged, with a plain IP header. (log 118, PRESUMED) -/
def replyHead (p : Nat) (f : List Byte) : List Byte :=
  let (o, et) := afterTags f
  (f.drop 6).take 6 ++ macOf p ++ (f.drop 12).take (o - 12) ++
    (if et = 0x0800 then [0x45, (f.drop (o + 1)).headD 0, 0, 0, 0, 0, 0x40, 0, 64, 17, 0, 0] ++ (f.drop (o + 16)).take 4 ++ (f.drop (o + 12)).take 4
    else (f.drop o).take 4 ++ [0, 0, 17, 64] ++ (f.drop (o + 24)).take 16 ++ (f.drop (o + 8)).take 16)

/-- The frame of a message behind a head; over UDP the lengths and checksums are filled in. Event messages use port 319, the others 320. (log 118, PRESUMED) -/
def clockFrame (head : List Byte) (m : List Byte) : List Byte :=
  let (o, et) := afterTags head
  if et = 0x88F7 then head ++ m
  else
    let port := if beAt m 0 1 % 16 < 8 then 319 else 320
    let n := m.length + 8
    let udp := beBytes port 2 ++ beBytes port 2 ++ beBytes n 2 ++ [0, 0]
    if et = 0x0800 then fixIp4 (patch head (o + 2) (beBytes (20 + n) 2) ++ udp ++ m) o
    else fixL4 (patch head (o + 4) (beBytes n 2) ++ udp ++ m) 17 ((head.drop (o + 8)).take 32) false (o + 40) n

/-- The common header of a message: its type and length after this header, domain, flags, correctionField, messageTypeSpecific, port identity,
sequenceId and logMessageInterval. -/
def clockHeader (type len dom flags : Nat) (corr : Nat) (spec : Nat) (ident : List Byte) (seq : Nat) (log : Int) : List Byte :=
  let control := if type = 0 then 0 else if type = 1 then 1 else if type = 8 then 2 else if type = 9 then 3 else 5
  beBytes type 1 ++ [2] ++ beBytes (34 + len) 2 ++ beBytes dom 1 ++ [0] ++ beBytes flags 2 ++ beBytes corr 8 ++ beBytes spec 4 ++ ident
    ++ beBytes seq 2 ++ beBytes control 1 ++ beBytes (unsgn 8 log) 1

/-- The port identity of a client port (R307). -/
def State.portIdentity (s : State) (p : Nat) : List Byte := beBytes (s.rdReg .TT_BC_ID).toNat 8 ++ beBytes (p + 1) 2

/-- The domainNumber of a port's profile (R306). -/
def State.clockDomain (s : State) (p : Nat) : Nat :=
  if s.on Fld.TT_BC_PORT_PROF 0 p then s.rd Fld.TT_BC_CTRL_DOM2 else s.rd Fld.TT_BC_CTRL_DOM1

/-- A PTP timestamp: 48 bits of seconds and 32 of nanoseconds. -/
def ptpTime (t : Int) : List Byte := beBytes (unsgn 48 (t / (giga : Nat))) 6 ++ beBytes (t % (giga : Nat)).toNat 4

/-- The next sequenceId of a message type on a port. -/
def State.takeSeq (s : State) (p type : Nat) : State × Nat :=
  let k := s.base.clock
  let n := Tab.get k.seq 0 (16 * p + type)
  (s.putClock { k with seq := Tab.set k.seq 0 (16 * p + type) ((n + 1) % 65536) }, n)

/-- A frame of the boundary clock is emitted on its port's highest class, with a transmit stamp where a tag is given; false where there is no
buffer for it. (log 102, DESIGN CHOICE) -/
def State.clockSend (s : State) (p : Nat) (f : List Byte) (tag : Option Nat) : State × Bool :=
  let c := clockCtx p
  let stamp := tag.map fun t => (c, (s.ctx c).gen.toNat, t)
  let x := s.placeFor (ctxEngine c) (8 * p + 7) { inport := 255, len := f.length + 4, data := f, rset := s.activeSet, stamp := stamp }
  (x.1, x.2 ≠ statusWord 0x03)

/-- Sync of a port is sent one-step (R308). -/
def State.oneStepPort (s : State) (p : Nat) : Bool := !s.on Fld.TT_BC_PORT_TWOSTEP 0 p && !s.on Fld.CX_PORT_CFG_PROTECT p

/-- Send a Sync behind a head (R278, R308): one-step with the reference time in it, or two-step with a stamp asked for. (log 102, DESIGN CHOICE) -/
def State.sendSync (s : State) (p : Nat) (head : List Byte) (unicast : Bool) (log : Int) : State :=
  let (s1, seq) := s.takeSeq p 0
  let id := s1.portIdentity p
  let dom := s1.clockDomain p
  let uni := b2n unicast * 0x400
  let now := ptpTime (s1.tai s1.ns)
  if s1.oneStepPort p then
    ((s1.flag Fld.MC_TS_CTRL_ONESTEP true p).clockSend p (clockFrame head (clockHeader 0 10 dom uni 0 s1.ns.toNat id seq log ++ now)) none).1
  else
    let k := s1.base.clock
    let x := s1.clockSend p (clockFrame head (clockHeader 0 10 dom (0x200 + uni) 0 0 id seq log ++ now)) (some k.tag)
    if !x.2 then x.1
    else
      let w := x.1.base.clock
      x.1.putClock { w with tag := (k.tag + 1) % 256
                            waits := (w.waits.filter (fun e => e.1 ≠ k.tag)) ++ [(k.tag, p, head, clockHeader 8 10 dom uni 0 0 id seq log ++ now)] }

/-- A transmit stamp comes back: the Follow_Up of its Sync is sent, unless the Sync was dropped (R277, R308). -/
def State.followUp (s : State) (p tag : Nat) (word : Nat) : State :=
  let k := s.base.clock
  match k.waits.find? (fun e => e.1 = tag && e.2.1 = p) with
  | none => s
  | some (_, _, head, m) =>
    let s1 := s.putClock { k with waits := k.waits.filter (fun e => e.1 ≠ tag) }
    if bit word 42 then s1
    else
      let t := s1.tai (BitVec.ofNat 32 (word / 256 % 2 ^ 32))
      (s1.clockSend p (clockFrame head (patch (patch m 8 (beBytes (word % 256 * 256) 8)) 34 (ptpTime t))) none).1

/-- Send an Announce behind a head (R306, R309). (log 118, PRESUMED) -/
def State.sendAnnounce (s : State) (p : Nat) (head : List Byte) (unicast : Bool) (log : Int) : State :=
  let (s1, seq) := s.takeSeq p 11
  let cls := s1.rd Fld.TT_SERVO_STATUS_CLASS
  let locked := s1.rd Fld.TT_SERVO_STATUS_STATE = 2
  let fibre := locked && s1.rd Fld.TT_SERVO_STATUS_SRC = 1
  let leap := s1.rd Fld.TT_SERVO_UTC_LEAP
  let flags := b2n unicast * 0x400 + b2n (leap = 1) + b2n (leap = 2) * 2 + 0x0C + b2n locked * 0x30
  let own := (s1.rdReg .TT_BC_ID).toNat
  let gm := s1.base.stmt.gmid
  let acc := if locked then 0x21 else 0xFE
  let src := if fibre then 0x40 else if locked then 0x20 else 0xA0
  let body := ptpTime (s1.tai s1.ns) ++ beBytes (s1.rd Fld.TT_SERVO_UTC_UTCOFF) 2 ++ [0, 128] ++ beBytes cls 1 ++ beBytes acc 1
    ++ beBytes (Config.clockVariance cls).toNat 2 ++ beBytes (s1.rd Fld.TT_BC_CTRL_PRI2) 1 ++ beBytes (if fibre && gm ≠ 0 then gm else own) 8
    ++ beBytes (if fibre then s1.stated Fld.TT_TOD_INFO_STEPS + 1 else 0) 2 ++ beBytes src 1
  (s1.clockSend p (clockFrame head (clockHeader 11 30 (s1.clockDomain p) flags 0 0 (s1.portIdentity p) seq log ++ body)) none).1

/-! ## Ports and turns (R305, R307, R319) -/

/-- STATE of a port follows EN, CIDV and BASEV; BoundaryClockPortState (89) at a change. A port that becomes MASTER sends at once, and one that
does not stay it loses its grants. (log 102, DESIGN CHOICE) -/
def State.clockPort (s : State) (p : Nat) : State :=
  let st := if !s.on Fld.TT_BC_PORT_EN 0 p then 0 else if s.on Fld.TT_BC_CTRL_CIDV && s.baseValid then 2 else 1
  if st = s.rd Fld.TT_BC_PORT_STATE 0 p then s
  else
    let k := s.base.clock
    let due := if st = 2 then s.ns64 else 0
    let s1 := s.putClock { k with due := Tab.set (Tab.set k.due 0 (2 * p) due) 0 (2 * p + 1) due, grants := k.grants.filter (fun g => g.port ≠ p) }
    (s1.wr Fld.TT_BC_PORT_STATE st 0 p).raise 89 [(8, p), (8, st)]

/-- The next time after `now` of a transmission that was due at `t`. -/
def nextDue (t period now : Nat) : Nat := if now < t + period then t + period else now + period

/-- One scheduled multicast message of a port, where it is due. -/
def State.clockDue (s : State) (p : Nat) (announce : Bool) : State :=
  let j := 2 * p + b2n announce
  let t := Tab.get s.base.clock.due 0 j
  if s.rd Fld.TT_BC_PORT_STATE 0 p ≠ 2 || s.on Fld.TT_BC_PORT_PROF 0 p || s.ns64 < t then s
  else
    let k := s.base.clock
    let s1 := s.putClock { k with due := Tab.set k.due 0 j (nextDue t (if announce then 125000000 else 62500000) s.ns64) }
    if announce then s1.sendAnnounce p (s1.multicastHead p) false (-3) else s1.sendSync p (s1.multicastHead p) false (-4)

/-- The interval of a grant, in ns. -/
def BcGrant.period (g : BcGrant) : Nat := if g.log < 0 then giga / 2 ^ (-g.log).toNat else giga * 2 ^ g.log.toNat

/-- One granted message, where it is due. -/
def State.grantDue (s : State) (g : BcGrant) : State :=
  if g.kind = 9 || s.ns64 < g.due then s
  else
    let k := s.base.clock
    let s1 := s.putClock { k with grants := k.grants.map fun x => if x = g then { x with due := nextDue x.due x.period s.ns64 } else x }
    if g.kind = 11 then s1.sendAnnounce g.port g.head true g.log else s1.sendSync g.port g.head true g.log

/-- The times at which a context of the boundary clock next sends. -/
def State.clockTimes (s : State) (c : Nat) : List Nat :=
  let mine := fun (p : Nat) => clockCtx p = c
  ((s.base.clock.due.filter (fun e => mine (e.1 / 2) && s.rd Fld.TT_BC_PORT_STATE 0 (e.1 / 2) = 2 && !s.on Fld.TT_BC_PORT_PROF 0 (e.1 / 2))).map (·.2))
    ++ ((s.base.clock.grants.filter (fun g => mine g.port && g.kind ≠ 9)).map (·.due))

/-- Roles 17 and 18: the states of the ports, what is due, and the next transmission, which is declared (R305). -/
def State.clockTurn (s : State) (c : Nat) : State :=
  let ports := (List.range 72).map (· + (if c = 26 then 0 else 72))
  let s1 := ports.foldl State.clockPort s
  let k := s1.base.clock
  let s2 := s1.putClock { k with grants := k.grants.filter (fun g => s1.ns64 < g.till && s1.on Fld.TT_BC_PORT_PROF 0 g.port) }
  let s3 := ports.foldl (fun t p => (t.clockDue p false).clockDue p true) s2
  let s4 := (s3.base.clock.grants.filter (fun g => clockCtx g.port = c)).foldl State.grantDue s3
  match s4.clockTimes c with
  | [] => s4.setCtx c { s4.ctx c with timers := Tab.set (s4.ctx c).timers {} 0 {}, pnext := none }
  | t :: l =>
    let at_ := s4.ns + BitVec.ofNat 32 (min (2 * giga) (l.foldl min t - s4.ns64))
    (s4.turnAt c at_).declare c (some at_)

/-- Both contexts of the boundary clock act on a change. -/
def State.clockFollow (s : State) : State :=
  ([26, 27].foldl (fun t c => if t.roleRuns c then t.clockTurn c else t) s).settle

/-! ## Reception (R306 to R308) -/

/-- A frame from a client port that is addressed to an enabled port of the boundary clock: the offset of its message. (log 102, DESIGN CHOICE) -/
def State.addressed (s : State) (p : Nat) (f : List Byte) : Option Nat :=
  if 144 ≤ p || !s.on Fld.TT_BC_PORT_EN 0 p then none
  else match ptpOffsetIn [319, 320] f with
    | none => none
    | some (o, u, _) =>
      let dst := beAt f 0 6
      let mine := if s.on Fld.TT_BC_PORT_PROF 0 p then u.isSome && decide (f.take 6 = macOf p)
        else u.isNone && (dst = 0x011B19000000 || dst = 0x0180C200000E)
      if mine && decide (o + 34 ≤ f.length) && beAt f (o + 4) 1 = s.clockDomain p then some o else none

/-- How many Delay_Req of a port the policer passes in a second: twice the profile's rate, or twice what is granted (R307). (log 102, DESIGN CHOICE) -/
def State.delayRate (s : State) (p : Nat) : Nat :=
  if s.on Fld.TT_BC_PORT_PROF 0 p then
    ((s.base.clock.grants.filter (fun g => g.port = p && g.kind = 9 && decide (s.ns64 < g.till))).map (fun g => 2 * giga / g.period)).foldl (· + ·) 0
  else 32

/-- The policer of a client port's Delay_Req, at the rate of the ports it serves and never above its burst (R307, R455). (log 132, DESIGN CHOICE) -/
def State.delayPolice (s : State) (p : Nat) : State × Bool :=
  let k := 1008 + p % 16
  let rate := ((List.range 9).map (fun n => s.delayRate (p % 16 + 16 * n))).foldl (· + ·) 0
  let h := (s.policer k).accrue s.ns64 false
  { s with tm := { s.tm with policers := Tab.set s.tm.policers {} k { h with rate := rate } } }.police k 1

/-- The unicast grant that a Delay_Req of a port comes under: that of its sender. -/
def State.delayGrant (s : State) (p : Nat) (id : List Byte) : Option BcGrant :=
  s.base.clock.grants.find? (fun g => g.port = p && g.kind = 9 && g.ident = id && decide (s.ns64 < g.till))

/-- Delay_Req is policed (R307) and answered (R308); of a G.8275.2 requester only under its grant (R306). (log 118, PRESUMED) -/
def State.delayReq (s : State) (p o : Nat) (f : List Byte) (ts : Nat) (tsv : Bool) : State :=
  let k := s.base.clock
  let (since, n) := Tab.get k.reqs (0, 0) p
  let fresh := n = 0 || decide (since + giga ≤ s.ns64)
  let ungranted := s.on Fld.TT_BC_PORT_PROF 0 p && (s.delayGrant p ((f.drop (o + 20)).take 10)).isNone
  let pol := s.delayPolice p
  if ungranted || (!fresh && decide (s.delayRate p ≤ n)) || !pol.2 then pol.1.count Fld.TT_BC_CNT_EXCESS
  else
    let s1 := pol.1.putClock { k with reqs := Tab.set k.reqs (0, 0) p (if fresh then (s.ns64, 1) else (since, n + 1)) }
    if s1.rd Fld.TT_BC_PORT_STATE 0 p ≠ 2 || !tsv then s1
    else
      let uni := s1.on Fld.TT_BC_PORT_PROF 0 p
      let id := (f.drop (o + 20)).take 10
      let log := match s1.delayGrant p id with
        | some g => g.log
        | none => -4
      let corr := unsgn 64 (sgn 64 (beAt f (o + 8) 8) - (ts % 256 * 256 : Nat))
      let m := clockHeader 9 20 (s1.clockDomain p) (b2n uni * 0x400) corr 0 (s1.portIdentity p) (beAt f (o + 30) 2) log
        ++ ptpTime (s1.tai (BitVec.ofNat 32 (ts / 256))) ++ id
      (s1.clockSend p (clockFrame (if uni then replyHead p f else s1.multicastHead p) m) none).1

/-- A Signaling message with one TLV back to a requester. -/
def State.sendSignal (s : State) (p : Nat) (f : List Byte) (o : Nat) (tlv : List Byte) : State :=
  let (s1, seq) := s.takeSeq p 12
  let m := clockHeader 12 (10 + tlv.length) (s1.clockDomain p) 0x400 0 0 (s1.portIdentity p) seq 127 ++ (f.drop (o + 20)).take 10 ++ tlv
  (s1.clockSend p (clockFrame (replyHead p f) m) none).1

/-- A request for unicast transmission (R306): granted within the rates and the limits on grants, else refused with a duration of 0. -/
def State.requestUnicast (s : State) (p : Nat) (f : List Byte) (o kind : Nat) (log : Int) (secs : Nat) : State :=
  let k := s.base.clock
  let id := (f.drop (o + 20)).take 10
  let others := k.grants.filter fun g => decide (s.ns64 < g.till) && !(g.port = p && g.kind = kind && g.ident = id)
  let rate := if kind = 11 then -3 ≤ log && log ≤ 0
    else (kind = 0 || kind = 9) && decide (-7 ≤ log) && decide (log ≤ 0) && decide (sgn 4 (s.rd Fld.TT_BC_PORT_LOGMIN 0 p) ≤ log)
  let ok := rate && s.rd Fld.TT_BC_PORT_STATE 0 p = 2 && decide (0 < secs) && decide ((others.filter (fun g => g.port = p)).length < 16)
    && decide (others.length < 512)
  let g : BcGrant := { port := p, kind := kind, log := log, due := s.ns64, till := s.ns64 + secs * giga, head := replyHead p f, ident := id }
  let s1 := if ok then s.putClock { k with grants := others ++ [g] } else s
  s1.sendSignal p f o ([0, 5, 0, 8] ++ beBytes (kind * 16) 1 ++ beBytes (unsgn 8 log) 1 ++ beBytes (if ok then secs else 0) 4 ++ [0, 1])

/-- A request is cancelled and the cancellation acknowledged. -/
def State.cancelUnicast (s : State) (p : Nat) (f : List Byte) (o kind : Nat) : State :=
  let k := s.base.clock
  let id := (f.drop (o + 20)).take 10
  let s1 := s.putClock { k with grants := k.grants.filter fun g => !(g.port = p && g.kind = kind && g.ident = id) }
  s1.sendSignal p f o ([0, 7, 0, 2] ++ beBytes (kind * 16) 1 ++ [0])

/-- The TLVs of a Signaling message from an offset on; whether one of them belonged to unicast negotiation. -/
def State.signaling (s : State) (p : Nat) (f : List Byte) (o : Nat) : Nat → Nat → State × Bool
  | 0, _ => (s, false)
  | n + 1, at_ =>
    if f.length < at_ + 4 ∨ o + beAt f (o + 2) 2 < at_ + 4 then (s, false)
    else
      let type := beAt f at_ 2
      let kind := beAt f (at_ + 4) 1 / 16
      let mine := type = 4 || type = 6
      let s1 := if type = 4 then s.requestUnicast p f o kind (sgn 8 (beAt f (at_ + 5) 1)) (beAt f (at_ + 6) 4)
        else if type = 6 then s.cancelUnicast p f o kind
        else s
      let r := s1.signaling p f o n (at_ + 4 + beAt f (at_ + 2) 2)
      (r.1, mine || r.2)

/-- A PTP message addressed to the boundary clock (R307, R308). -/
def State.clockReceive (s : State) (p o : Nat) (f : List Byte) (ts : Nat) (tsv : Bool) : State :=
  match beAt f o 1 % 16 with
  | 1 => s.delayReq p o f ts tsv
  | 11 => s.count Fld.TT_BC_CNT_IGNORED
  | 12 =>
    if s.on Fld.TT_BC_PORT_PROF 0 p then
      let r := s.signaling p f o 32 (o + 44)
      if r.2 then (if r.1.roleRuns (clockCtx p) then r.1.clockTurn (clockCtx p) else r.1) else r.1.count Fld.TT_BC_CNT_IGNORED
    else s.count Fld.TT_BC_CNT_IGNORED
  | _ => s

/-- A packet delivered to the timing ingress (role 22): a PTP message addressed to the boundary clock goes to it, and its packet is dropped; any
other is traffic, and is classified again, or dropped where it has been. (log 102, DESIGN CHOICE) -/
def State.ingress (s : State) (c : Nat) (p : Packet) : State :=
  let drop := fun (t : State) => (t.discard p).count Fld.PR_ENG_PROGDROP_COUNT (ctxEngine c)
  match (if s.roleRuns (clockCtx p.inport) then s.addressed p.inport p.data else none) with
  | some o => drop (s.clockReceive p.inport o p.data p.ts p.tsv)
  | none =>
    if p.pass2 then drop s
    else ({ s with sv := { s.sv with rx := Tab.upd s.sv.rx [] 145 (· ++ [{ p with pass2 := true }]) } }).wakePath

end Sys2Proof.Machine
end

