-- ==== Sys2Proof/Machine/Roles.lean ====
section
/-! DEFINITION. The other roles of the base program set that the block itself carries out: the supervisor (R109, R125), the predictor (R247 to R249),
the hold's start-up (R256) and the state picker (R507, R508); how a role starts and takes a message; and the tick of the timebase (R262, R268), at
which the supervisor runs. (log 89, DESIGN CHOICE) -/
namespace Sys2Proof.Machine

/-! ## The predictor (R247, R248) -/

/-- Insert into a rising list of numbers. -/
def insertInt (x : Int) : List Int → List Int
  | [] => [x]
  | y :: r => if x ≤ y then x :: y :: r else y :: insertInt x r

/-- The median of the intervals between the last grants, newest first; the lower middle one of an even number, 0 of none. (log 104, DESIGN CHOICE) -/
def medianInterval (grants : List Int) : Int :=
  let l := (List.zipWith (fun a b => a - b) grants (grants.drop 1)).foldr insertInt []
  (l[(l.length - 1) / 2]?).getD 0

/-- The flow IDs of an allocation in the predictor flow table: up to 16, and a 0 ends the list. -/
def State.predFlows (s : State) (a : Nat) : List Nat :=
  ((List.range 16).map fun k => leNat (s.readS (0x80000 + 32 * a + 2 * k) 2)).takeWhile (· ≠ 0)

/-- The bytes that a list of flows has carried since the last look, with 8 for each packet. -/
def State.arrivals (s : State) : List Nat → State × Nat
  | [] => (s, 0)
  | f :: r =>
    let x := s.flowstat f
    let y := x.1.arrivals r
    (y.1, x.2.1 + 8 * x.2.2 + y.2)

/-- BYTES of the prediction, from the 16 sums over the horizon (R247; log 104, DESIGN CHOICE): the mean and three mean deviations, capped at twice the peak. -/
def predBytes (w : List Nat) : Nat :=
  let sum : Nat := w.foldl (· + ·) 0
  let dev : Nat := w.foldl (fun (a x : Nat) => a + (((16 * x : Nat) : Int) - (sum : Nat)).natAbs) 0
  let pred := min (16 * sum + 3 * dev) (512 * w.foldl max 0)
  min (2 ^ 30 - 1) ((pred + 16383) / 16384)

/-- on_bin_end of R247 for an allocation whose bin boundary has come. (log 104, DESIGN CHOICE) -/
def State.binEnd (s : State) (a : Nat) : State :=
  match Tab.get s.base.pred none a with
  | none => s
  | some p =>
    let period : Int := (s.rd Fld.TM_PRED_CFG_PERIOD 0 a * 1000 : Nat)
    let t : Int := (s.extend s.ns).toNat
    if period = 0 || t < p.epoch + ceilDiv (p.next * period) 64 then s
    else
      let n := ((t - p.epoch) * 64 / period).toNat
      let bin := n % 64
      let (s1, arr) := s.arrivals (s.predFlows a)
      let hist := Tab.set p.hist 0 (16 * bin + p.cycle % 16) arr
      let cycle := if bin = 63 then p.cycle + 1 else p.cycle
      let s2 := { s1 with base := { s1.base with pred := Tab.set s1.base.pred none a (some { p with next := n + 1, cycle := cycle, hist := hist }) } }
      if cycle < 16 then s2.setReady a false 0
      else
        let h := min period (max (medianInterval p.grants) (((s2.qstat (1152 + 4 * a)).last.getD 0 : Nat) : Int))
        let hb := (ceilDiv (h * 64) period).toNat
        let w := (List.range 16).map fun k => (List.range hb).foldl (fun x j => x + Tab.get hist 0 (16 * ((bin + j + 1) % 64) + k)) 0
        (s2.wr Fld.TM_PRED_VAL_BYTES (predBytes w) 0 a).setReady a true 0

/-- Role 10 at its timer: the boundaries that have come, and the next. -/
def State.predTurn (s : State) : State := ((s.base.pred.map (·.1)).foldl State.binEnd s).predArm

/-! ## Hold (R256) -/

/-- Role 11 starts: TM_HOLD_CTRL and TM_HOLD_DRAIN take the site's configuration. (log 103, DESIGN CHOICE) -/
def State.siteHold (s : State) : State :=
  match Config.siteHold with
  | none => s
  | some (ctrl, drain) =>
    let old := (s.rdReg .TM_HOLD_DRAIN).toNat
    let s1 := (s.wrReg .TM_HOLD_CTRL (BitVec.ofNat 64 (ctrl.toNat % 2 ^ 27))).wrReg .TM_HOLD_DRAIN (drain.zeroExtend 64)
    s1.drainWrote old drain.toNat

/-- Role 11 abandons every hold where the site's policy so decides (R256). (log 134, DESIGN CHOICE) -/
def State.siteTurn (s : State) : State :=
  if !s.roleRuns 16 || s.asleep 1 || s.asleep 5 || !Config.siteAbandons s.tb.acc.toNat then s
  else ((List.range 512).filter (fun a => 2 ≤ s.holdState a)).foldl (fun t a => t.holdForce (a + 2 ^ 13)) s

/-! ## The OMCI channel (R218, R224, R256) -/

/-- Role 7 takes the oldest entry of the receive ring to the host; role 11 is told of a switch that it announces. (log 134, DESIGN CHOICE) -/
def State.omciTurn (s : State) : State :=
  let n := s.rd Fld.TC_OMCI_RXRING_ENTRIES
  let k := s.rd Fld.TC_OMCI_RXPTR_RD
  if !s.roleRuns 12 || [1, 5, 6, 7, 9].any s.asleep || !Config.omciTakes s.tb.acc.toNat || n = 0 || k % n = s.rd Fld.TC_OMCI_RXPTR_WR then s
  else
    let o := s.rd Fld.TC_OMCI_RXRING_BASE + 2048 * (k % n)
    let b := Tab.read s.hbm 0 (hbmKey 3 o) 2048
    let sdu := (b.drop 8).take (leNat (b.take 2))
    let s1 := (s.wr Fld.TC_OMCI_RXPTR_RD ((k + 1) % n)).emit (.omci (leNat ((b.drop 2).take 2)) sdu)
    if s1.roleRuns 16 then (Config.omciSwitch sdu).foldl (fun t a => t.holdForce (a % 512 + 2 ^ 12)) s1 else s1

/-- Role 7 sends what a message asks for on the upstream OMCI channel, queue 3196 (R224). (log 134, DESIGN CHOICE) -/
def State.omciSend (s : State) (m : Msg) : State :=
  match Config.omciFrame m.body with
  | some f => ((s.wakeFor 5).offer 3196 { queue := 3196, len := f.length, data := f }).1
  | none => s

/-! ## The state picker (R507, R508) -/

/-- The longest exit latency of a depth, in ns (R493, EXIT of R507). -/
def exitLatency (depth : Nat) : Int := if depth = 0 then 0 else if depth = 1 then 2000 else if depth = 2 then 80000 else 4000000

/-- The shortest stay that repays a depth, in ns (RESID of R507). -/
def residency (depth : Nat) : Int := if depth = 0 then 0 else if depth = 1 then 10000 else if depth = 2 then 400000 else 20000000

/-- write_target of R507: a depth, and a wake time or none. -/
def State.writeTarget (s : State) (d depth : Nat) (wake : Option (BitVec 32)) : State :=
  let s1 := match wake with
    | some t => s.wr Fld.PW_DOM_WAKE_NS t.toNat d
    | none => s
  (s1.wr Fld.PW_DOM_TARGET_DEPTH depth d).flag Fld.PW_DOM_TARGET_WVALID wake.isSome d

/-- The known event of a domain, where it has one. -/
def State.knownEvent (s : State) (d : Nat) : Option (BitVec 32) :=
  if s.on Fld.PW_DOM_NEXT_VALID d then some (BitVec.ofNat 32 (s.rd Fld.PW_DOM_NEXT_NS d)) else none

/-- The depth that R507 chooses for an event that is `left` ns away. -/
def State.pickDepth (s : State) (left : Int) : Nat :=
  let fits := fun (k : Nat) => decide (exitLatency k + residency k + (s.rd Fld.PW_CFG_GUARD : Nat) ≤ left)
  min (if fits 3 then 3 else if fits 2 then 2 else if fits 1 then 1 else 0) (s.rd Fld.PW_CTRL_MAXDEPTH)

/-- The target of one domain, where `any` is the device's earliest event. -/
def State.pickDomain (now : BitVec 32) (any : Option (BitVec 32)) (s : State) (d : Nat) : State :=
  match (s.knownEvent d).orElse (fun _ => any) with
  | none => s.writeTarget d 1 none
  | some h =>
    let depth := s.pickDepth (h - now).toInt
    s.writeTarget d depth (some (h - BitVec.ofInt 32 (exitLatency depth) - BitVec.ofNat 32 (s.rd Fld.PW_CFG_GUARD)))

/-- pick of R507. -/
def State.pick (s : State) : State :=
  let now := s.ns
  let soonest := fun (a : Option (BitVec 32)) (d : Nat) => match a, s.knownEvent d with
    | some x, some y => some (if (x - now).toInt ≤ (y - now).toInt then x else y)
    | none, y => y
    | x, none => x
  let any := (List.range' 1 12).foldl soonest none
  (List.range' 1 12).foldl (State.pickDomain now any) s

/-! ## Roles at work (R85, R110) -/

/-- The supervisor feeds the watchdog, and arms its timer so that D1 is awake for the next time (R125, R505). (log 105, DEDUCED) -/
def State.superviseTurn (s : State) : State :=
  (if s.on Fld.KT_WDOG_EN then { s with boot := { s.boot with fed := s.ns64 } } else s).turnIn 0 500000000

/-- What a role does when its context is started. (log 89, DESIGN CHOICE) -/
def State.roleStart (s : State) (c : Nat) : State :=
  match c with
  | 0 => { s with base := { s.base with left := [] } }.superviseTurn
  | 1 => s.epochStart
  | 15 => s.predArm
  | 16 => s.siteHold
  | 24 => s.servoStart
  | 25 => s.hoStart
  | 26 => s.clockTurn 26
  | 27 => s.clockTurn 27
  | 28 => s.ioTurn
  | 32 => s.pick
  | _ => s

/-- What a role does at a message: a turn at its timer, a transmit stamp for the boundary clock, a message of the Kettle's for the picker. (log 89, DESIGN CHOICE) -/
def State.roleMessage (s : State) (c : Nat) (m : Msg) : State :=
  match m.sender, c with
  | .timer _, 0 => s.superviseTurn
  | .timer _, 1 => s.epochTurn
  | .timer _, 15 => s.predTurn
  | .timer _, 24 =>
    let t := s.servoTurn
    if t.baseValid == s.baseValid then t else t.clockFollow
  | .timer _, 25 => s.hoTurn
  | .timer _, 26 => s.clockTurn 26
  | .timer _, 27 => s.clockTurn 27
  | .timer _, 28 => s.ioTurn
  | .block p, 26 => s.followUp p m.tag (m.body.headD 0).toNat
  | .block p, 27 => s.followUp p m.tag (m.body.headD 0).toNat
  | .block _, 32 => s.pick
  | _, 12 => s.omciSend m
  | _, _ => s

/-- A context of the base program set has been started: its program runs to its first wait, in which it stays but for its turns. (log 89, DESIGN CHOICE) -/
def State.baseStart (s : State) (c : Nat) : State :=
  let w : Wait := if (s.ctx c).packet then .pktNext 0 else .recv 0 0 none
  ((s.setCtx c { s.ctx c with st := .waiting, wait := some w }).roleStart c).settle

/-- A command to a context (R52); the program of a context of the base set then runs, and the supervisor looks after it again (R109). -/
def State.command (s : State) (c cmd : Nat) : State :=
  let t := s.ctxCommand c cmd
  if cmd = 1 && (s.ctx c).loader = 3 && !(s.ctx c).st.runs then
    { t with base := { t.base with left := t.base.left.filter (· ≠ c) } }.baseStart c
  else t

/-- A context of the base set takes the head message of its mailbox; where the word at its pc has gone wrong, it traps instead (R49). (log 89, DESIGN CHOICE) -/
def State.baseTake (s : State) (c : Nat) (m : Msg) (rest : List Msg) : State :=
  if s.fetchBad (.ctx c) then s.trap (.ctx c) 8 ((s.ctx c).cpu.pc.zeroExtend 64)
  else ((s.setMailbox (.ctx c) rest).roleMessage c m).settle

/-! ## The supervisor (R109, R125) -/

/-- The supervisor restarts a Trapped context of the base set, at most 3 times in an hour; then it leaves it, and its event is raised again. (log 105, DEDUCED) -/
def State.restart (s : State) (c : Nat) : State :=
  let recent := s.base.restarts.filter fun e => e.1 ≠ c || decide (s.ns64 < e.2 + 3600 * giga)
  if 3 ≤ (recent.filter (fun e => e.1 = c)).length then
    ({ s with base := { s.base with restarts := recent, left := c :: s.base.left } }).raise 896 [(16, c), (8, (s.ctx c).tcause.toNat)]
  else ({ s with base := { s.base with restarts := (c, s.ns64) :: recent } }).command c 1

/-- The supervisor at a tick: the watchdog is fed where half a second has passed, and Trapped contexts are restarted. (log 105, DEDUCED) -/
def State.supervise (s : State) : State :=
  if !s.roleRuns 0 || s.asleep 1 then s
  else if s.fetchBad (.ctx 0) then s.trap (.ctx 0) 8 ((s.ctx 0).cpu.pc.zeroExtend 64)
  else
    let s1 := if s.on Fld.KT_WDOG_EN && decide (s.boot.fed + 500000000 ≤ s.ns64) then { s with boot := { s.boot with fed := s.ns64 } } else s
    let dead := s1.pre.ctxs.filter fun e => e.2.loader = 3 && e.2.st == .trapped && !s1.base.left.contains e.1
    dead.foldl (fun t e => t.restart e.1) s1

/-! ## The tick (R262, R268) -/

/-- A word of instruction memory goes wrong at a tick (R49). (log 15, DESIGN CHOICE) -/
def State.upset (s : State) : State :=
  match Config.upset s.tb.acc.toNat with
  | none => s
  | some (u, w) =>
    if u < 128 then s.setEng u { s.eng u with ibad := w :: (s.eng u).ibad }
    else s.setGate (u - 128) { s.gate (u - 128) with ibad := w :: (s.gate (u - 128)).ibad }

/-- The order in which stage 3 gives the domains their power (R113). -/
def powerOrder : List Nat := [12, 1, 4, 5, 6, 7, 8, 2, 3, 9, 10, 11]

/-- In stage 3 the next domain may get its power at a tick; with D9's, the receivers in use are turned on (R139). (log 110, DESIGN CHOICE) -/
def State.powerUp (s : State) : State :=
  if s.rd Fld.KT_BOOT_STATUS_STAGE = 3 && Config.powersUp s.tb.acc.toNat then
    match powerOrder.find? (fun d => !bit s.boot.powered d) with
    | some d => s.powerOn (2 ^ d) |> fun t => (if d = 9 then t.receiversOn false else t).refsLock d
    | none => s
  else s

/-- What the oven's sensor and heater show at a tick. (log 41, DESIGN CHOICE) -/
def State.ovenShows (s : State) : State :=
  match Config.oven s.tb.acc.toNat with
  | some w => (s.wr Fld.KT_OVEN_STATUS_DEV (bits w.toNat 0 16)).wr Fld.KT_OVEN_STATUS_HEATER (bits w.toNat 16 8)
  | none => s

/-- FULL is cleared once the bytes of a sentence have been sent (R287). -/
def State.todSent (s : State) : State :=
  match s.tb.todUntil with
  | some t => if s.ns64 < t then s else { s with tb := { s.tb with todUntil := none } }.flag Fld.TB_TODOUT_CTRL_FULL false
  | none => s

/-- The armed snapshots whose frame has passed. -/
def State.snapsPassed (s : State) : State := (List.range 4).foldl State.snapPassed s

/-- Event triage clears the first trips that have lasted 1 s (R217) and revives lanes (R467). -/
def State.triageTurn (s : State) : State := (List.range 12).foldl State.reviveTurn ((s.triageClear 0).triageClear 1)

/-- The accumulator advances, and the base program set takes note of a step that applied (R265, R268, R272). -/
def State.stepDue (s : State) : State :=
  match s.tb.step with
  | some (off, _) => s.advance.stepNoted off
  | none => s.advance

/-- One tick of 1.25 ns (R262, R268): a step first, then a new increment, then the addition; and what the clock brings about elsewhere.
(log 2, DESIGN CHOICE) -/
def State.tick (s : State) : State := s.upset.powerUp.ovenShows.stepDue.todSent.snapsPassed.triageTurn.sleepCheck.omciTurn.siteTurn.supervise

/-- TIMEBASE_STEP_APPLY (R265, R267, R268): the tick at which an accepted step applies. (log 2, DESIGN CHOICE) -/
def execTimebaseStepApply (s : State) : Host.Outcome State Fault Refusal := .next (if s.tb.step.isSome then s.tick else s)

/-- With no command waiting the block's clock runs on: one tick of the timebase, from boot stage 2 (R113, R262). (log 2, DESIGN CHOICE) -/
def State.idle (s : State) : State :=
  if s.boot.inputValid && decide (2 ≤ s.rd Fld.KT_BOOT_STATUS_STAGE) then s.tick else s

end Sys2Proof.Machine
end

