-- ==== Sys2Proof/Machine/Boot.lean ====
section
/-! DEFINITION. Start-up, boot and resets (R113 to R126), the binding of the base program set (R107 to R110, R120), the site identity
(R133, R134), the oven (R260, R261), the Kettle watchdog (R125) and thermal protection (R557 to R559). -/
namespace Sys2Proof.Machine

/-- The stage of R113 in progress, as KT_BOOT_STATUS.STAGE shows it. -/
def State.stage (s : State) : Nat := s.rd Fld.KT_BOOT_STATUS_STAGE

/-- Move to a stage; in stage 3 the governor takes the core supply to 0.86 V (R113). (log 110, DESIGN CHOICE) -/
def State.toStage (s : State) (n : Nat) : State :=
  let s1 := s.wr Fld.KT_BOOT_STATUS_STAGE n
  if n = 3 then s1.wr Fld.PW_GOV_STATUS_VCORE 860 else s1

/-! ## What a reset clears (R121, R122) -/

/-- The partition registers, which a warm reset keeps with the training record (R413). -/
def partitionReg : Reg → Bool
  | .LD_PART_PS => true
  | .LD_PART_RO => true
  | .LD_PART_PD => true
  | .LD_PART_LS => true
  | .LD_POOL_REGION => true
  | _ => false

/-- HBM keys that a warm reset keeps: the Preoth data and capture partitions (R121). -/
def keptHbm (k : Nat) : Bool := k / 0x10000000000 = 3 || k / 0x10000000000 = 5

/-- The history area of save memory (R126). -/
def historyByte (a : Nat) : Bool := 0x70000 ≤ a && a < 0x80000

/-- Clear the registers and the state of D1 to D12; `warm` keeps what a warm reset keeps. D0 keeps its registers, but for the present
motion of the domains, which ends. -/
def State.clearDomains (s : State) (warm : Bool) : State :=
  let s1 := (List.range' 1 12).foldl (fun t d =>
    (t.resetDomain d (fun r => warm && partitionReg r)).wrReg .PW_DOM_STATUS (BitVec.ofNat 64 (t.rd Fld.PW_DOM_STATUS_CAP d * 32)) d) s
  let ld : Ladle := if warm then { parts := s.ld.parts, regions := s.ld.regions } else {}
  let pow : Power := { battAt := s.pow.battAt, tripsKept := s.pow.tripsKept, leftTrip := s.pow.leftTrip }
  { s1 with pre := {}, base := {}, sv := {}, ld := ld, tm := {}, lanes := [], macs := [], fib := {}, pow := pow
            cx := { roots := s.cx.roots, rootJob := s.cx.rootJob }
            hbm := if warm then Tab.keep s.hbm keptHbm else []
            cp := { s1.cp with ringPhase := true, ringLost := 0, vecPend := [] }
            boot := { s1.boot with powered := 1 } }

/-- The activation state returns to its initial one; the emergency stop applies at once (R121, R213). -/
def State.resetFibre (s : State) : State := if s.on Fld.KT_ESTOP_LATCH then s.setAct 7 (some 6) else s

/-- A link that was up has been lost with D12: HostLinkChanged (964), which goes to the latch (R554). -/
def State.linkLost (s : State) (was : Bool) : State := if was then s.raise 964 [(8, 0), (8, 0), (8, 0)] else s

/-- Start a cold or a warm reset (R121, R122): stages 3 to 7 follow. (log 48, DESIGN CHOICE) (log 49, DEDUCED) (log 126, DESIGN CHOICE) -/
def State.startReset (s : State) (warm : Bool) (cause : Nat) : State :=
  let s1 := s.clearDomains warm
  let s2 := { s1 with save := Tab.keep s1.save historyByte, boot := { s1.boot with warm := warm, pendingReset := none } }
  let hold := Config.bootHold s.draws
  let left := if s2.on Fld.PW_THERM_TRIPPED then some s2.ns64 else s2.pow.leftTrip
  let s3 := (({ s2 with draws := s2.draws + 1, boot := { s2.boot with bootHoldPin := hold }, pow := { s2.pow with leftTrip := left } }.wr Fld.KT_RESET_CAUSE_CAUSE cause).count
    Fld.KT_RESET_CAUSE_COUNT)
  let s4 := (s3.flag Fld.KT_BOOT_CTRL_HOLD hold).flag Fld.KT_WDOG_EN false
  let s5 := (((s4.flag Fld.KT_BOOT_STATUS_FAIL false).flag Fld.KT_BOOT_STATUS_HOLDING false).flag Fld.KT_BOOT_STATUS_COMPLETE false)
  let s6 := ((s5.wr Fld.KT_BOOT_STATUS_FAILDOM 0).wr Fld.KT_BOOT_STATUS_FAILBLK 0).flag Fld.PW_THERM_TRIPPED false
  (((s6.toStage 3).resetFibre).linkLost (s.on Fld.MG_PCIE_STATUS_UP)).deviceState

/-- The highest junction temperature is above 100 °C. (log 50, DEDUCED) -/
def State.tooHot (s : State) : Bool := decide (10000 < sgn 16 (s.rd Fld.PW_GOV_TJ_TJ))

/-- A requested reset starts at once, or when one-time memory has been programmed (R123); a later request replaces one that waits for that
(log 93, DESIGN CHOICE). While a boot failure stands a warm reset is a cold one (R117), also the Kettle watchdog's, which keeps its cause
(log 93, DESIGN CHOICE); a terminal that has tripped leaves the trip by a cold reset only, and not at all where it stays tripped (R559). (log 50, DEDUCED) -/
def State.requestReset (s : State) (warm : Bool) (coldCause warmCause : Nat) : State :=
  let w := warm && !s.on Fld.KT_BOOT_STATUS_FAIL
  let cause := if w then warmCause else coldCause
  if s.on Fld.PW_THERM_TRIPPED && (w || s.pow.tripsKept) then s
  else if s.cx.rootJob.isSome then { s with boot := { s.boot with pendingReset := some (w, cause) } }
  else s.startReset w cause

/-- A write of KT_RESET (R123, R559). (log 50, DEDUCED) -/
def State.resetWrite (s : State) (v : Nat) (src : Src) : State :=
  let k := bits v 0 2
  if bits v 8 8 ≠ 0x5A || (k ≠ 1 && k ≠ 2) then s
  else if s.tooHot && s.cx.rootJob.isNone then s
  else
    match src with
    | .serial => s.requestReset (k = 1) 3 6
    | .ctx _ => s.requestReset (k = 1) 4 8
    | _ => s.requestReset (k = 1) 2 5

/-- A reset that waited for the programming of one-time memory starts, once the junctions have cooled (R123, R579). -/
def State.startPending (s : State) : State :=
  match s.boot.pendingReset with
  | some (w, cause) => if s.cx.rootJob.isSome || s.tooHot then s else s.startReset w cause
  | none => s

/-- ROOT_KEY_PROGRAM_DONE (R123, R135, R136, R481). -/
def execRootKeyProgramDone (ok : Bool) (s : State) : Host.Outcome State Fault Refusal :=
  .next (s.rootProgramDone ok).startPending

/-- INPUT_VALID (R113, R539, R567, R569): stage 1 starts; BOOT_HOLD and the address straps are sampled. (log 48, DESIGN CHOICE) -/
def execInputValid (hold : Bool) (ser : BitVec 3) (s : State) : Host.Outcome State Fault Refusal :=
  if s.boot.inputValid then .next s
  else
    let s1 := { s with boot := { s.boot with inputValid := true, bootHoldPin := hold } }
    .next (((s1.toStage 1).flag Fld.KT_BOOT_CTRL_HOLD hold).wr Fld.MG_SER_STATUS_ADDR (0x58 + ser.toNat))

/-- POWER_REMOVAL (R121, R136, R569, R572): everything but one-time memory is lost; a slot being programmed counts as used and
invalid. -/
def execPowerRemoval (s : State) : Host.Outcome State Fault Refusal :=
  let roots := (if s.cx.rootJob.isSome then s.rootProgramDone false else s).cx.roots
  .next { State.reset with pending := s.pending, draws := s.draws, outs := s.outs
                           cp := { State.reset.cp with hostMem := s.cp.hostMem }, cx := { State.reset.cx with roots := roots } }

/-- PCIe reset: D12 only (R121, R124, R532). A configuration the host wrote in D12 is lost. (log 51, DEDUCED) -/
def State.pcieReset (s : State) : State :=
  let s1 := s.resetDomain 12 (fun _ => false)
  { s1 with cp := { s1.cp with ringPhase := true, ringLost := 0, vecPend := [] } }

/-- MG_PCIE_STATUS, with HostLinkChanged (964) at a change of UP (R554). -/
def State.hostLink (s : State) (up : Bool) (speed width : Nat) : State :=
  let was := s.on Fld.MG_PCIE_STATUS_UP
  let s1 := ((s.flag Fld.MG_PCIE_STATUS_UP up).wr Fld.MG_PCIE_STATUS_SPEED speed).wr Fld.MG_PCIE_STATUS_WIDTH width
  (if was == up then s1 else s1.raise 964 [(8, b2n up), (8, speed), (8, width)]).settle

/-- PCIE_RESET (R124): conventional, hot and function-level reset. The link is down until it trains again. -/
def execPcieReset (s : State) : Host.Outcome State Fault Refusal :=
  let up := s.on Fld.MG_PCIE_STATUS_UP
  .next (s.pcieReset.linkLost up).settle

/-- HOST_LINK_CHANGE (R124, R554): the link comes up, or is lost, which resets D12. (log 51, DEDUCED) -/
def execHostLinkChange (up : Bool) (speed width : BitVec 3) (s : State) : Host.Outcome State Fault Refusal :=
  if s.asleep 12 && up then .next s
  else if up then .next (s.hostLink true speed.toNat width.toNat)
  else if s.on Fld.MG_PCIE_STATUS_UP then .next (s.pcieReset.linkLost true).settle
  else .next s

/-! ## The base program set (R107 to R110, R113, R120, R506) -/

/-- A role of R109: number, contexts, authority, group (0: always; else the bit of KT_BOOT_CTRL), the domains of its known events and
TKWAKE (R506). -/
structure Role where
  role : Nat
  ctxs : List Nat
  auth : Nat := 2
  group : Nat := 0
  need : Nat := 0
  tkwake : Bool := false
deriving DecidableEq, Repr

/-- A set of domains as PW_NEED holds it. -/
def domainMask (ds : List Nat) : Nat := ds.foldl (fun a d => a + 2 ^ (d - 1)) 0

/-- The roles in the order the supervisor binds them: itself, roles 1 and 2, then power, timing, shared fibre. (log 52, DEDUCED) (log 89, DESIGN CHOICE) -/
def baseRoles : List Role :=
  [ { role := 0, ctxs := [0] }, { role := 1, ctxs := [1] }, { role := 2, ctxs := [2] },
    { role := 20, ctxs := [32], group := 6, tkwake := true }, { role := 21, ctxs := [33], group := 6 },
    { role := 15, ctxs := [24], group := 5, need := domainMask [9], tkwake := true },
    { role := 16, ctxs := [25], group := 5, tkwake := true },
    { role := 17, ctxs := [26], group := 5, need := domainMask [2, 4, 5, 6, 7, 8, 10] },
    { role := 18, ctxs := [27], group := 5, need := domainMask [2, 4, 5, 6, 7, 8, 11] },
    { role := 19, ctxs := [28], group := 5 }, { role := 22, ctxs := [128, 129, 130, 131], group := 5 } ] ++
  [ { role := 3, ctxs := [8], auth := 3, group := 4 }, { role := 4, ctxs := [9], group := 4 },
    { role := 5, ctxs := [10], group := 4 }, { role := 6, ctxs := [11], group := 4 },
    { role := 7, ctxs := [12], auth := 3, group := 4 },
    { role := 8, ctxs := [13], group := 4, need := domainMask [5, 6, 7, 8, 9] },
    { role := 9, ctxs := [14], group := 4 }, { role := 10, ctxs := [15], group := 4 }, { role := 11, ctxs := [16], group := 4 },
    { role := 12, ctxs := [17], group := 4 }, { role := 13, ctxs := [18], auth := 3, group := 4 },
    { role := 14, ctxs := [19], group := 4, need := domainMask [9] } ]

/-- Bind a base-set context with LOADER 0b11 and the authority that R109 lists, 0b11 included though R78 gives that by auth.narrow alone
(log 94, DESIGN CHOICE); enable it and start it. (log 52, DEDUCED) -/
def State.bindBase (s : State) (r : Role) (c : Nat) : State :=
  let s1 := s.bindCtx c (128 ≤ c) 3 r.auth 0 (false, 0)
  let en := Fld.PR_ENG_CTRL_CTXEN
  let e := ctxEngine c
  let s2 := s1.wr en (putBits (s1.rd en e) (c % 8) 1 1) e
  ((s2.wr Fld.PW_NEED_DOM r.need 0 c).flag Fld.PW_NEED_TKWAKE r.tkwake 0 c).command c 1

/-- Bind a role, and enter it in the role directory (R107, R108); a role on several contexts is entered with its first. (log 52, DEDUCED) -/
def State.bindRole (s : State) (r : Role) : State :=
  let s1 := r.ctxs.foldl (fun t c => t.bindBase r c) s
  match r.ctxs with
  | [] => s1
  | c :: _ => s1.writeS (8 * r.role) (leBytes (c + (s1.ctx c).gen.toNat * 1024 + 2 ^ 63) 8)

/-- The destination word of a context of the base set, with EN in bit 63. -/
def State.targetWord (s : State) (c : Nat) : Quad := BitVec.ofNat 64 (c + (s.ctx c).gen.toNat * 1024 + 2 ^ 63)

/-- The timing group sets policers 1,008 to 1,023 for the Delay_Req limit of R307 (R455): in packet mode, with the rate of the nine client ports that each
serves at the profile's limit, and full. (log 132, DESIGN CHOICE) -/
def State.delayPolicers (s : State) : State :=
  let h : Shaper := { rate := 288, packet := true, burst := 288, en := true, accIdle := true, credit := (288 * 65536 : Nat), last := s.ns64 }
  { s with tm := { s.tm with policers := (List.range' 1008 16).foldl (fun t k => Tab.set t {} k h) s.tm.policers } }

/-- Stage 7: the supervisor and the roles of the selected groups are bound and started (R113, R120); the targets of the PLOAM and
picker messages are written (R191, R504), every domain's target is Full where the power group is left out, and the watchdog is enabled (R125). (log 52, DEDUCED) (log 89, DESIGN CHOICE) -/
def State.bindBaseSet (s : State) : State :=
  let chosen := fun (r : Role) => r.group = 0 || bit (s.rdReg .KT_BOOT_CTRL).toNat r.group
  let s1 := (baseRoles.filter chosen).foldl State.bindRole s
  let s2 := if bit (s.rdReg .KT_BOOT_CTRL).toNat 6 then s1.wrReg .PW_PICK_DEST (s1.targetWord 32)
    else (List.range' 1 12).foldl (fun t d => t.wrReg .PW_DOM_TARGET 0 d) s1
  let s3 := if bit (s.rdReg .KT_BOOT_CTRL).toNat 4 then s2.wrReg .TC_PLOAM_TARGET (s2.targetWord 8) else s2
  let s4 := if bit (s.rdReg .KT_BOOT_CTRL).toNat 5 then s3.delayPolicers else s3
  { s4 with boot := { s4.boot with groups := (s.rdReg .KT_BOOT_CTRL).toNat, fed := s4.ns64 } }.flag Fld.KT_WDOG_EN true

/-! ## The stages (R113 to R120) -/

/-- A boot failure (R117). -/
def State.bootFail (s : State) (ev dom blk : Nat) : State :=
  (((s.flag Fld.KT_BOOT_STATUS_FAIL true).wr Fld.KT_BOOT_STATUS_FAILDOM dom).wr Fld.KT_BOOT_STATUS_FAILBLK blk).raise ev []

/-- The training values of the stacks: found by a training, or taken back from the history area after a warm reset (R122, R126). (log 95, DESIGN CHOICE) -/
def State.train (s : State) : State :=
  if s.boot.warm then { s with boot := { s.boot with training := [0, 1].map fun k => BitVec.ofNat 64 (leNat (Tab.read s.save 0 (0x70100 + 8 * k) 8)) } }
  else { s with boot := { s.boot with training := [Config.draw s.draws, Config.draw (s.draws + 1)] }, draws := s.draws + 2 }

/-- The training values are kept in the history area for a warm reset, from the end of stage 5 on (R122, R126). (log 95, DESIGN CHOICE) -/
def State.keepTraining (s : State) : State :=
  { s with save := Tab.write s.save 0 0x70100 (s.boot.training.flatMap fun w => leBytes w.toNat 8) }

/-- Stage 5 ends: training, partition, ledger, free lists and seed; then the hold, or stage 7. -/
def State.stage5End (s : State) : State :=
  let s1 := s.train.keepTraining.initLadle.drawSeed
  if s1.on Fld.KT_BOOT_CTRL_HOLD then (s1.toStage 6).flag Fld.KT_BOOT_STATUS_HOLDING true else s1.toStage 7

/-- The oven's heater turns on: what it and the sensor show then is open (R113). (log 41, DESIGN CHOICE) -/
def State.heaterOn (s : State) : State :=
  let w := (Config.draw s.draws).toNat
  ({ s with draws := s.draws + 1 }.wr Fld.KT_OVEN_STATUS_DEV (bits w 0 16)).wr Fld.KT_OVEN_STATUS_HEATER (bits w 16 8)

/-- BOOT_STAGE_COMPLETE (R113, R117, R118): the stage in progress ends with this result. A result that the stage cannot have changes
nothing. (log 49, DEDUCED) -/
def execBootStageComplete (r : BootResult) (s : State) : Host.Outcome State Fault Refusal :=
  if !s.boot.inputValid || s.on Fld.KT_BOOT_STATUS_FAIL || s.on Fld.PW_THERM_TRIPPED then .next s
  else match s.stage, r with
    | 1, .ok => .next ({ s with tb := { s.tb with acc := 0, gained := 0, incr := Config.incrNom, incrNext := none } }.toStage 2).heaterOn
    | 2, .ok => .next (s.toStage 3)
    | 2, .calibBad =>
      let s1 := { s with boot := { s.boot with calibBad := true }, tb := { s.tb with incr := Config.incrDefault, incrNext := none } }
      .next ((s1.toStage 3).raise 4 [])
    | 3, .ok => .next (((((s.powerOn 0x1FFF).receiversOn false).refsLock 10).refsLock 11).toStage 4).settle
    | 4, .ok => .next (s.toStage 5)
    | 4, .memFail d b => .next (s.bootFail 2 d.toNat b.toNat)
    | 4, .entropyFail => .next (s.bootFail 2 0 0)
    | 5, .ok => .next s.stage5End
    | 5, .hbmFail st => if s.boot.warm then .next s else .next (s.bootFail 3 (if st then 7 else 6) 0)
    | 7, .ok => .next (((s.bindBaseSet.keepTraining.toStage 8).flag Fld.KT_BOOT_STATUS_COMPLETE true).raise 1 []).settle
    | _, _ => .next s

/-- A write of KT_BOOT_CTRL (R119, R413): GO ends the hold, and the partition sizes written take effect. -/
def State.bootCtrlWrite (s : State) (v : Nat) : State :=
  let s1 := s.flag Fld.KT_BOOT_CTRL_HOLD (bit v 0)
  let s2 := ((s1.flag Fld.KT_BOOT_CTRL_GSF (bit v 4)).flag Fld.KT_BOOT_CTRL_GTIME (bit v 5)).flag Fld.KT_BOOT_CTRL_GPOW (bit v 6)
  if bit v 1 && s2.stage = 6 && s2.on Fld.KT_BOOT_STATUS_HOLDING then
    (s2.flag Fld.KT_BOOT_STATUS_HOLDING false).applyPartitions.toStage 7
  else s2

/-! ## The watchdog and the site identity (R125, R133, R134) -/

/-- A write of KT_WDOG; FEED restarts the count, and so does setting EN. (log 44, DEDUCED) -/
def State.wdogWrite (s : State) (v : Nat) : State :=
  let s1 := if bit v 2 || (bit v 0 && !s.on Fld.KT_WDOG_EN) then { s with boot := { s.boot with fed := s.ns64 } } else s
  ((s1.flag Fld.KT_WDOG_EN (bit v 0)).flag Fld.KT_WDOG_ACTION (bit v 1)).wr Fld.KT_WDOG_TIMEOUT (bits v 8 8)

/-- The Kettle watchdog has counted TIMEOUT seconds, 0 as 1, since it was last fed, enabled or expired (R125). (log 44, DEDUCED) -/
def State.wdogDue (s : State) : Bool := decide (s.boot.fed + max 1 (s.rd Fld.KT_WDOG_TIMEOUT) * 1000000000 ≤ s.ns64)

/-- KETTLE_WATCHDOG_EXPIRED (R125, R519). (log 93, DESIGN CHOICE) -/
def execKettleWatchdogExpired (s : State) : Host.Outcome State Fault Refusal :=
  if !s.on Fld.KT_WDOG_EN || s.pow.timekeep || !s.wdogDue then .next s
  else
    let s1 := { s with boot := { s.boot with fed := s.ns64 } }.raise 7 []
    .next (if s1.on Fld.KT_WDOG_ACTION then s1.requestReset true 7 7 else s1)

/-- A write to the site identity is refused (R134). -/
def State.siteRefused (s : State) : State := (s.count Fld.KT_SITE_CTRL_REFUSED).raise 6 []

/-- A write of KT_SITE_VENDOR or KT_SITE_SERIAL (R133, R134). -/
def State.siteWrite (s : State) (serial : Bool) (v : Nat) (src : Src) : State :=
  if s.on Fld.KT_SITE_CTRL_LOCK || 2 < s.act || s.headEnd src then s.siteRefused
  else if serial then (s.wrReg .KT_SITE_SERIAL (BitVec.ofNat 64 v)).flag Fld.KT_SITE_CTRL_SVALID true
  else (s.wrReg .KT_SITE_VENDOR (BitVec.ofNat 64 v)).flag Fld.KT_SITE_CTRL_VVALID true

/-- A write of KT_SITE_CTRL: LOCK locks both fields and itself until power removal. -/
def State.siteLock (s : State) (v : Nat) : State := if bit v 2 then s.flag Fld.KT_SITE_CTRL_LOCK true else s

/-! ## The oven (R260, R261) -/

/-- FIRST and both TSVALID bits are set; role 5 asks for the pairs again (R202). -/
def State.stampsValid (s : State) : State :=
  let s1 := ((s.flag Fld.KT_OVEN_STATUS_FIRST true).flag Fld.KT_BOOT_STATUS_TSVALID true).flag Fld.TB_STATUS_TSVALID true
  if !s1.asleep 9 && s1.on Fld.TC_VPLOAM_CTRL_ASYMAG then s1.pairRequest else s1

/-- INBAND in both registers that show it. -/
def State.setInBand (s : State) (b : Bool) : State := (s.flag Fld.KT_OVEN_STATUS_INBAND b).flag Fld.TB_STATUS_INBAND b

/-- OvenOutOfBand (65). -/
def State.ovenEvent (s : State) : State :=
  s.raise 65 [(8, s.rd Fld.KT_OVEN_STATUS_INBAND), (8, s.rd Fld.KT_OVEN_STATUS_TIMEOUT), (16, s.rd Fld.KT_OVEN_STATUS_DEV)]

/-- The oven's sensor and heater show these readings. -/
def State.ovenReads (s : State) (dev : BitVec 16) (heater : BitVec 8) : State :=
  (s.wr Fld.KT_OVEN_STATUS_DEV dev.toNat).wr Fld.KT_OVEN_STATUS_HEATER heater.toNat

/-- OVEN_FIRST_STABLE (R260): the sensor has stayed within ±0.05 K, and the heater steady, for 20 s. (log 51, DEDUCED) -/
def execOvenFirstStable (dev : BitVec 16) (heater : BitVec 8) (s : State) : Host.Outcome State Fault Refusal :=
  if s.on Fld.KT_OVEN_STATUS_FIRST || s.stage < 2 || decide (s.ns64 < 20000000000) || decide (5 < dev.toInt.natAbs) then .next s
  else .next (((s.ovenReads dev heater).setInBand true).raise 64 [(16, s.ns64 / 1000000000)]).stampsValid

/-- OVEN_STABILITY_TIMEOUT (R260): 240 s after stage 2 without the first point; the sensor and the heater read as given. -/
def execOvenStabilityTimeout (dev : BitVec 16) (heater : BitVec 8) (s : State) : Host.Outcome State Fault Refusal :=
  if s.on Fld.KT_OVEN_STATUS_FIRST || s.stage < 2 || decide (s.ns64 < 240000000000) then .next s
  else .next ((s.ovenReads dev heater).flag Fld.KT_OVEN_STATUS_TIMEOUT true).ovenEvent.stampsValid

/-- OVEN_BAND_CHANGE (R261): the oven leaves or returns to its band, 0.5 K either side of the setpoint; the sensor and the heater read as given. -/
def execOvenBandChange (inBand : Bool) (dev : BitVec 16) (heater : BitVec 8) (s : State) : Host.Outcome State Fault Refusal :=
  if !s.on Fld.KT_OVEN_STATUS_FIRST then .next s
  else
    let s1 := s.ovenReads dev heater
    if s1.on Fld.KT_OVEN_STATUS_INBAND == inBand || inBand == decide (50 < dev.toInt.natAbs) then .next s1 else .next (s1.setInBand inBand).ovenEvent

/-! ## Thermal protection (R557 to R559) -/

/-- The junction temperature is above the warning threshold. -/
def State.aboveWarn (s : State) : Bool := decide (sgn 16 (s.rd Fld.PW_THERM_WARN) < sgn 16 (s.rd Fld.PW_GOV_TJ_TJ))

/-- WARNING follows the threshold; where it sets, OverTemperature (28) is raised (R557). -/
def State.warnFollow (s : State) : State :=
  if s.aboveWarn then
    (if s.on Fld.PW_THERM_WARNING then s else (s.flag Fld.PW_THERM_WARNING true).raise 28 [(16, s.rd Fld.PW_GOV_TJ_TJ)])
  else s.flag Fld.PW_THERM_WARNING false

/-- The highest junction temperature is measured, and WARNING follows it (R557). -/
def State.junction (s : State) (tj : BitVec 16) : State := (s.wr Fld.PW_GOV_TJ_TJ tj.toNat).warnFollow

/-- OVER_TEMPERATURE (R557). -/
def execOverTemperature (tj : BitVec 16) (s : State) : Host.Outcome State Fault Refusal := .next (s.junction tj)

/-- WARNING_CLEARED (R557). -/
def execWarningCleared (tj : BitVec 16) (s : State) : Host.Outcome State Fault Refusal := .next (s.junction tj).startPending

/-- Every domain from D1 to D12 is Off. -/
def State.allOff (s : State) : State :=
  (List.range' 1 12).foldl (fun t d =>
    ((t.wr Fld.PW_DOM_STATUS_DEPTH 4 d).flag Fld.PW_DOM_STATUS_ENTERING false d).flag Fld.PW_DOM_STATUS_EXITING false d) s

/-- THERMAL_TRIP (R558, R559, R579): the lasers go dark, D1 to D12 are switched off, and the trip is recorded; a
second trip within 600 s of leaving one stays until power is removed. (log 108, DESIGN CHOICE) -/
def execThermalTrip (dom : BitVec 4) (s : State) : Host.Outcome State Fault Refusal :=
  if s.on Fld.PW_THERM_TRIPPED || decide (sgn 16 (s.rd Fld.PW_GOV_TJ_TJ) ≤ 12500) then .next s
  else
    let s1 := ((s.cutUc 0).cutUc 1).clearDomains false
    let again := match s.pow.leftTrip with
      | some t => decide (s.ns64 < t + 600000000000)
      | none => false
    let s2 := { s1 with pow := { s1.pow with tripsKept := s1.pow.tripsKept || again } }
    let s3 := s2.allOff.flag Fld.PW_THERM_TRIPPED true
    .next (((s3.raise 29 [(16, s3.rd Fld.PW_GOV_TJ_TJ), (8, dom.toNat)]).linkLost (s.on Fld.MG_PCIE_STATUS_UP)).deviceState)

end Sys2Proof.Machine
end

