-- ==== Sys2Proof/Machine/Power.lean ====
section
/-! DEFINITION. Domain entries and exits, the Kettle's wakes, the picker message, save memory, battery, Timekeep and the supply governor
(R493 to R523). -/
namespace Sys2Proof.Machine

/-- A command about a domain that the device does not have. -/
def onDomain (d : Nat) (s : State) (f : State → State) : Host.Outcome State Fault Refusal :=
  if 1 ≤ d ∧ d ≤ 12 then .next (f s) else .fault .noSuchObject

/-! ## What a domain keeps (R512 to R515) -/

/-- Registers that are held in a domain's memories and stay at Slumber whatever becomes of the save region (R512). -/
def memoryReg (r : Reg) : Bool :=
  match r.place.space with
  | .queue => true
  | .allocation => true
  | .secContext => true
  | _ => r == .TC_DS_PORTID || r == .LD_QREQ || r == .SV_PORT_CFG

/-- The bits of a register that a domain keeps at Off (R490, R514): its configuration, and beside it counters and the role generation of a client
port, the state of the security contexts and QUAR of a cipher lane. -/
def keptAtOff (d : Nat) (r : Reg) : Nat :=
  let config := r.mask (· == .rw)
  let port := if r.place.space == .port || r.place.space == .portGroup then r.mask (fun a => a == .rw || a == .rc || (a == .ro && r == .MC_ROLE))
    else if r.place.space == .gatePort then r.mask (· == .rc) else 0
  match d with
  | 4 => if r == .SV_CTRL || r == .SV_RS_CTRL || r == .SV_PORT_CFG || r == .SV_BB_CTRL then config else 0
  | 5 => config
  | 6 => if partitionReg r then 2 ^ 64 - 1 else 0
  | 8 => if r == .CX_LANE_STAT then 1 else if r.place.space == .secContext then r.mask (· != .rc) else config
  | 9 =>
    if r == .TC_DS_PORTID || r == .TC_ACT_TIMERS || r == .TC_DISC || r == .TC_VPLOAM_CTRL || r == .TC_ACT_REGID
      || r == .TC_RNG_TEQD || r == .TC_OMCI_RXRING || r == .OP_DS_LOS || r == .TC_SLEEP_CTRL || r == .TC_SLEEP_PARAM then config else 0
  | 10 => port
  | 11 => port
  | _ => 0

/-- The high-word latches of a domain are lost (R501). -/
def State.loseLatches (s : State) (d : Nat) : State :=
  { s with latched := Tab.keep s.latched (fun n => (Reg.ofKey n).domain (n / 4096 % 4096) ≠ d) }

/-- A domain is switched off: what it keeps stays, all else returns to reset (R501, R514). -/
def State.switchOff (s : State) (d : Nat) : State :=
  let s1 := (s.resetDomain d (fun r => keptAtOff d r ≠ 0)).loseLatches d
  s1.regs.foldl (fun t e =>
    let r := Reg.ofKey e.1
    let i := e.1 / 4096 % 4096
    let k := e.1 % 4096
    let m := BitVec.ofNat 64 (keptAtOff d r)
    if r.domain i = d then t.wrReg r ((e.2 &&& m) ||| (BitVec.ofNat 64 (r.reset i k) &&& ~~~m)) i k else t) s1

/-- D9 without its power keeps what the Kettle and the control contexts hold of the watchdogs: TRIP and CAUSE (R215), and the times of the trips
(R217); `t` is the state with D9 reset. -/
def State.keepWatchdogs (s t : State) : State :=
  let t1 := (t.wdSet 0 (s.tripped 0) (s.rd Fld.OP_WD_STATUS_CAUSE0)).wdSet 1 (s.tripped 1) (s.rd Fld.OP_WD_STATUS_CAUSE1)
  { t1 with fib := { t1.fib with wdLast := s.fib.wdLast, wdFailed := s.fib.wdFailed, wdRetry := s.fib.wdRetry } }

/-- D6, D7 and D12 have no save region (R513). -/
def hasRegion (d : Nat) : Bool := d ≠ 6 && d ≠ 7 && d ≠ 12

/-- A save region fails its check: the domain is left at reset values, its memories apart where it was at Slumber (R512), and SaveRestoreFailed
(27) is raised (R515). (log 53, DESIGN CHOICE) -/
def State.restoreFailed (s : State) (d was : Nat) : State :=
  let s1 := s.resetDomain d (fun r => was = 3 && memoryReg r)
  let inDom := fun (c : Nat) => ctxDomain c = d
  let port := fun (p : Nat) => portDomain p = d
  let s2 := { s1 with
    pre := { s1.pre with ctxs := Tab.keep s1.pre.ctxs (fun c => !inDom c)
                         gates := s1.pre.gates.map (fun (e : Nat × GateSeq) => if port e.1 then (e.1, { imem := e.2.imem, lmem := e.2.lmem }) else e) }
    lanes := Tab.keep s1.lanes (fun p => !port p)
    macs := Tab.keep s1.macs (fun p => !port p)
    cx := if d = 8 then { roots := s1.cx.roots, rootJob := s1.cx.rootJob, keys := if was = 3 then s1.cx.keys else []
                          rxNext := if was = 3 then s1.cx.rxNext else [] } else s1.cx
    tm := if d = 5 && was = 4 then { s1.tm with shapers := [], policers := [] } else s1.tm
    fib := if d = 9 then {} else s1.fib }
  let s3 := if d = 9 then s.keepWatchdogs s2.resetFibre else s2
  s3.raise 27 [(8, d)]

/-! ## Entry and exit (R493 to R495, R501) -/

/-- DOMAIN_ENTRY_COMPLETE (R493, R494, R501, R512): the domain is at the depth. -/
def execDomainEntryComplete (d : Nat) (s : State) : Host.Outcome State Fault Refusal :=
  onDomain d s fun s =>
    if !s.on Fld.PW_DOM_STATUS_ENTERING d then s
    else
      let g := Tab.get s.pow.goal 0 d
      let s1 := (s.wr Fld.PW_DOM_STATUS_DEPTH g d).flag Fld.PW_DOM_STATUS_ENTERING false d
      (if 3 ≤ g then s1.loseLatches d else s1).deviceState.settle

/-- A domain is at Full again: the vote that woke it is left to the work that is still pending (R48). -/
def State.atFull (s : State) (d : Nat) : State :=
  let s1 := if bit s.pow.wakes d then
      { s with pow := { s.pow with wakes := putBits s.pow.wakes d 1 0 } }.dataVote d false else s
  s1.kettleVote d 0 false

/-- The references of a port group lock, and its enabled lanes start again as from Disabled, offering what R325 lets them. (log 54, DEDUCED) -/
def State.lanesRestart (s : State) (d : Nat) : State :=
  (List.range 144).foldl (fun t p =>
    if portDomain p = d && (t.on Fld.LN_CTRL_RXEN p || t.on Fld.LN_CTRL_TXEN p) then
      (if t.rd Fld.LN_CTRL_MODE p = 1 then t.reoffer p else t).laneStart p
    else t) (s.refsLock d)

/-- DOMAIN_EXIT_COMPLETE (R493, R515, R520): the domain reaches the depth of its exit and takes the work that waits; `restored`: its save
region, where it was used, passed its check. D9 turns on the receivers in use (R139); after D1 has slept its epoch keeper observes at once (R272). (log 53, DESIGN CHOICE) (log 55, DEDUCED) -/
def execDomainExitComplete (d : Nat) (restored : Bool) (s : State) : Host.Outcome State Fault Refusal :=
  onDomain d s fun s =>
    if !s.on Fld.PW_DOM_STATUS_EXITING d then s
    else
      let was := s.rd Fld.PW_DOM_STATUS_DEPTH d
      let g := Tab.get s.pow.goal 0 d
      let failed := decide (3 ≤ was) && hasRegion d && !restored
      let s0 := s.powerOn (2 ^ d)
      let s1 := (s0.wr Fld.PW_DOM_STATUS_DEPTH g d).flag Fld.PW_DOM_STATUS_EXITING false d
      let s2 := if g = 0 then s1.atFull d else s1
      let s3 := if failed then s2.restoreFailed d was else s2
      let s4 := if was = 4 && (d = 10 || d = 11) then s3.lanesRestart d else s3
      let s5 := if d = 9 && (was = 4 || failed) then s4.receiversOn false else if d = 1 && g = 0 && s4.roleRuns 1 then s4.epochTurn
        else if d = 8 && g = 0 && s4.roleRuns 18 && s4.fib.keyWait ≠ 0 then s4.keyTurn s4.fib.keyWait else s4
      (if g = 0 then s5.drainStores else s5).deviceState.settle

/-! ## The Kettle's wakes (R503, R504) -/

/-- DOMAIN_WAKE_TIME (R504): PW_DOM_WAKE has come. -/
def execDomainWakeTime (d : Nat) (s : State) : Host.Outcome State Fault Refusal :=
  onDomain d s fun s =>
    if !s.on Fld.PW_DOM_TARGET_WVALID d || !reached s.ns (BitVec.ofNat 32 (s.rd Fld.PW_DOM_WAKE_NS d)) then s
    else
      let s1 := ((s.flag Fld.PW_DOM_TARGET_WVALID false d).wr Fld.PW_DOM_TARGET_DEPTH 0 d).pickCause d 16
      (if s1.asleep d then s1.kettleVote d 0 true else s1).settle

/-- The depth a sleeping domain has to come back from: the one it is at, or is entering. -/
def State.sleepDepth (s : State) (d : Nat) : Nat :=
  if s.on Fld.PW_DOM_STATUS_ENTERING d then Tab.get s.pow.goal 0 d else s.rd Fld.PW_DOM_STATUS_DEPTH d

/-- DOMAIN_DEADLINE_WAKE (R503): the domain has to leave its depth now to be at Full at its next known event; where it is too late for
that, DomainWakeLate (18) is raised with the shortfall. -/
def execDomainDeadlineWake (d : Nat) (s : State) : Host.Outcome State Fault Refusal :=
  onDomain d s fun s =>
    let left := (BitVec.ofNat 32 (s.rd Fld.PW_DOM_NEXT_NS d) - s.ns).toInt
    let need := exitLatency (s.sleepDepth d)
    if !s.on Fld.PW_DOM_NEXT_VALID d || !s.asleep d || (s.keepsTime && d ≠ 1) || decide (need < left) then s
    else
      let s1 := s.kettleVote d 1 true
      let s2 := if left < need then s1.raise 18 [(8, d), (32, (need - left).toNat)] 1 d else s1
      s2.settle

/-- PICKER_MESSAGE (R504): one message for the causes gathered; a message that is still held takes them in. (log 55, DEDUCED) -/
def execPickerMessage (s : State) : Host.Outcome State Fault Refusal :=
  let k := s.pow.pickCause
  let s1 := { s with pow := { s.pow with pickCause := 0 } }
  if k = 0 || !s.on Fld.PW_PICK_DEST_EN then .next s1
  else if s1.pre.held.any (fun x => x.1 == 1) then
    let merge := fun (m : Msg) => { m with body := [m.body.headD 0 ||| BitVec.ofNat 64 k] }
    .next { s1 with pre := { s1.pre with held := s1.pre.held.map (fun x => if x.1 = 1 then (1, merge x.2) else x) } }
  else .next (s1.sendBlock 1 { sender := .block 0x301, tag := 0, body := [BitVec.ofNat 64 k], dword := none })

/-! ## Save memory (R513) -/

/-- The area of an offset of save memory: 0 a domain's region, 1 the integrator area, 2 the history area. -/
def saveArea (a : Nat) : Nat := if a < 0x60000 then 0 else if a < 0x70000 then 1 else 2

/-- KT_SAVE_ADDR moves on after an access with AUTOINC. -/
def State.saveStep (s : State) : State :=
  if bit (s.rdReg .KT_SAVE_ADDR).toNat 31 then s.wr ⟨.KT_SAVE_ADDR, 0, 19⟩ (s.rd ⟨.KT_SAVE_ADDR, 0, 19⟩ + 4) else s

/-- The byte offset that KT_SAVE_ADDR names. -/
def State.saveAddr (s : State) : Nat := s.rd ⟨.KT_SAVE_ADDR, 0, 19⟩ / 4 * 4

/-- A read of KT_SAVE_DATA; a domain's region reads as 0. -/
def State.saveRead (s : State) : State × Nat :=
  (s.saveStep, if saveArea s.saveAddr = 0 then 0 else leNat (Tab.read s.save 0 s.saveAddr 4))

/-- A source may write through the window where it points now: any source in the integrator area, a context with LOADER 0b11 in the
history area, nobody elsewhere. -/
def State.saveAllowed (s : State) (src : Src) : Bool :=
  match saveArea s.saveAddr, src with
  | 0, _ => false
  | 1, _ => true
  | _, .ctx c => (s.ctx c).loader = 3
  | _, _ => false

/-- A write of KT_SAVE_DATA; one that is not allowed is discarded. -/
def State.saveWrite (s : State) (v : Nat) (src : Src) : State :=
  (if s.saveAllowed src then { s with save := Tab.write s.save 0 s.saveAddr (leBytes v 4) } else s).saveStep

/-! ## Timekeep (R517 to R520) -/

/-- Every byte that waits in a queue, or has left one to be the next its port sends. (log 54, DEDUCED) -/
def State.queuedBytes (s : State) : Nat :=
  s.macs.foldl (fun n e => (e.2.candE ++ e.2.candP).foldl (fun a p => a + p.2.len) n)
    (s.tm.queues.foldl (fun n e => e.2.foldl (fun a p => a + p.len) n) 0)

/-- What D1 to D12 keep when D2 to D12 are switched off (R514). -/
def State.offDomains (s : State) : State :=
  let bonden := s.on Fld.TC_DS_MODE_BONDEN
  let s1 := (List.range' 2 11).foldl State.switchOff s
  let zero := fun (l : Tab Shaper) => l.map (fun e => (e.1, { e.2 with credit := 0 }))
  let s2 := { s1 with
    pre := { s1.pre with ctxs := Tab.keep s1.pre.ctxs (fun c => ctxDomain c = 1), engs := Tab.keep s1.pre.engs (fun e => e < 16)
                         gates := [], expiries := s1.pre.expiries.filter (fun e => ctxDomain e.c = 1)
                         flights := s1.pre.flights.filter (fun (f : Flight) => match f.dest with | .ctx c => ctxDomain c = 1 | .gate _ => false) }
    cx := { s1.cx with rootStage := [], blob := [], blobSeq := [], unwraps := [], reviving := [] }
    sv := { seed := s1.sv.seed }
    ld := { parts := s1.ld.parts, regions := s1.ld.regions }
    tm := { shapers := zero s1.tm.shapers, policers := zero s1.tm.policers }
    lanes := s1.lanes.map (fun (e : Nat × Lane) => (e.1, { txRes := e.2.txRes, rxRes := e.2.rxRes }))
    macs := [], fib := {}, hbm := [], cp := { s1.cp with ringPhase := true, ringLost := 0, vecPend := [] } }
  let s3 := (List.range 512).foldl State.armFollow (s2.capFollow.flag Fld.TC_DS_MODE_BONDEN bonden)
  let s4 := s.keepWatchdogs s3
  (List.range' 2 11).foldl (fun t d => ((t.wr Fld.PW_DOM_STATUS_DEPTH 4 d).flag Fld.PW_DOM_STATUS_ENTERING false d).flag
    Fld.PW_DOM_STATUS_EXITING false d) { s4 with boot := { s4.boot with powered := 3 } }

/-- Entry to Timekeep (R517, R518): TimekeepEntered (24) comes first; the bursts not yet begun are not sent, every queued packet is
discarded and counted, and the domains are saved and switched off. (log 54, DEDUCED) -/
def State.enterTimekeep (s : State) (cause : Nat) : State :=
  if s.pow.timekeep || s.stage < 8 || s.on Fld.PW_THERM_TRIPPED then s
  else
    let s1 := (s.wr Fld.PW_STATUS_TKCAUSE cause).raise 24 [(8, cause)]
    let s2 := (s1.fib.bursts.filter (fun b => !b.started)).foldr (fun b t => t.cutBurst b) s1
    let s3 := s2.count ⟨.PW_TK_LOST, 0, 64⟩ 0 0 s2.queuedBytes
    let s4 := ((if s3.act = 1 then s3.o11Entry else s3.enterO11 (some 8)).offDomains).linkLost (s.on Fld.MG_PCIE_STATUS_UP)
    let s5 := ((s4.wr Fld.PW_DOM_STATUS_DEPTH 3 1).flag Fld.PW_DOM_STATUS_ENTERING false 1).flag Fld.PW_DOM_STATUS_EXITING false 1
    let s6 := { s5.loseLatches 1 with pow := { s5.pow with timekeep := true, tkExiting := false, leftBatt := false, wakes := 0, tkAt := s5.ns64
                                                           dataVotes := [], kettleVotes := []
                                                           owner := s5.pow.owner.filter (fun e => ctxDomain (e.2 - 1) = 1) } }
    s6.deviceState.settle

/-- Exit from Timekeep starts (R520): every domain is on its way to Full. -/
def State.startTkExit (s : State) : State :=
  if !s.keepsTime then s
  else
    let s1 := { s with pow := { s.pow with tkExiting := true } }
    ((List.range' 1 12).foldl (fun t d => if t.rd Fld.PW_DOM_STATUS_DEPTH d = 0 then t
      else { (t.flag Fld.PW_DOM_STATUS_EXITING true d).flag Fld.PW_DOM_STATUS_ENTERING false d with
             pow := { t.pow with goal := Tab.set t.pow.goal 0 d 0 } }) s1).settle

/-- TIMEKEEP_EXIT_COMPLETE (R520): the domains that have not come back yet do so; role 22 is rebound, activation starts from O1.1, the watchdog
has not counted meanwhile (R519), and
TimekeepExited (25) carries the mask of the lost items and the seconds spent. (log 54, DEDUCED) -/
def execTimekeepExitComplete (s : State) : Host.Outcome State Fault Refusal :=
  if !(s.pow.timekeep && s.pow.tkExiting) then .next s
  else
    let late := (List.range' 1 12).filter (fun d => s.on Fld.PW_DOM_STATUS_EXITING d)
    let s1 := late.foldl (fun t d => ((t.wr Fld.PW_DOM_STATUS_DEPTH 0 d).flag Fld.PW_DOM_STATUS_EXITING false d).atFull d)
      (s.powerOn 0x1FFF)
    let s2 := (late.foldl (fun t d => if d = 10 || d = 11 then t.lanesRestart d else t) s1).receiversOn false
    let spent := s2.ns64 - s2.pow.tkAt
    let s3 := { s2 with pow := { s2.pow with timekeep := false, tkExiting := false }
                        boot := { s2.boot with fed := s2.boot.fed + spent } }
    let s4 := if bit s3.boot.groups 5 then (baseRoles.filter (fun r => r.role = 22)).foldl State.bindRole s3 else s3
    let s5 := ((if late.contains 1 && s4.roleRuns 1 then s4.epochTurn else s4).initLadle.o11Entry).raise 25 [(16, Config.recordCode 25 0), (32, spent / 1000000000)]
    .next s5.deviceState.settle

/-- Timekeep is left once battery has been left and VIN is above LOWV + 2.0 V (R520). -/
def State.tkLeave (s : State) : State :=
  if s.keepsTime && s.pow.leftBatt && s.rd Fld.PW_BATT_THR_LOWV + 20 < s.rd Fld.PW_BATT_STATUS_VIN then s.startTkExit else s

/-- A write of PW_CTRL (R517, R520): MAXDEPTH and LPINAP, and with CONFIRM a request to enter or leave Timekeep. (log 54, DEDUCED) -/
def State.pwCtrlWrite (s : State) (v : Nat) (src : Src) : State :=
  if 3 < bits v 0 3 then s
  else
    let s1 := (s.wr Fld.PW_CTRL_MAXDEPTH (bits v 0 3)).flag Fld.PW_CTRL_LPINAP (bit v 3)
    let ok := bits v 8 8 = 0x5A
    let s2 := if bit v 4 && ok && (src = .host || src = .serial) then s1.enterTimekeep (if src = .serial then 2 else 1) else s1
    let s3 := if bit v 5 && ok && src = .serial && s2.rd Fld.PW_STATUS_TKCAUSE ≠ 4 then s2.startTkExit else s2
    s3.settle

/-! ## Battery (R516, R517) -/

/-- The input as measured: its magnitude in 0.1 V, and the BATT_N contact. -/
def State.setInput (s : State) (vin : Nat) (contact : Bool) : State :=
  (s.wr Fld.PW_BATT_STATUS_VIN vin).flag Fld.PW_BATT_STATUS_CONTACT contact

/-- The battery conditions that SRC looks at and that hold: bit 0 the contact, bit 1 the voltage. -/
def State.battery (s : State) : Nat :=
  let c := b2n (s.on Fld.PW_BATT_STATUS_CONTACT)
  let v := b2n (decide (s.rd Fld.PW_BATT_STATUS_VIN < s.rd Fld.PW_BATT_THR_MAINSV)) * 2
  if s.rd Fld.PW_BATT_CTRL_SRC = 0 then c else if s.rd Fld.PW_BATT_CTRL_SRC = 1 then v else c + v

/-- ONBATT in both registers that show it. -/
def State.setBattery (s : State) (b : Bool) : State := (s.flag Fld.PW_STATUS_ONBATT b).flag Fld.PW_BATT_STATUS_ONBATT b

/-- BATTERY_ENTER (R516): the condition has held for its time. (log 108, DESIGN CHOICE) -/
def execBatteryEnter (vin : BitVec 16) (contact : Bool) (s : State) : Host.Outcome State Fault Refusal :=
  let s1 := s.setInput vin.toNat contact
  if s1.on Fld.PW_STATUS_ONBATT || s1.battery = 0 then .next s1
  else .next (({ s1 with pow := { s1.pow with battAt := s1.ns64, leftBatt := false } }.setBattery true).raise 22 [(32, vin.toNat), (8, s1.battery)])

/-- BATTERY_LEAVE (R516, R520): the condition has been absent for 5 s. (log 108, DESIGN CHOICE) -/
def execBatteryLeave (vin : BitVec 16) (contact : Bool) (s : State) : Host.Outcome State Fault Refusal :=
  let s1 := s.setInput vin.toNat contact
  if !s1.on Fld.PW_STATUS_ONBATT || s1.battery ≠ 0 then .next s1
  else
    let s2 := (s1.setBattery false).raise 23 [(32, vin.toNat)]
    .next { s2 with pow := { s2.pow with leftBatt := true } }.tkLeave

/-- INPUT_VOLTAGE_RISE (R520). -/
def execInputVoltageRise (vin : BitVec 16) (s : State) : Host.Outcome State Fault Refusal :=
  .next (s.wr Fld.PW_BATT_STATUS_VIN vin.toNat).tkLeave

/-- BATTERY_DELAY_EXPIRY (R517): DELAY minutes on battery. -/
def execBatteryDelayExpiry (s : State) : Host.Outcome State Fault Refusal :=
  let due := s.pow.battAt + s.rd Fld.PW_BATT_CTRL_DELAY * 60000000000
  if s.on Fld.PW_STATUS_ONBATT && s.on Fld.PW_BATT_CTRL_ACT && decide (due ≤ s.ns64) then .next (s.enterTimekeep 3) else .next s

/-- INPUT_UNDERVOLTAGE (R517, R526): VIN below LOWV for 1 s on battery. In Timekeep it changes only TKCAUSE. (log 108, DESIGN CHOICE) -/
def execInputUndervoltage (vin : BitVec 16) (s : State) : Host.Outcome State Fault Refusal :=
  let s1 := s.wr Fld.PW_BATT_STATUS_VIN vin.toNat
  if !s1.on Fld.PW_STATUS_ONBATT || s1.rd Fld.PW_BATT_THR_LOWV ≤ vin.toNat then .next s1
  else if s1.pow.timekeep then .next (s1.wr Fld.PW_STATUS_TKCAUSE 4)
  else .next ((s1.raise 26 [(32, vin.toNat)]).enterTimekeep 4)

/-! ## ATTN_N (R566, R574) -/

/-- ATTN_N is asserted: the latch holds a record, boot has failed, or the terminal has tripped; it is high-impedance while the input is not valid. -/
def State.attn (s : State) : Bool :=
  s.boot.inputValid && (!s.cp.latch.isEmpty || s.on Fld.KT_BOOT_STATUS_FAIL || s.on Fld.PW_THERM_TRIPPED)

/-! ## The supply governor (R522, R523) -/

/-- The boost is in force: queuing is forecast, or was within HOLD µs. (log 56, DEDUCED) -/
def State.boosting (s : State) : Bool := decide (s.ns64 < s.pow.boostUntil)

/-- GOVERNOR_UPDATE (R522, R523): every 10 µs the rail moves towards its target, by at most 10 mV per µs; `floor` is FLOORV in mV, `tj`
the highest junction temperature, `failDom` the domain whose replica sets a floor above the limit. (log 56, DEDUCED) -/
def execGovernorUpdate (floor : Nat) (tj : BitVec 16) (failDom : Nat) (s : State) : Host.Outcome State Fault Refusal :=
  let s1 := (s.junction tj).wr Fld.PW_GOV_STATUS_FLOORV (min floor 1023)
  if s1.stage < 8 || s1.pow.governedAt.any (fun t => s1.ns64 < t + 10000) then .next s1.startPending
  else
    let s1 := { s1 with pow := { s1.pow with governedAt := some s1.ns64 } }
    let queuing := !s1.asleep 5 && s1.on Fld.TM_LOAD_FCST_QUEUING
    let s2 := if queuing then { s1 with pow := { s1.pow with boostUntil := s1.ns64 + s1.rd Fld.PW_GOV_CFG_HOLD * 1000 } } else s1
    let boost := queuing || s2.boosting
    let want := max 620 (min 860 (floor + (if boost then s2.rd Fld.PW_GOV_CFG_BOOST else 0)))
    let v := s2.rd Fld.PW_GOV_STATUS_VCORE
    let v1 := if want < v then max want (v - 100) else min want (v + 100)
    let s3 := (s2.wr Fld.PW_GOV_STATUS_VCORE v1).flag Fld.PW_GOV_STATUS_BOOST boost
    let limit := decide (860 < floor)
    let s4 := s3.flag Fld.PW_GOV_STATUS_LIMIT limit
    let s5 := if limit && !s3.on Fld.PW_GOV_STATUS_LIMIT then s4.raise 20 [(16, tj.toNat), (8, failDom)] else s4
    .next s5.startPending

end Sys2Proof.Machine
end

