-- ==== Sys2Proof/Machine/Views.lean ====
section
/-! DEFINITION. What a read of a control register answers, and what the read itself changes: the views that stand for state held elsewhere,
the clear-on-read codes (R9, R10), the result slots (R543) and the windows. Who may read is in Access.lean. -/
namespace Sys2Proof.Machine

/-- A 32-bit half of a 64-bit value. -/
def half (high : Bool) (v : Nat) : Nat := bits v (if high then 32 else 0) 32

/-- The word with one 32-bit half replaced. -/
def putHalf (high : Bool) (old v : Nat) : Nat := putBits old (if high then 32 else 0) 32 v

/-- A shaper's balance at this moment: the credit of R445, brought up to now. -/
def State.balance (s : State) (k : Nat) : Shaper :=
  let h := if isDrain k then s.drainShaper (k - 3344) else s.shaper k
  h.accrue s.ns64 (if k < 4096 then (s.queue k).isEmpty else s.groupEmpty k)

/-- The receiver of a channel is on, and its power has been measured since it was turned on: every 1 ms (R144). -/
def State.powerValid (s : State) (n : Nat) : Bool :=
  bit (s.rd Fld.OP_DS_STATUS_RXON) n && decide ((s.chan n).onAt / 1000000 < s.ns64 / 1000000)

/-- A frame is in progress on a cipher lane: one of which a part was staged upstream keeps its lane until its last bytes are staged. (log 133, DESIGN CHOICE) -/
def State.laneActive (s : State) (l : Nat) : Bool :=
  s.fib.partials.any fun e => match e.2 with
    | some r => r.lane = some l && !r.rest.isEmpty
    | none => false

/-- A register's whole value as a read finds it: a view of state that has its home elsewhere, or the value the register holds. (log 43, DEDUCED) -/
def State.value (s : State) (src : Src) (r : Reg) (i k : Nat) : Nat :=
  let own := (s.rdReg r i k).toNat
  let x := s.ctx i
  let shp := stageOf s false src
  let pol := stageOf s true src
  match r with
  | .PR_ENG_STATUS => s.engStatus i
  | .PR_CTX_STATE => s.ctxStateWord i
  | .PR_CTX_PC => s.ctxPcWord i
  | .PR_CTX_TRAPVEC => b2n x.vecValid + x.vec.toNat / 4 * 4
  | .PR_CTX_TRAP => x.tpc.toNat + x.tcause.toNat * 2 ^ 16 + b2n x.tvalid * 2 ^ 31
  | .PR_CTX_TVAL => x.tval.toNat
  | .PR_CTX_STEPS => x.stepsReg.toNat
  | .PR_CTX_ROLE => x.gen.toNat + b2n x.packet * 2 ^ 8 + x.loader.toNat * 2 ^ 10
  | .PR_CTX_MBX => own + x.mbx.length
  | .PR_CTX_AUTH => x.auth.toNat
  | .PR_CTX_GREG => (x.cpu.get (BitVec.ofNat 5 k)).toNat
  | .TB_NS => s.ns.toNat
  | .TB_FRAC => (Tab.get s.tb.latch (0, 0) (requesterOf src)).1
  | .TB_WRAP => (Tab.get s.tb.latch (0, 0) (requesterOf src)).2
  | .TB_INCR => (s.tb.incrNext.getD s.tb.incr).toNat
  | .TB_INCR_NOM => s.nominal.toNat
  | .TM_ALLOC_HELD => (s.depth (3344 + i) + 63) / 64
  | .TM_HOLD_USED => s.holdUsed
  | .TM_Q_DEPTH => min (s.depth i) (2 ^ 32 - 1)
  | .TM_SHP_SEL => shp.sel
  | .TM_SHP_RATE => shp.rate.toNat
  | .TM_SHP_BURST => shp.burst.toNat
  | .TM_SHP_CTRL => shp.ctrl.toNat
  | .TM_SHP_CREDIT => unsgn 32 ((s.balance shp.sel).credit / 65536)
  | .TM_SHP_STAT =>
    let h := s.balance shp.sel
    b2n (decide (0 ≤ h.credit) && h.rate ≠ 0) + b2n (decide (h.credit < 0)) * 2 + b2n (h.en && h.rate = 0) * 4
  | .TM_POL_SEL => pol.sel
  | .TM_POL_RATE => pol.rate.toNat
  | .TM_POL_BURST => pol.burst.toNat
  | .TM_POL_CTRL => putBits pol.ctrl.toNat 1 1 1
  | .TM_POL_PASS => Tab.get s.tm.polPass 0 pol.sel
  | .TM_POL_DROP => Tab.get s.tm.polDrop 0 pol.sel
  | .TM_HWM_DEPTH => min (s.qstat (s.rd Fld.TM_HWM_SEL_QUEUE)).maxDepth (2 ^ 32 - 1)
  | .TM_HWM_DELAY => min (s.qstat (s.rd Fld.TM_HWM_SEL_QUEUE)).maxSojourn (2 ^ 32 - 1)
  | .TM_HWM_LAST => match (s.qstat (s.rd Fld.TM_HWM_SEL_QUEUE)).last with
    | some n => min n (2 ^ 31 - 1) + 2 ^ 31
    | none => 0
  | .LD_POOL_FREE => s.freeCount (k / 2) (k % 2)
  | .LD_PART_CAP =>
    504 - (s.rd Fld.LD_PART_PS_UNITS + s.rd Fld.LD_PART_RO_UNITS + s.rd Fld.LD_PART_PD_UNITS + s.rd Fld.LD_PART_LS_UNITS)
  | .LD_REQ_USED => s.used i k
  | .LD_XF_STAT =>
    let f := s.express i
    b2n f.bank0.isSome + b2n f.bank1.isSome * 2 + b2n f.next * 4
  | .SV_EM_WORD => (s.emWord (s.rd Fld.SV_EM_INDEX_INDEX) k).toNat
  | .SV_EM_COUNT => s.emValid
  | .SV_TR_WORD => (s.trWord i (s.rd Fld.SV_TR_INDEX_INDEX i) k).toNat
  | .SV_ACT_WORD => s.action (s.rd Fld.SV_ACT_INDEX_FLOW)
  | .SV_FS_BYTES => (Tab.get s.sv.fsHost (0, 0) (s.rd Fld.SV_FS_INDEX_FLOW)).1
  | .SV_FS_PKTS => s.sv.fsLatch
  | .SV_RS_PIN => min (s.pins (k = 1)) (2 ^ 32 - 1)
  | .SV_RS_STATUS => b2n (s.setDrained false) + b2n (s.setDrained true) * 2
  | .SV_BB_FRAGS => s.sv.frags.length + s.sv.fragWait.length * 2 ^ 16
  | .LN_STATUS => own + (s.lane i).txRes * 2 ^ 12 + (s.lane i).rxRes * 2 ^ 14
  | .LN_BUDGET => s.resSum true + s.resSum false * 2 ^ 16
  | .LN_GRP_SUM => s.groupSum i true + s.groupSum i false * 2 ^ 16
  | .LN_OPT => s.measured r i k 1000000
  | .OP_DS_POWER => if s.powerValid k then s.measured r i k 1000000 % 2 ^ 16 + 2 ^ 31 else 0
  | .KT_OVEN_CASE => s.measured r i k 1000000000
  | .GT_STATUS => s.gateStatus i
  | .CX_ROOT_STAT => s.rootStat
  | .CX_ROOT_KCV => s.rootKcv k
  | .CX_KEK_STAT => s.kekStat
  | .CX_LANE_STAT => own + b2n (s.laneActive i) * 4
  | .CX_BLOB_SEQ =>
    let e := Tab.get s.cx.blobSeq (0, false) (requesterOf src)
    e.1 + b2n e.2 * 2 ^ 16
  | .PW_DOM_VOTES => s.slots i
  | .MG_LATCH_STAT => own + s.cp.latch.length
  | .MG_LATCH_CTRL => b2n (s.on Fld.MG_RING_CTRL_EN)
  | .MG_LATCH_HEAD => match s.cp.latch with
    | e :: _ => bits (recordBits e false).toNat (32 * k) 32
    | [] => 0
  | _ => own

/-- The status register of the result slot that a data register belongs to, with its instance (R543). -/
def Reg.slotOf (r : Reg) (i k : Nat) : Option (Reg × Nat × Nat) :=
  match r with
  | .TC_DSC_SNAPTS => some (.TC_DSC_SNAPSTAT, i, 0)
  | .TT_ASYM_FIT => some (.TT_ASYM_STAT, 0, 0)
  | .TT_ASYM_DS => some (.TT_ASYM_STAT, 0, 0)
  | .TT_ASYM_US => some (.TT_ASYM_STAT, 0, 0)
  | .TB_PPSIN_TS => some (.TB_PPSIN_STAT, 0, 0)
  | .TB_TODIN_PPS => some (.TB_TODIN_STAT, 0, 0)
  | .TB_TODIN_BUF => some (.TB_TODIN_STAT, 0, 0)
  | .LD_LOOK_ENTRY => some (.LD_LOOK_STAT, 0, 0)
  | .CX_PON_GENOUT => some (.CX_PON_GENSTAT, 0, 0)
  | .CX_UNW_KCV => some (.CX_UNW_RES, 0, k)
  | .MG_PROXY_DATA => some (.MG_PROXY_STAT, 0, 0)
  | _ => none

/-- A status register of a result slot: READY, STALE and NOTREADY in bits 0 to 2. -/
def Reg.isSlot (r : Reg) : Bool :=
  r = .TC_DSC_SNAPSTAT || r = .TT_ASYM_STAT || r = .TB_PPSIN_STAT || r = .TB_TODIN_STAT || r = .LD_LOOK_STAT || r = .CX_PON_GENSTAT
    || r = .CX_UNW_RES || r = .MG_PROXY_STAT

/-- SEQ of a result slot's status register. -/
def Reg.seqMask (r : Reg) : Nat := if r = .CX_UNW_RES then 0xFFFF0000 else 0xFF00

/-- A status word read before READY: NOTREADY, SEQ and the fields that are no result, without the data of an earlier result (R10). (log 90, DEDUCED) -/
def Reg.noData (r : Reg) (v : Nat) : Nat := v &&& (r.mask (fun a => a ≠ .rs) ||| 7 ||| r.seqMask)

/-- Clear the clear-on-read fields of a register (R10). -/
def State.clearRc (s : State) (src : Src) (r : Reg) (i k : Nat) : State :=
  let q := s.rd Fld.TM_HWM_SEL_QUEUE
  let pol := (stageOf s true src).sel
  match r with
  | .PR_CTX_STEPS => s.setCtx i { s.ctx i with stepsReg := 0 }
  | .TM_POL_PASS => { s with tm := { s.tm with polPass := Tab.set s.tm.polPass 0 pol 0 } }
  | .TM_POL_DROP => { s with tm := { s.tm with polDrop := Tab.set s.tm.polDrop 0 pol 0 } }
  | .SV_FS_PKTS => { s with sv := { s.sv with fsLatch := 0 } }
  | .TM_HWM_DEPTH => s.setQstat q { s.qstat q with maxDepth := s.depth q }
  | .TM_HWM_DELAY => s.setQstat q { s.qstat q with maxSojourn := 0 }
  | _ =>
    let m := r.mask (fun a => a = .rc)
    if m = 0 then s else s.wrReg r (s.rdReg r i k &&& ~~~(BitVec.ofNat 64 m)) i k

/-- A read of one register word: the state after it, and the word (R7, R9, R10, R408, R543). (log 120, DESIGN CHOICE) -/
def State.readWord (s : State) (src : Src) (l : Loc) : State × Nat :=
  let v := s.value src l.reg l.i l.k
  let key := l.reg.key l.i l.k
  match l.reg with
  | .PR_MEM_DATA => s.memDataRead l.i
  | .PR_STM_DATA => s.stmDataRead
  | .KT_SAVE_DATA => s.saveRead
  | .TB_NS => (s.latchNs src, v)
  | .SV_FS_BYTES =>
    if l.high then (s, (Tab.get s.latched 0 key).toNat)
    else
      let x := s.flowTake
      ({ x.1 with latched := Tab.set x.1.latched 0 key (BitVec.ofNat 32 (x.2 / 2 ^ 32)) }, half false x.2)
  | r =>
    let waits := match r.slotOf l.i l.k with
      | some (st, i, k) => s.on ⟨st, 2, 1⟩ i k
      | none => false
    if waits then (s, 0)
    else if r.place.wide && r.mask (fun a => a = .rc) ≠ 0 then
      if l.high then (s, (Tab.get s.latched 0 key).toNat)
      else ((({ s with latched := Tab.set s.latched 0 key (BitVec.ofNat 32 (v / 2 ^ 32)) }).clearRc src r l.i l.k), half false v)
    else if r.isSlot then (if bit v 0 then (s.flag ⟨r, 1, 1⟩ true l.i l.k, v) else (s, r.noData v))
    else (s.clearRc src r l.i l.k, half l.high v)

end Sys2Proof.Machine
end

