-- ==== Sys2Proof/Machine/Access.lean ====
section
/-! DEFINITION. A register access from a command port or a program: where it lands (R6, R7, R21), who may make it (R78, R528 to R533, R584),
what a sleeping domain answers (R499, R500), and what an accepted write does: the access codes of R10 and R11, the stated ranges, and the
effect that each register's own chapter gives its write. -/
namespace Sys2Proof.Machine

/-! ## Object classes (R528, R584) -/

/-- The class of the registers and the shaper of a queue. -/
def queueClass (q : Nat) : Nat :=
  if q < 1152 then 0x0C else if q < 3200 then 0x08 else if q < 3344 then 0x0D else if q < 3856 then 0x08 else 0x0C

/-- The class of a shaper: of its queue, or of group shapers. (log 39, DEDUCED) -/
def shaperClass (k : Nat) : Nat := if k < 4096 then queueClass k else 0x0C

/-- The class of a policer; 1,008 to 1,023 are in no class of the table (R455). (log 39, DEDUCED) -/
def policerClass (k : Nat) : Nat := if k < 1008 then 0x0C else 0x11

/-- The class that a register has by its place: the class of its block. (log 39, DEDUCED) -/
def placeClass (r : Reg) (i : Nat) : Nat :=
  let d := r.domain i
  let b := r.addr i 0 / 0x10000 % 256
  match d with
  | 0 => if b = 1 then 0x04 else if b = 3 ∨ b = 6 then 0x10 else 0x11
  | 1 => if b = 0x50 then 0x04 else 0x03
  | 2 => 0x03
  | 3 => 0x03
  | 4 => 0x0D
  | 5 => if b ≤ 1 then 0x0F else if b = 0x14 then 0x08 else 0x0C
  | 6 => 0x0F
  | 7 => 0x0F
  | 8 => 0x0E
  | 9 => 0x0A
  | 10 => 0x0B
  | 11 => 0x0B
  | _ => 0x11

/-- The class of a register of unwraps: the head end may look at its results (R528), a write by it is refused (R491). (log 39, DEDUCED) -/
def unwrapClass (w : Option Nat) : Nat := if w.isSome then 0x0E else 0x07

/-- The object class of a register access (R528, R584); `w` is the word written, for the register that selects a shaper. (log 39, DEDUCED) -/
def State.classOf (s : State) (src : Src) (l : Loc) (w : Option Nat) : Nat :=
  match l.reg with
  | .CX_ROOT_KEY => 0x00
  | .CX_ROOT_CTRL => 0x00
  | .KT_SITE_VENDOR => 0x01
  | .KT_SITE_SERIAL => 0x01
  | .KT_SITE_CTRL => 0x01
  | .KT_RESET => 0x02
  | .KT_BOOT_CTRL => 0x02
  | .KT_WDOG => 0x02
  | .KT_ESTOP => 0x02
  | .OP_WD_CTRL => 0x02
  | .GT_CTRL => 0x03
  | .GT_LOAD_SRC => 0x03
  | .GT_LOAD_CTRL => 0x03
  | .GT_LOAD_STATUS => 0x03
  | .TT_TOD_SFC => 0x05
  | .TT_TOD_SEC => 0x05
  | .TT_TOD_NSEC => 0x05
  | .TT_TOD_INFO => 0x05
  | .TT_TOD_GMID => 0x05
  | .TT_TOD_STAT => 0x05
  | .TC_RNG_TEQD => 0x05
  | .TC_ACT_CTRL => 0x06
  | .TC_ACT_TIMERS => 0x06
  | .TC_ACT_REGID => 0x06
  | .TC_DISC => 0x06
  | .TC_RNG_EQD => 0x06
  | .TC_OMCI_RXPTR => 0x06
  | .CX_PON_KEY => 0x07
  | .CX_PON_GEN => 0x07
  | .CX_PON_GENSTAT => 0x07
  | .CX_PON_GENOUT => 0x07
  | .CX_PON_CNT => 0x07
  | .CX_BLOB_W => unwrapClass w
  | .CX_BLOB_GO => unwrapClass w
  | .CX_BLOB_SEQ => unwrapClass w
  | .CX_UNW_RES => unwrapClass w
  | .CX_UNW_KCV => unwrapClass w
  | .TC_DS_PORTID => 0x08
  | .TC_SLEEP_PARAM => 0x09
  | .TM_HOLD_CTRL => 0x0A
  | .TM_HOLD_BUDGET => 0x0A
  | .TM_HOLD_USED => 0x0A
  | .TM_HOLD_DRAIN => 0x0A
  | .TM_HOLD_DROP => 0x0A
  | .TM_HOLD_EXPIRED => 0x0A
  | .TM_HOLD_FORCE => 0x0A
  | .TM_Q_CFG => queueClass l.i
  | .TM_Q_LIMIT => queueClass l.i
  | .TM_Q_DEPTH => queueClass l.i
  | .TM_Q_DROP => queueClass l.i
  | .TM_SHP_SEL => shaperClass (match w with | some v => bits v 0 13 | none => (stageOf s false src).sel)
  | .TM_SHP_RATE => shaperClass (stageOf s false src).sel
  | .TM_SHP_BURST => shaperClass (stageOf s false src).sel
  | .TM_SHP_CTRL => shaperClass (stageOf s false src).sel
  | .TM_SHP_CREDIT => shaperClass (stageOf s false src).sel
  | .TM_SHP_STAT => shaperClass (stageOf s false src).sel
  | .TM_POL_SEL => policerClass (match w with | some v => bits v 0 10 | none => (stageOf s true src).sel)
  | .TM_POL_RATE => policerClass (stageOf s true src).sel
  | .TM_POL_BURST => policerClass (stageOf s true src).sel
  | .TM_POL_CTRL => policerClass (stageOf s true src).sel
  | .TM_POL_PASS => policerClass (stageOf s true src).sel
  | .TM_POL_DROP => policerClass (stageOf s true src).sel
  | .KT_SAVE_ADDR => 0x10
  | .KT_SAVE_DATA => 0x10
  | r => placeClass r l.i

/-! ## Authority (R528 to R533) -/

/-- The head-end channel may write a class: its own, and the delegated ones as MG_DELEG now stands (R528, R532). -/
def State.headClass (s : State) (c : Nat) : Bool :=
  (5 ≤ c && c ≤ 9) || (c = 0x0B && s.on Fld.MG_DELEG_LANES) || (c = 0x0C && s.on Fld.MG_DELEG_TRAFFIC) || (c = 0x0D && s.on Fld.MG_DELEG_SIEVE)

/-- The authority of a source: 1 serial, 2 host, 3 head end, 0 none (R78, R533); the terminal's own hardware is not checked. -/
def State.authOf (s : State) : Src → Nat
  | .hw => 1
  | .serial => 1
  | .host => 2
  | .proxy => 3
  | .ctx c => (s.ctx c).auth.toNat

/-- An authority may write, or act on, an object of a class. (log 38, DEDUCED) -/
def State.authWrites (s : State) (auth c : Nat) : Bool :=
  if auth = 1 then true else if auth = 2 then c ≠ 0 else if auth = 3 then s.headClass c else false

/-- An authority may read a register of a class in a domain (R529). (log 38, DEDUCED) -/
def State.authReads (s : State) (auth c d : Nat) : Bool :=
  auth = 1 || auth = 2 || (auth = 3 && (d = 9 || s.headClass c))

/-- The ports named in R531 are the only sources of these writes. -/
def portAllows (src : Src) (r : Reg) (v : Nat) : Bool :=
  let ser := src = .serial
  let both := src = .serial || src = .host
  src = .hw || (match r with
    | .CX_ROOT_KEY => ser
    | .CX_ROOT_CTRL => ser
    | .PW_VOTE_SER => ser
    | .PW_VOTE_HOST => src = .host
    | .PW_CTRL => (!bit v 4 || both) && (!bit v 5 || ser)
    | .TB_CTRL => both
    | .TT_HO_CTRL => both
    | .SV_WHISK_SEED => both
    | .MG_DELEG => both
    | .LD_PART_PS => both
    | .LD_PART_RO => both
    | .LD_PART_PD => both
    | .LD_PART_LS => both
    | .LD_POOL_REGION => both
    | _ => true)

/-- A source may make this access. A cwr into a part of save memory that its context may not write is refused too (R513). -/
def State.allowed (s : State) (src : Src) (l : Loc) (w : Option Nat) : Bool :=
  let c := s.classOf src l w
  match w with
  | none => s.authReads (s.authOf src) c (l.reg.domain l.i)
  | some v =>
    s.authWrites (s.authOf src) c && portAllows src l.reg v
      && (match src, l.reg with
        | .ctx _, .KT_SAVE_DATA => s.saveAllowed src
        | _, _ => true)

/-! ## Writes (R10, R11) -/

/-- What a write of `v` leaves of one field, within the bits `win` that the written word covers; `prog`: a program's write of a field that a
program maintains (R11). -/
def fieldWrite (prog : Bool) (v win old : Nat) (f : Field) : Nat :=
  let m := ((2 ^ f.len - 1) * 2 ^ f.lo) &&& win
  match f.acc with
  | .rw => (old ^^^ (old &&& m)) ||| (v &&& m)
  | .w1c => old ^^^ (old &&& v &&& m)
  | .ro => if prog then (old ^^^ (old &&& m)) ||| (v &&& m) else old
  | .rs => if prog then (old ^^^ (old &&& m)) ||| (v &&& m) else old
  | _ => old

/-- The value of a register after a write of one of its words, by the access codes of its fields. (log 40, DEDUCED) -/
def Reg.merged (r : Reg) (prog high : Bool) (old v : Nat) : Nat :=
  let win := if high then (2 ^ 32 - 1) * 2 ^ 32 else 2 ^ 32 - 1
  r.fields.foldl (fieldWrite prog (if high then v * 2 ^ 32 else v) win) old

/-- A register of the time-transfer block whose RO and RS fields a program maintains (R11). (log 44, DEDUCED) -/
def ttReg (r : Reg) : Bool := r.addr 0 0 / 0x10000 = 0x150

/-- The source is a control-profile context, which maintains the fields of R11. -/
def State.maintains (s : State) : Src → Bool
  | .ctx c => !(s.ctx c).packet
  | _ => false

/-- A register value lies in the ranges that its table states. (log 42, DEDUCED) -/
def Reg.inRange (r : Reg) (v : Nat) : Bool :=
  let f := bits v
  let within := fun (lo len a b : Nat) => decide (a ≤ bits v lo len ∧ bits v lo len ≤ b)
  match r with
  | .TC_DS_REORDER => within 0 16 20 250
  | .TC_ACT_TIMERS => within 0 16 1000 60000 && within 16 16 10 5000
  | .TC_DISC => within 0 4 1 10
  | .TC_SLEEP_CTRL => (f Fld.TC_SLEEP_CTRL_IDLE.lo Fld.TC_SLEEP_CTRL_IDLE.len) ≠ 0
  | .TT_ASYM_MODEL => within 0 18 128000 134000 && within 18 14 1 12000
  | .TM_ALLOC_Q => f 18 2 ≠ 3
  | .TM_HOLD_CTRL => within 1 15 125 30000 && within 16 11 10 1500
  | .TM_HOLD_BUDGET => within 0 36 0 18750000000
  | .TM_HOLD_DRAIN => within 0 16 1 1000 && within 16 8 0 64 && within 24 8 1 255
  | .TM_PRED_CFG => f 0 20 = 0 || within 0 20 64 1000000
  | .TB_PPSOUT_CTRL => within 8 23 1 5000000
  | .TB_TODOUT_CTRL => within 2 7 1 64 && within 16 10 10 500
  | .TT_SERVO_CFG => within 0 8 1 100 && within 8 8 1 200 && within 16 4 1 15
  | .TT_SERVO_THR => within 0 16 5 1000 && within 16 16 10 65535
  | .TT_HO_CFG => within 0 16 100 50000 && within 16 8 10 255
  | .TT_BC_CTRL => within 0 8 24 43 && within 8 8 44 63
  | .LN_NEG_TIMER => within 0 16 10 10000 && within 16 16 5 10000
  | .LN_LPI => f 0 16 ≠ 0
  | .LN_PRBS_CTRL => within 10 6 10 40
  | .MC_CFG => within 0 14 64 10240
  | .MC_PREEMPT => f 12 7 ≠ 0
  | .SV_BB_CTRL => within 0 14 100 10000 && f 16 8 ≠ 0
  | .LD_QREQ => within 0 8 128 255
  | .LD_XF_CTRL => within 8 12 64 2048
  | .LD_XF_QMAX => within 0 14 64 8192
  | .TM_Q_CFG => f 4 12 ≠ 0
  | .TM_LOAD_CFG => within 0 16 1000 6000
  | .TM_LR_BASE => f 0 12 = 0
  | .TM_CR_BASE => f 0 12 = 0
  | .TC_OMCI_RXRING => f 0 11 = 0
  | .CX_PORT_TXSC => within 0 10 0 1015
  | .CX_PORT_CFG => f 1 2 ≠ 3
  | .CX_PON_KEY => f 0 2 ≠ 3
  | .PW_CFG => within 0 16 100 60000
  | .PW_DOM_TARGET => f 0 3 ≤ 3
  | .PW_BATT_CTRL => f 0 2 ≠ 3 && f 8 8 ≠ 0
  | .PW_BATT_THR => within 0 16 400 720 && within 16 16 384 480 && decide (f 16 16 < f 0 16)
  | .PW_GOV_CFG => within 0 8 0 120 && within 8 16 10 65535
  | .PW_THERM => decide (9000 ≤ sgn 16 v ∧ sgn 16 v ≤ 12000)
  | .OP_DS_LOS => decide (50 ≤ sgn 16 (f 16 16) - sgn 16 (f 0 16))
  | .MG_BAR2_WIN => f 0 3 ≤ 5 && f 8 5 ≤ 31
  | .MG_RING_BASE => f 0 12 = 0
  | .MG_RING_CTRL => within 8 4 6 16
  | .MG_VEC_MOD => f 16 8 ≠ 0
  | _ => true

/-- The registers of the traffic manager whose refused writes raise TmConfigRefused (R462). (log 42, DEDUCED) -/
def tmReg (r : Reg) : Bool :=
  r = .TM_Q_CFG || r = .TM_LOAD_CFG || r = .TM_LR_BASE || r = .TM_CR_BASE

/-- What follows a write that changed a register from `old` to `new`. (log 42, DEDUCED) (log 82, DEDUCED) (log 119, DESIGN CHOICE) -/
def State.wrote (s : State) (l : Loc) (old new v : Nat) : State :=
  match l.reg with
  | .PR_MEM_ADDR => s.wr ⟨.PR_MEM_ADDR, 0, 2⟩ 0 l.i
  | .PR_STM_ADDR => s.wr ⟨.PR_STM_ADDR, 0, 2⟩ 0
  | .PR_ENG_CTRL =>
    s.setEng l.i { s.eng l.i with stepDue := bit new 8 && (bit v 9 || (s.eng l.i).stepDue) }
  | .TM_ALLOC_Q => s.armFollow l.i
  | .TC_SLEEP_CTRL =>
    let st := s.rd Fld.TC_SLEEP_STATUS_STATE
    let on := if st = 1 then s.on Fld.TC_SLEEP_CTRL_DOZEEN else s.on Fld.TC_SLEEP_CTRL_WSEN
    if st ≠ 0 && !on then s.localWake 3 else s
  | .TM_PRED_CFG => s.predForget l.k 2
  | .TT_BC_PORT => s.clockFollow
  | .TM_Q_CFG =>
    (if bit new 26 && !bit old 26 then s.setQstat l.i { s.qstat l.i with last := none } else s).blockedCheck l.i
  | .TM_HOLD_DRAIN => s.drainWrote old new
  | .LD_POOL_LOW => s.poolLow l.k
  | .PW_DOM_TARGET => s.settle
  | .PW_DOM_WAKE => s.settle
  | .PW_NEED => s.settle
  | .PW_PICK_DEST => s.settle
  | .PW_VOTE_HOST => s.settle
  | .PW_VOTE_SER => s.settle
  | .PW_THERM => s.warnFollow
  | .TT_ASYM_STAT => ((s.flag ⟨.TT_ASYM_STAT, 0, 1⟩ true).flag ⟨.TT_ASYM_STAT, 1, 1⟩ false).flag ⟨.TT_ASYM_STAT, 2, 1⟩ false
  | .TT_ASYM_CTRL => if bit v 0 then s.pairRequest else s
  | .TC_VPLOAM_CTRL => if s.rd Fld.TC_VPLOAM_CTRL_TYPE = 0 then s.vendorSilent else s
  | .MG_DELEG => if old = new then s else s.raise 962 [(16, old), (16, new)]
  | .MG_RING_CTRL =>
    if bit v 0 then
      let s1 := (s.wr Fld.MG_RING_WR_INDEX 0).wr Fld.MG_RING_RD_INDEX 0
      { s1 with cp := { s1.cp with ringPhase := true } }.settle
    else s.settle
  | _ => s

/-- A write by the access codes and stated ranges of a register's table; one out of range is discarded. -/
def State.plainWrite (s : State) (src : Src) (l : Loc) (v : Nat) : State :=
  let r := l.reg
  let old := (s.rdReg r l.i l.k).toNat
  let prog := s.maintains src && ttReg r
  let new := (if r = .MG_RING_CTRL && s.on Fld.MG_RING_CTRL_EN then putBits (r.merged prog l.high old v) 8 4 (bits old 8 4) else r.merged prog l.high old v)
  let held := match r with
    | .CX_SC_SSCI => s.on Fld.CX_SC_CFG_EN l.i
    | .CX_SC_SCI => s.on Fld.CX_SC_CFG_EN l.i
    | .MG_RING_BASE => s.on Fld.MG_RING_CTRL_EN
    | .TB_TODOUT_BUF => s.tb.todUntil.isSome
    | _ => false
  let group := r = .TM_Q_CFG && decide (3200 ≤ l.i) && bit new 25
  if held then s
  else if !r.inRange new || group then
    if tmReg r then s.tmRefused (r.place.off % 65536) l.i src else s
  else
    let s1 := s.wrReg r (BitVec.ofNat 64 new) l.i l.k
    let s2 := if r = .TT_ASYM_STAT && !prog then s1 else s1.wrote l old new v
    s2

/-- Stage the low word of a 64-bit register that commits at its high word. (log 40, DEDUCED) -/
def State.stageLow (s : State) (l : Loc) (v : Nat) : State :=
  { s with lowHalf := Tab.set s.lowHalf 0 (l.reg.key l.i l.k) (BitVec.ofNat 32 v) }

/-- The 64-bit value that a write of a high word commits. (log 40, DEDUCED) -/
def State.wholeWord (s : State) (l : Loc) (v : Nat) : Nat := (Tab.get s.lowHalf 0 (l.reg.key l.i l.k)).toNat + v % 2 ^ 32 * 2 ^ 32

/-- A write of a staging word of a shaper or a policer, and the commit (R451, R454). -/
def State.stageWrite (s : State) (pol : Bool) (src : Src) (l : Loc) (v : Nat) : State :=
  let x := stageOf s pol src
  let off := l.reg.place.off % 65536
  match l.reg with
  | .TM_SHP_SEL => if 4608 ≤ bits v 0 13 then s.tmRefused off (bits v 0 13) src else s.stageSelect false src (bits v 0 13)
  | .TM_POL_SEL => s.stageSelect true src (bits v 0 10)
  | .TM_SHP_RATE => if 64 < bits v 24 7 then s.tmRefused off x.sel src else s.setStage false src { x with rate := BitVec.ofNat 32 v }
  | .TM_POL_RATE => if 64 < bits v 24 7 then s.tmRefused off x.sel src else s.setStage true src { x with rate := BitVec.ofNat 32 v }
  | .TM_SHP_BURST => s.setStage false src { x with burst := BitVec.ofNat 32 (bits v 0 28) }
  | .TM_POL_BURST => s.setStage true src { x with burst := BitVec.ofNat 32 (bits v 0 28) }
  | _ =>
    let s1 := s.setStage pol src { x with ctrl := BitVec.ofNat 32 (bits v 0 2) }
    if bit v 4 then s1.stageCommit pol src (bits v 2 2) else s1

/-- A write of a vector's mask; a pending vector that is unmasked sends (R552). (log 86, DESIGN CHOICE) -/
def State.maskWrite (s : State) (k v : Nat) : State :=
  let s1 := s.flag Fld.MG_MSIX_CTRL_MASK (bit v 0) 0 k
  if !bit v 0 && bit (s1.rdReg .MG_MSIX_PBA 0 (k / 64)).toNat (k % 64) then
    (s1.wrReg .MG_MSIX_PBA (BitVec.ofNat 64 (putBits (s1.rdReg .MG_MSIX_PBA 0 (k / 64)).toNat (k % 64) 1 0)) 0 (k / 64)).emit (.msix k)
  else s1

/-- A write of MG_LATCH_CTRL: POP discards the oldest record while RINGEN = 0 (R550). -/
def State.latchPop (s : State) (v : Nat) : State :=
  if bit v 1 && !s.on Fld.MG_RING_CTRL_EN then { s with cp := { s.cp with latch := s.cp.latch.drop 1 } } else s

/-- A write of PR_STM_DATA; one in the predictor's flow table discards the history of its allocation (R247, R249). -/
def State.stmWrite (s : State) (v : Nat) : State :=
  let a := s.rd Fld.PR_STM_ADDR_ADDR / 4 * 4
  let s1 := s.stmDataWrite v
  if 0x80000 ≤ a ∧ a < 0x84000 then s1.predForget ((a - 0x80000) / 32) 3 else s1

/-- An accepted write of one register word: the effect that the register's chapter gives it. -/
def State.writeWord (s : State) (src : Src) (l : Loc) (v : Nat) : State :=
  let off := l.reg.addr l.i l.k % 65536 + (if l.high then 4 else 0)
  let x := s.ctx l.i
  match l.reg with
  | .PR_CTX_STATE => s.command l.i (bits v 4 4)
  | .PR_CTX_PC => s.ctxRegWrite l.i off { x with cpu := { x.cpu with pc := BitVec.ofNat 16 (v / 4 * 4), ranOff := false } }
  | .PR_CTX_TRAPVEC => s.ctxRegWrite l.i off { x with vecValid := bit v 0, vec := BitVec.ofNat 16 (v / 4 * 4) }
  | .PR_CTX_TRAP => if bit v 31 then s.setCtx l.i { x with tvalid := false } else s
  | .PR_CTX_GREG =>
    let r := BitVec.ofNat 5 l.k
    s.ctxRegWrite l.i off { x with cpu := x.cpu.put r (BitVec.ofNat 64 (putHalf l.high (x.cpu.get r).toNat v)) }
  | .PR_MEM_DATA => s.memDataWrite l.i v
  | .PR_STM_DATA => s.stmWrite v
  | .PR_HMSG_CTRL => s.hostMsgGo l.i v
  | .PR_LOAD_CTRL => s.loadGo l.i v src
  | .GT_LOAD_CTRL => s.gateLoadGo l.i v src
  | .GT_CTRL =>
    (if (s.gate l.i).st.runs then s else s.wr Fld.GT_CTRL_PC (bits v 16 16 / 4 * 4) l.i).gateCommand l.i (bits v 0 4)
  | .KT_BOOT_CTRL => s.bootCtrlWrite v
  | .KT_RESET => s.resetWrite v src
  | .KT_WDOG => s.wdogWrite v
  | .KT_SITE_VENDOR => s.siteWrite false v src
  | .KT_SITE_SERIAL => s.siteWrite true v src
  | .KT_SITE_CTRL => s.siteLock v
  | .KT_ESTOP => s.estopClear v
  | .KT_SAVE_DATA => s.saveWrite v src
  | .OP_WD_CTRL =>
    let clear := fun (t : State) (m : Nat) => if bit v m then t.wdClear m (Config.monitorDark m s.draws) else t
    clear (clear { s with draws := s.draws + 1 } 0) 1
  | .TB_INCR => s.incrWrite l.high v src
  | .TB_STEP => s.stepWrite l.high v src
  | .TB_CTRL => (s.rearm v src).clockFollow
  | .TB_PPSOUT_NEXT => s.ppsNextWrite v src
  | .TT_TOD_INFO => s.todInfoWrite v
  | .TT_HO_CTRL => s.modelReset v
  | .TT_BC_ID => (s.bcIdWrite l.high v).clockFollow
  | .TT_ASYM_MODEL => if Reg.inRange .TT_ASYM_MODEL v then s.asymModelWrite v else s
  | .TC_DS_MODE => s.dsModeWrite v
  | .TC_RNG_EQD => (s.eqdWrite l.k v).workingFollow
  | .TC_DS_GRP_CTRL => s.groupCapWrite l.i v
  | .TC_ACT_CTRL => s.actCtrlWrite v
  | .TC_DSC_SNAPREQ =>
    let s1 := s.plainWrite src l v
    if l.high && bit v 31 then s1.snapArm l.i (s1.rd ⟨.TC_DSC_SNAPREQ, 0, 51⟩ l.i) else s1
  | .TM_ALLOC_MAP => s.allocMapWrite l.i v (s.maintains src)
  | .TM_HOLD_FORCE => s.holdForce v
  | .TM_PRED_VAL => (s.wr ⟨.TM_PRED_VAL, 0, 30⟩ v 0 l.k).setReady l.k (bit v 31) 4
  | .TM_SHP_SEL => s.stageWrite false src l v
  | .TM_SHP_RATE => s.stageWrite false src l v
  | .TM_SHP_BURST => s.stageWrite false src l v
  | .TM_SHP_CTRL => s.stageWrite false src l v
  | .TM_POL_SEL => s.stageWrite true src l v
  | .TM_POL_RATE => s.stageWrite true src l v
  | .TM_POL_BURST => s.stageWrite true src l v
  | .TM_POL_CTRL => s.stageWrite true src l v
  | .LN_CTRL => (s.laneCtrlWrite l.i v).settle
  | .LN_PRBS_CTRL => s.prbsWrite l.i v
  | .MC_PREEMPT => if Reg.inRange .MC_PREEMPT v then s.preemptWrite l.i v else s
  | .MC_ROLE => s.rerole l.i v
  | .SV_RS_CTRL => s.swapSets v
  | .SV_EM_WORD => if l.high then s.emWrite l (s.wholeWord l v) src else s.stageLow l v
  | .SV_TR_WORD => if l.high then s.trWrite l (s.wholeWord l v) src else s.stageLow l v
  | .SV_ACT_WORD => if l.high then s.actWrite (s.wholeWord l v) else s.stageLow l v
  | .SV_WHISK_SEED => if l.high then s.seedWrite (s.wholeWord l v) src else s.stageLow l v
  | .LD_PART_PS => s.partitionWrite l v src
  | .LD_PART_RO => s.partitionWrite l v src
  | .LD_PART_PD => s.partitionWrite l v src
  | .LD_PART_LS => s.partitionWrite l v src
  | .LD_POOL_REGION => s.partitionWrite l v src
  | .LD_REQ_RSV => s.reserveWrite l v
  | .LD_REQ_CAP => s.reserveWrite l v
  | .LD_LOOK => if l.high then s.ledgerLookup v else s.stageLow l v
  | .CX_SC_CFG => s.scCfgWrite l.i v
  | .CX_SC_PN => if l.high then s.scPnWrite l.i (s.wholeWord l v) else s.stageLow l v
  | .CX_SC_THR => s.scThrWrite l.i (putHalf l.high (s.rdReg .CX_SC_THR l.i).toNat v)
  | .CX_LANE_CTRL => s.reviveWrite l.i v
  | .CX_PON_GEN => s.ponGenerate v
  | .CX_ROOT_KEY => s.rootKeyWrite l.k v
  | .CX_ROOT_CTRL => s.rootCtrlWrite v
  | .CX_KEK_CLEAR => s.kekClear l.high v
  | .CX_BLOB_W => s.blobWrite src l.k l.high v
  | .CX_BLOB_GO => s.blobGo src v
  | .PW_CTRL => s.pwCtrlWrite v src
  | .MG_LATCH_CTRL => s.latchPop v
  | .MG_MSIX_CTRL => s.maskWrite l.k v
  | _ => s.plainWrite src l v

/-! ## The access (R21, R499, R500, R530) -/

/-- How an access ends. -/
inductive Answer where
  | ok
  | auth
  | asleep (d : Nat)
  | unmapped
deriving DecidableEq, Repr

/-- A flat offset is mapped: a listed block of D0 to D12 (R20, R21). (log 7, DESIGN CHOICE) -/
def mapped (a : Nat) : Bool := a < 0x10000000 && blockListed (a / 0x1000000) (a / 0x10000 % 256)

/-- A domain answers a source as asleep; a host-link access to D12 waits for its exit, where it has power (R114, R500). -/
def State.sleepsFor (s : State) (src : Src) (d : Nat) : Bool := s.asleep d && !(src = .host && d = 12 && bit s.boot.powered 12)

/-- Where an access ends, unmapped before refused before asleep (R21, R65, R499, R528). (log 6, DEDUCED) -/
def State.reach (s : State) (src : Src) (a : Nat) (w : Option Nat) : Answer :=
  if !mapped a then .unmapped
  else if (match Loc.find (a / 4 * 4) with | some l => !s.allowed src l w | none => false) then .auth
  else if s.sleepsFor src (a / 0x1000000) then .asleep (a / 0x1000000)
  else .ok

/-- Gather a bit of the serial STATUS byte (R542). -/
def State.serialNote (s : State) (src : Src) (n : Nat) : State :=
  if src = .serial then { s with cp := { s.cp with serStatus := s.cp.serStatus ||| 2 ^ n } } else s

/-- The event that a register's own chapter names for a refused write (R134, R265, R403, R413, R481); none where it names none. -/
def State.ownRefusal (s : State) (src : Src) (a v : Nat) : Option State :=
  match Loc.find (a / 4 * 4) with
  | none => none
  | some l => match l.reg with
    | .KT_SITE_VENDOR => some s.siteRefused
    | .KT_SITE_SERIAL => some s.siteRefused
    | .TB_STEP => if l.high then some (s.tbRefused 0x20 src) else none
    | .SV_WHISK_SEED => some (s.svRefused l 0 src)
    | .LD_PART_PS => some (s.partitionWrite l v src)
    | .LD_PART_RO => some (s.partitionWrite l v src)
    | .LD_PART_PD => some (s.partitionWrite l v src)
    | .LD_PART_LS => some (s.partitionWrite l v src)
    | .LD_POOL_REGION => some (s.partitionWrite l v src)
    | .CX_ROOT_KEY => some (s.raise 839 [(16, srcCode src)])
    | .CX_ROOT_CTRL => some (s.raise 839 [(16, srcCode src)])
    | _ => none

/-- A refused write is counted and reported (R530, R542, R554). (log 37, DESIGN CHOICE) -/
def State.refuseWrite (s : State) (src : Src) (a v : Nat) : State :=
  let s1 := match src with
    | .host => s.count Fld.MG_AUTH_CNT_HOST
    | .serial => s.count Fld.MG_AUTH_CNT_SERIAL
    | _ => s
  let s2 := s1.serialNote src 1
  match s2.ownRefusal src a v, src with
  | some t, _ => t
  | none, .ctx _ => s2
  | none, .hw => s2
  | none, _ => s2.raise 960 [(16, srcCode src), (32, a)]

/-- An access met a sleeping domain (R499): the host link's is counted and reported, the serial port's counted and shown in STATUS. (log 37, DESIGN CHOICE) -/
def State.metSleep (s : State) (src : Src) (d : Nat) (write : Bool) : State :=
  match src with
  | .host => (s.count (if write then Fld.PW_ASLEEP_HOSTWR else Fld.PW_ASLEEP_HOSTRD)).raise 16 [(8, d), (16, srcCode src), (8, b2n write)]
  | .serial => (s.count (if write then Fld.PW_ASLEEP_SERWR else Fld.PW_ASLEEP_SERRD)).serialNote src 0
  | _ => s

/-- An access to a mapped register or a reserved offset that nothing stops: a reserved offset reads 0, and its writes are discarded (R8). -/
def State.perform (s : State) (src : Src) (a : Nat) (w : Option Nat) : State × Nat :=
  match Loc.find (a / 4 * 4), w with
  | none, _ => (s, 0)
  | some l, none => s.readWord src l
  | some l, some v => (s.writeWord src l v, 0)

/-- The host-link request casts D12's data-path vote (R500). -/
def State.portVote (s : State) (src : Src) : State := if src = .host && bit s.boot.powered 12 then s.wakeFor 12 else s

/-- A register access from a port or a program: the state after it, the word read, and how it ended. (log 6, DEDUCED) (log 7, DESIGN CHOICE) -/
def State.accessOnce (s : State) (src : Src) (a : Nat) (w : Option Nat) : State × Nat × Answer :=
  let s0 := s.portVote src
  match s0.reach src a w with
  | .unmapped => ((s0.raise 14 []).serialNote src 3, 0, .unmapped)
  | .auth => (match w with | some v => s0.refuseWrite src a v | none => s0, 0, .auth)
  | .asleep d => (s0.metSleep src d w.isSome, if src = .host ∨ src = .serial then 0xFFFFFFFF else 0, .asleep d)
  | .ok =>
    let x := s0.perform src a w
    (x.1, x.2, .ok)

/-- The access code of a proxied access (R534). -/
def Answer.proxyCode : Answer → Nat
  | .ok => 0
  | .auth => 1
  | .asleep _ => 2
  | .unmapped => 3

/-- A write of MG_PROXY_CTRL with GO (R534): the access is made with head-end authority, and completes its result slot. (log 37, DESIGN CHOICE) (log 45, DESIGN CHOICE) -/
def State.proxyGo (s : State) (v : Nat) : State :=
  if !bit v 1 then s
  else
    let a := s.rd Fld.MG_PROXY_ADDR_VALUE
    let x := s.accessOnce .proxy a (if bit v 0 then some (s.rd Fld.MG_PROXY_DATA_VALUE) else none)
    let s1 := if !bit v 0 && x.2.2 = .ok then x.1.wr Fld.MG_PROXY_DATA_VALUE x.2.1 else x.1
    (s1.wr Fld.MG_PROXY_STAT_CODE x.2.2.proxyCode).completeSlot .MG_PROXY_STAT Fld.MG_PROXY_STAT_SEQ

/-- A register access, the proxy window included: no proxied access reaches MG_PROXY_CTRL, which is not the head end's to write. (log 6, DEDUCED) (log 7, DESIGN CHOICE) -/
def State.access (s : State) (src : Src) (a : Nat) (w : Option Nat) : State × Nat × Answer :=
  let x := s.accessOnce src a w
  match w with
  | some v => if x.2.2 = .ok ∧ a / 4 * 4 = Reg.addr .MG_PROXY_CTRL 0 0 then (x.1.proxyGo v, x.2) else x
  | none => x

/-- A register write. (log 6, DEDUCED) (log 8, DESIGN CHOICE) -/
def State.regWrite (s : State) (src : Src) (a v : Nat) : State := (s.access src a (some v)).1

/-- A register read: the word read is put out. -/
def State.regRead (s : State) (src : Src) (a : Nat) : State :=
  let x := s.access src a none
  x.1.emit (.regRead src (BitVec.ofNat 32 x.2.1))

end Sys2Proof.Machine
end

