-- ==== Sys2Proof/Machine/Flags.lean ====
section
/-! DEFINITION. The flags of a Preoth machine: what a comparison sets (R38), and the conditions of sel and bc (R62). -/
namespace Sys2Proof.Machine

/-- A signed subtraction a − b overflows: its exact value is not a 64-bit two's-complement number. -/
def subOverflows (a b : Quad) : Bool := decide (a.toInt - b.toInt < -2 ^ 63 ∨ 2 ^ 63 ≤ a.toInt - b.toInt)

/-- The flags that a comparison of `a` with `b` sets (R38): Z equal, N bit 63 of a − b, C a < b unsigned, V a signed overflow. -/
def Cpu.compare (x : Cpu) (a b : Quad) : Cpu :=
  { x with z := decide (a = b), n := (a - b).msb, c := decide (a.toNat < b.toNat), v := subOverflows a b }

/-- The condition codes that R62 lists. -/
def condListed (k : BitVec 4) : Bool := decide (k.toNat ≤ 9) || k = 0xE

/-- A listed condition holds on the flags (R62). -/
def Cpu.holds (x : Cpu) (k : BitVec 4) : Bool :=
  match k.toNat with
  | 0x0 => x.z
  | 0x1 => !x.z
  | 0x2 => x.n != x.v
  | 0x3 => x.n == x.v
  | 0x4 => !x.z && x.n == x.v
  | 0x5 => x.z || x.n != x.v
  | 0x6 => x.c
  | 0x7 => !x.c
  | 0x8 => !x.c && !x.z
  | 0x9 => x.c || x.z
  | 0xE => true
  | _ => false

/-- Z, N, C and V as bits 0 to 3 of the flags register (R38). -/
def Cpu.flagBits (x : Cpu) : Nat := b2n x.z + 2 * b2n x.n + 4 * b2n x.c + 8 * b2n x.v

/-- Set Z, N, C and V from bits 0 to 3 of a value, as mts does (R39). -/
def Cpu.setFlags (x : Cpu) (v : Quad) : Cpu :=
  { x with z := bit v.toNat 0, n := bit v.toNat 1, c := bit v.toNat 2, v := bit v.toNat 3 }

end Sys2Proof.Machine
end

