-- ==== Sys2Proof/Machine/Operands.lean ====
section
/-! DEFINITION. The operand forms of Preoth instructions: immediates, bit fields, effective addresses, sizes and branch targets (R42, R58,
R60, R61). -/
namespace Sys2Proof.Machine

/-- A 16-bit immediate, sign-extended (R61). -/
def sext16 (i : BitVec 16) : Quad := i.signExtend 64

/-- A 16-bit immediate, zero-extended (R61). -/
def zext16 (i : BitVec 16) : Quad := i.zeroExtend 64

/-- The bytes of an access size (R58). -/
def bytesOf : MemSize → Nat
  | .b8 => 1
  | .b16 => 2
  | .b32 => 4
  | .b64 => 8

/-- The code of an access size (R58). -/
def sizeCode : MemSize → BitVec 2
  | .b8 => 0
  | .b16 => 1
  | .b32 => 2
  | .b64 => 3

/-- The access size of a code. -/
def sizeOf (k : BitVec 2) : MemSize :=
  match k.toNat with
  | 0 => .b8
  | 1 => .b16
  | 2 => .b32
  | _ => .b64

/-- The code of a memory space (R41). -/
def spaceCode : MemSpace → BitVec 2
  | .l => 0
  | .s => 1
  | .h => 2
  | .k => 3

/-- The memory space of a code. -/
def spaceOf (k : BitVec 2) : MemSpace :=
  match k.toNat with
  | 0 => .l
  | 1 => .s
  | 2 => .h
  | _ => .k

/-- The effective address: the base plus the sign-extended offset, modulo 2⁶⁴ (R42). -/
def effective (base : Quad) (off : BitVec 12) : Quad := base + off.signExtend 64

/-- A loaded value: `n` bytes, least significant first, extended to 64 bits with zeros or with their sign (R40, R61). -/
def extendBytes (signed : Bool) (b : List Byte) : Quad :=
  if signed then BitVec.ofInt 64 (sgn (8 * b.length) (leNat b)) else BitVec.ofNat 64 (leNat b)

/-- Bits [lsb + wm1 : lsb] of a value, zero-extended (R61). -/
def extract (v : Quad) (lsb wm1 : BitVec 6) : Quad := BitVec.ofNat 64 (bits v.toNat lsb.toNat (wm1.toNat + 1))

/-- Bits [lsb + wm1 : lsb] of a value, sign-extended (R61). -/
def extractSigned (v : Quad) (lsb wm1 : BitVec 6) : Quad :=
  BitVec.ofInt 64 (sgn (wm1.toNat + 1) (bits v.toNat lsb.toNat (wm1.toNat + 1)))

/-- A value whose bits [lsb + wm1 : lsb] are replaced by the low bits of another (R61). -/
def insert (old v : Quad) (lsb wm1 : BitVec 6) : Quad :=
  BitVec.ofNat 64 (putBits old.toNat lsb.toNat (wm1.toNat + 1) v.toNat)

/-- A bit field that the table lists: lsb + width is at most 64 (R61). -/
def fieldFits (lsb wm1 : BitVec 6) : Bool := decide (lsb.toNat + wm1.toNat < 64)

/-- Leading zeros among the low `n` bits of a number; `n` when all are zero. -/
def leadZeros (v : Nat) : Nat → Nat
  | 0 => 0
  | n + 1 => if bit v n then 0 else 1 + leadZeros v n

/-- Trailing zeros among `n` bits of a number; `n` when all are zero. -/
def trailZeros (v : Nat) : Nat → Nat
  | 0 => 0
  | n + 1 => if v % 2 = 1 then 0 else 1 + trailZeros (v / 2) n

/-- One bits among `n` bits of a number. -/
def onesIn (v : Nat) : Nat → Nat
  | 0 => 0
  | n + 1 => v % 2 + onesIn (v / 2) n

/-- The variants of cnt (R61): population count, leading zeros, trailing zeros. -/
def countBits (fn : BitVec 4) (v : Quad) : Quad :=
  BitVec.ofNat 64 (if fn = 0 then onesIn v.toNat 64 else if fn = 1 then leadZeros v.toNat 64 else trailZeros v.toNat 64)

/-- The variants of bswap (R61): the low 2, 4 or 8 bytes reversed, zero-extended. -/
def swapBytes (fn : BitVec 4) (v : Quad) : Quad :=
  BitVec.ofNat 64 (leNat (leBytes v.toNat (if fn = 0 then 2 else if fn = 1 then 4 else 8)).reverse)

/-- The target of a branch or a jump: its address plus four times its offset in words (R60). -/
def targetOf (pc : BitVec 16) (off : Int) : Int := (pc.toNat : Int) + 4 * off

/-- A memory size in L (R41, R104). -/
def lSize : Agent → Nat
  | .ctx _ => 131072
  | .gate _ => 4096

/-- Replace the bytes that a posted store covers in bytes read at an address of the same space. -/
def overlay (addr : Nat) : List Byte → Posted → List Byte
  | [], _ => []
  | b :: r, w => (if w.addr ≤ addr ∧ addr < w.addr + w.data.length then w.data.getD (addr - w.addr) 0 else b) :: overlay (addr + 1) r w

end Sys2Proof.Machine
end

