-- ==== Sys2Proof/Machine/Encoding.lean ====
section
/-! DEFINITION. The encoding of Preoth instructions in 32-bit words: the formats of R58, the opcode table of R61, the must-be-zero fields of
R63, the special registers of R39 and the hardware-call numbers of R95. `encode` gives the word of an instruction, `decodeWord` the
instruction of a word. -/
namespace Sys2Proof.Machine

/-! ## Formats (R58) -/

/-- Format R. -/
def wordR (op : BitVec 6) (rd ra rb : GReg) (fn : BitVec 4) : Word := op ++ rd ++ ra ++ rb ++ fn ++ (0 : BitVec 7)

/-- Format I; format W with ra 0. -/
def wordI (op : BitVec 6) (rd ra : GReg) (imm : BitVec 16) : Word := op ++ rd ++ ra ++ imm

/-- Format X. -/
def wordX (op : BitVec 6) (rd ra : GReg) (lsb wm1 : BitVec 6) : Word := op ++ rd ++ ra ++ lsb ++ wm1 ++ (0 : BitVec 4)

/-- Format M. -/
def wordM (op : BitVec 6) (rd ra : GReg) (sp : MemSpace) (sz : MemSize) (off : BitVec 12) : Word :=
  op ++ rd ++ ra ++ spaceCode sp ++ sizeCode sz ++ off

/-- Format J; format N with offset 0. -/
def wordJ (op : BitVec 6) (off : BitVec 26) : Word := op ++ off

/-- Formats S and H: a number in [15:8]. -/
def wordS (op : BitVec 6) (rd ra : GReg) (k : BitVec 8) : Word := op ++ rd ++ ra ++ k ++ (0 : BitVec 8)

/-- An hcall. -/
def wordH (rd ra : GReg) (n : BitVec 8) : Word := wordS 0x34 rd ra n

/-- The word of a Preoth instruction; none for a command that is not one. -/
def encode : Instr → Option Word
  | .nop _ => some (wordJ 0x01 0)
  | .add _ rd ra rb => some (wordR 0x02 rd ra rb 0)
  | .sub _ rd ra rb => some (wordR 0x03 rd ra rb 0)
  | .andR _ rd ra rb => some (wordR 0x04 rd ra rb 0)
  | .orR _ rd ra rb => some (wordR 0x05 rd ra rb 0)
  | .xorR _ rd ra rb => some (wordR 0x06 rd ra rb 0)
  | .shl _ rd ra rb => some (wordR 0x07 rd ra rb 0)
  | .shr _ rd ra rb => some (wordR 0x08 rd ra rb 0)
  | .sar _ rd ra rb => some (wordR 0x09 rd ra rb 0)
  | .mul _ rd ra rb => some (wordR 0x0A rd ra rb 0)
  | .mulhu _ rd ra rb => some (wordR 0x0B rd ra rb 0)
  | .divu _ rd ra rb => some (wordR 0x0C rd ra rb 0)
  | .remu _ rd ra rb => some (wordR 0x0D rd ra rb 0)
  | .cmp _ ra rb => some (wordR 0x0E 0 ra rb 0)
  | .sel _ rd ra rb k => some (wordR 0x0F rd ra rb k)
  | .addi _ rd ra i => some (wordI 0x10 rd ra i)
  | .andi _ rd ra i => some (wordI 0x11 rd ra i)
  | .ori _ rd ra i => some (wordI 0x12 rd ra i)
  | .xori _ rd ra i => some (wordI 0x13 rd ra i)
  | .shli _ rd ra n => some (wordI 0x14 rd ra (n.zeroExtend 16))
  | .shri _ rd ra n => some (wordI 0x15 rd ra (n.zeroExtend 16))
  | .sari _ rd ra n => some (wordI 0x16 rd ra (n.zeroExtend 16))
  | .cmpi _ ra i => some (wordI 0x17 0 ra i)
  | .kset _ rd i => some (wordI 0x18 rd 0 i)
  | .kcat _ rd i => some (wordI 0x19 rd 0 i)
  | .extZ _ rd ra l w => some (wordX 0x1A rd ra l w)
  | .exts _ rd ra l w => some (wordX 0x1B rd ra l w)
  | .insB _ rd ra l w => some (wordX 0x1C rd ra l w)
  | .cnt _ rd ra fn => some (wordR 0x1D rd ra 0 fn)
  | .bswap _ rd ra fn => some (wordR 0x1E rd ra 0 fn)
  | .reservedOpcode _ w => some w
  | .ld _ rd ra sp sz off _ => some (wordM 0x20 rd ra sp sz off)
  | .lds _ rd ra sp sz off _ => some (wordM 0x21 rd ra sp sz off)
  | .st _ rs ra sp sz off => some (wordM 0x22 rs ra sp sz off)
  | .aadd _ rd ra sp sz off _ => some (wordM 0x23 rd ra sp sz off)
  | .cas _ rd ra rb sp _ => some (wordR 0x24 rd ra rb (spaceCode sp ++ (0 : BitVec 2)))
  | .fence _ => some (wordJ 0x25 0)
  | .mfs _ rd sr => some (wordS 0x26 rd 0 sr)
  | .mts _ sr ra => some (wordS 0x27 0 ra sr)
  | .beq _ ra rb off => some (wordI 0x28 ra rb off)
  | .bne _ ra rb off => some (wordI 0x29 ra rb off)
  | .blt _ ra rb off => some (wordI 0x2A ra rb off)
  | .bge _ ra rb off => some (wordI 0x2B ra rb off)
  | .bltu _ ra rb off => some (wordI 0x2C ra rb off)
  | .bgeu _ ra rb off => some (wordI 0x2D ra rb off)
  | .bc _ k off => some (wordI 0x2E (k ++ (0 : BitVec 1)) 0 off)
  | .j _ off => some (wordJ 0x2F off)
  | .call _ off => some (wordJ 0x30 off)
  | .jr _ ra => some (wordR 0x31 0 ra 0 0)
  | .jalr _ rd ra => some (wordR 0x32 rd ra 0 0)
  | .eret _ => some (wordJ 0x33 0)
  | .send _ rd ra rb n => some (wordR 0x35 rd ra rb (n.zeroExtend 4))
  | .recv _ rd ra rb => some (wordR 0x36 rd ra rb 0)
  | .twait _ ra => some (wordR 0x37 0 ra 0 0)
  | .timeNow _ rd => some (wordR 0x38 rd 0 0 0)
  | .creg _ rd ra => some (wordR 0x39 rd ra 0 0)
  | .cwr _ ra rb => some (wordR 0x3A 0 ra rb 0)
  | .sysTrap _ i => some (wordI 0x3B 0 0 i)
  | .yield _ => some (wordJ 0x3C 0)
  | .halt _ => some (wordJ 0x3D 0)
  | .unknownHcall _ rd ra n => some (wordH rd ra n)
  | .pktNext _ rd ra => some (wordH rd ra 0x01)
  | .pktSend _ rd ra => some (wordH rd ra 0x02)
  | .pktDrop _ rd ra => some (wordH rd ra 0x03)
  | .pktRecirc _ rd ra => some (wordH rd ra 0x04)
  | .pktDup _ rd ra => some (wordH rd ra 0x05)
  | .pktEmit _ rd ra => some (wordH rd ra 0x06)
  | .ldAlloc _ rd ra => some (wordH rd ra 0x10)
  | .ldFree _ rd ra => some (wordH rd ra 0x11)
  | .svLookup _ rd ra => some (wordH rd ra 0x20)
  | .svFlowstat _ rd ra => some (wordH rd ra 0x21)
  | .tmDepth _ rd ra => some (wordH rd ra 0x30)
  | .tmDelay _ rd ra => some (wordH rd ra 0x31)
  | .cxUnwrap _ rd ra => some (wordH rd ra 0x40)
  | .cxPnleft _ rd ra => some (wordH rd ra 0x41)
  | .tbTimer _ rd ra => some (wordH rd ra 0x50)
  | .tbCancel _ rd ra => some (wordH rd ra 0x51)
  | .pwVote _ rd ra => some (wordH rd ra 0x60)
  | .pwUnvote _ rd ra => some (wordH rd ra 0x61)
  | .pwNext _ rd ra => some (wordH rd ra 0x62)
  | .authNarrow _ rd ra => some (wordH rd ra 0x70)
  | .evRaise _ rd ra => some (wordH rd ra 0x78)
  | .gtEdge _ rd ra => some (wordH rd ra 0x80)
  | .gtFlush _ rd ra => some (wordH rd ra 0x81)
  | _ => none

/-- The word of a Preoth instruction, as an ILLOP or PROFILE trap reports it. -/
def wordOf (i : Instr) : Quad := ((encode i).getD 0).zeroExtend 64

/-! ## Decoding (R58, R59, R61, R63) -/

/-- A field of an instruction word. -/
def fld (w : Word) (lo len : Nat) : BitVec len := w.extractLsb' lo len

/-- The instruction where a field that must be zero is zero. -/
def zeroed (w : Word) (lo len : Nat) (i : Instr) : Option Instr := if fld w lo len = 0 then some i else none

/-- Format N. -/
def decN (w : Word) (i : Instr) : Option Instr := zeroed w 0 26 i

/-- Format R with no variant. -/
def decR (w : Word) (k : GReg → GReg → GReg → Instr) : Option Instr := zeroed w 0 11 (k (fld w 21 5) (fld w 16 5) (fld w 11 5))

/-- Format I. -/
def decI (w : Word) (k : GReg → GReg → BitVec 16 → Instr) : Option Instr := some (k (fld w 21 5) (fld w 16 5) (fld w 0 16))

/-- Format I with a shift count. -/
def decSh (w : Word) (k : GReg → GReg → BitVec 6 → Instr) : Option Instr := zeroed w 6 10 (k (fld w 21 5) (fld w 16 5) (fld w 0 6))

/-- Format W. -/
def decW (w : Word) (k : GReg → BitVec 16 → Instr) : Option Instr := zeroed w 16 5 (k (fld w 21 5) (fld w 0 16))

/-- Format X. -/
def decX (w : Word) (k : GReg → GReg → BitVec 6 → BitVec 6 → Instr) : Option Instr :=
  if fieldFits (fld w 10 6) (fld w 4 6) then zeroed w 0 4 (k (fld w 21 5) (fld w 16 5) (fld w 10 6) (fld w 4 6)) else none

/-- Format M. -/
def decM (w : Word) (k : GReg → GReg → MemSpace → MemSize → BitVec 12 → Instr) : Option Instr :=
  some (k (fld w 21 5) (fld w 16 5) (spaceOf (fld w 14 2)) (sizeOf (fld w 12 2)) (fld w 0 12))

/-- Format R with rb 0 and a variant of at most 2. -/
def decV (w : Word) (k : GReg → GReg → BitVec 4 → Instr) : Option Instr :=
  if (fld w 7 4).toNat ≤ 2 then (if fld w 11 5 = 0 then zeroed w 0 7 (k (fld w 21 5) (fld w 16 5) (fld w 7 4)) else none) else none

/-- The spaces and sizes that aadd takes (R46). -/
def aaddTakes (sp : MemSpace) (sz : MemSize) : Bool := (sp = .l || sp = .s) && (sz = .b32 || sz = .b64)

/-- The spaces that cas takes (R46). -/
def casTakes (sp : MemSpace) : Bool := sp = .l || sp = .s

/-- The special registers that mfs reads (R39). -/
def mfsTakes (sr : BitVec 8) : Bool := decide (sr.toNat ≤ 6)

/-- The special registers that mts writes (R39). -/
def mtsTakes (sr : BitVec 8) : Bool := sr = 0 || sr = 6

/-- The hcall with a number (R95). -/
def decCall (a : Agent) (rd ra : GReg) (n : BitVec 8) : Instr :=
  match n.toNat with
  | 0x01 => .pktNext a rd ra
  | 0x02 => .pktSend a rd ra
  | 0x03 => .pktDrop a rd ra
  | 0x04 => .pktRecirc a rd ra
  | 0x05 => .pktDup a rd ra
  | 0x06 => .pktEmit a rd ra
  | 0x10 => .ldAlloc a rd ra
  | 0x11 => .ldFree a rd ra
  | 0x20 => .svLookup a rd ra
  | 0x21 => .svFlowstat a rd ra
  | 0x30 => .tmDepth a rd ra
  | 0x31 => .tmDelay a rd ra
  | 0x40 => .cxUnwrap a rd ra
  | 0x41 => .cxPnleft a rd ra
  | 0x50 => .tbTimer a rd ra
  | 0x51 => .tbCancel a rd ra
  | 0x60 => .pwVote a rd ra
  | 0x61 => .pwUnvote a rd ra
  | 0x62 => .pwNext a rd ra
  | 0x70 => .authNarrow a rd ra
  | 0x78 => .evRaise a rd ra
  | 0x80 => .gtEdge a rd ra
  | 0x81 => .gtFlush a rd ra
  | _ => .unknownHcall a rd ra n

/-- The instruction of a word that the opcode table lists. -/
def decodeListed (a : Agent) (w : Word) : Option Instr :=
  match (fld w 26 6).toNat with
  | 0x01 => decN w (.nop a)
  | 0x02 => decR w (.add a)
  | 0x03 => decR w (.sub a)
  | 0x04 => decR w (.andR a)
  | 0x05 => decR w (.orR a)
  | 0x06 => decR w (.xorR a)
  | 0x07 => decR w (.shl a)
  | 0x08 => decR w (.shr a)
  | 0x09 => decR w (.sar a)
  | 0x0A => decR w (.mul a)
  | 0x0B => decR w (.mulhu a)
  | 0x0C => decR w (.divu a)
  | 0x0D => decR w (.remu a)
  | 0x0E => if fld w 21 5 = 0 then decR w (fun _ ra rb => .cmp a ra rb) else none
  | 0x0F => if condListed (fld w 7 4) then zeroed w 0 7 (.sel a (fld w 21 5) (fld w 16 5) (fld w 11 5) (fld w 7 4)) else none
  | 0x10 => decI w (.addi a)
  | 0x11 => decI w (.andi a)
  | 0x12 => decI w (.ori a)
  | 0x13 => decI w (.xori a)
  | 0x14 => decSh w (.shli a)
  | 0x15 => decSh w (.shri a)
  | 0x16 => decSh w (.sari a)
  | 0x17 => zeroed w 21 5 (.cmpi a (fld w 16 5) (fld w 0 16))
  | 0x18 => decW w (.kset a)
  | 0x19 => decW w (.kcat a)
  | 0x1A => decX w (.extZ a)
  | 0x1B => decX w (.exts a)
  | 0x1C => decX w (.insB a)
  | 0x1D => decV w (.cnt a)
  | 0x1E => decV w (.bswap a)
  | 0x20 => decM w (fun rd ra sp sz off => .ld a rd ra sp sz off .clean)
  | 0x21 => decM w (fun rd ra sp sz off => .lds a rd ra sp sz off .clean)
  | 0x22 => decM w (.st a)
  | 0x23 =>
    if aaddTakes (spaceOf (fld w 14 2)) (sizeOf (fld w 12 2)) then decM w (fun rd ra sp sz off => .aadd a rd ra sp sz off .clean) else none
  | 0x24 =>
    if casTakes (spaceOf (fld w 9 2)) then zeroed w 0 9 (.cas a (fld w 21 5) (fld w 16 5) (fld w 11 5) (spaceOf (fld w 9 2)) .clean) else none
  | 0x25 => decN w (.fence a)
  | 0x26 => if mfsTakes (fld w 8 8) then (if fld w 16 5 = 0 then zeroed w 0 8 (.mfs a (fld w 21 5) (fld w 8 8)) else none) else none
  | 0x27 => if mtsTakes (fld w 8 8) then (if fld w 21 5 = 0 then zeroed w 0 8 (.mts a (fld w 8 8) (fld w 16 5)) else none) else none
  | 0x28 => decI w (.beq a)
  | 0x29 => decI w (.bne a)
  | 0x2A => decI w (.blt a)
  | 0x2B => decI w (.bge a)
  | 0x2C => decI w (.bltu a)
  | 0x2D => decI w (.bgeu a)
  | 0x2E => if condListed (fld w 22 4) then zeroed w 16 6 (.bc a (fld w 22 4) (fld w 0 16)) else none
  | 0x2F => some (.j a (fld w 0 26))
  | 0x30 => some (.call a (fld w 0 26))
  | 0x31 => if fld w 21 5 = 0 then zeroed w 0 16 (.jr a (fld w 16 5)) else none
  | 0x32 => zeroed w 0 16 (.jalr a (fld w 21 5) (fld w 16 5))
  | 0x33 => decN w (.eret a)
  | 0x34 => zeroed w 0 8 (decCall a (fld w 21 5) (fld w 16 5) (fld w 8 8))
  | 0x35 => if fld w 10 1 = 0 then zeroed w 0 7 (.send a (fld w 21 5) (fld w 16 5) (fld w 11 5) (fld w 7 3)) else none
  | 0x36 => decR w (.recv a)
  | 0x37 => if fld w 21 5 = 0 then zeroed w 0 16 (.twait a (fld w 16 5)) else none
  | 0x38 => zeroed w 0 21 (.timeNow a (fld w 21 5))
  | 0x39 => zeroed w 0 16 (.creg a (fld w 21 5) (fld w 16 5))
  | 0x3A => if fld w 21 5 = 0 then decR w (fun _ ra rb => .cwr a ra rb) else none
  | 0x3B => zeroed w 16 10 (.sysTrap a (fld w 0 16))
  | 0x3C => decN w (.yield a)
  | 0x3D => decN w (.halt a)
  | _ => none

/-- The instruction of a word: a word that the table does not list is one that traps ILLOP (R59). -/
def decodeWord (a : Agent) (w : Word) : Instr := (decodeListed a w).getD (.reservedOpcode a w)

/-- The agent that issues a Preoth instruction. -/
def agentOf : Instr → Option Agent
  | .nop a => some a
  | .add a _ _ _ => some a
  | .sub a _ _ _ => some a
  | .andR a _ _ _ => some a
  | .orR a _ _ _ => some a
  | .xorR a _ _ _ => some a
  | .shl a _ _ _ => some a
  | .shr a _ _ _ => some a
  | .sar a _ _ _ => some a
  | .mul a _ _ _ => some a
  | .mulhu a _ _ _ => some a
  | .divu a _ _ _ => some a
  | .remu a _ _ _ => some a
  | .cmp a _ _ => some a
  | .sel a _ _ _ _ => some a
  | .addi a _ _ _ => some a
  | .andi a _ _ _ => some a
  | .ori a _ _ _ => some a
  | .xori a _ _ _ => some a
  | .shli a _ _ _ => some a
  | .shri a _ _ _ => some a
  | .sari a _ _ _ => some a
  | .cmpi a _ _ => some a
  | .kset a _ _ => some a
  | .kcat a _ _ => some a
  | .extZ a _ _ _ _ => some a
  | .exts a _ _ _ _ => some a
  | .insB a _ _ _ _ => some a
  | .cnt a _ _ _ => some a
  | .bswap a _ _ _ => some a
  | .reservedOpcode a _ => some a
  | .ld a _ _ _ _ _ _ => some a
  | .lds a _ _ _ _ _ _ => some a
  | .st a _ _ _ _ _ => some a
  | .aadd a _ _ _ _ _ _ => some a
  | .cas a _ _ _ _ _ => some a
  | .fence a => some a
  | .mfs a _ _ => some a
  | .mts a _ _ => some a
  | .beq a _ _ _ => some a
  | .bne a _ _ _ => some a
  | .blt a _ _ _ => some a
  | .bge a _ _ _ => some a
  | .bltu a _ _ _ => some a
  | .bgeu a _ _ _ => some a
  | .bc a _ _ => some a
  | .j a _ => some a
  | .call a _ => some a
  | .jr a _ => some a
  | .jalr a _ _ => some a
  | .eret a => some a
  | .send a _ _ _ _ => some a
  | .recv a _ _ _ => some a
  | .twait a _ => some a
  | .timeNow a _ => some a
  | .creg a _ _ => some a
  | .cwr a _ _ => some a
  | .sysTrap a _ => some a
  | .yield a => some a
  | .halt a => some a
  | .unknownHcall a _ _ _ => some a
  | .pktNext a _ _ => some a
  | .pktSend a _ _ => some a
  | .pktDrop a _ _ => some a
  | .pktRecirc a _ _ => some a
  | .pktDup a _ _ => some a
  | .pktEmit a _ _ => some a
  | .ldAlloc a _ _ => some a
  | .ldFree a _ _ => some a
  | .svLookup a _ _ => some a
  | .svFlowstat a _ _ => some a
  | .tmDepth a _ _ => some a
  | .tmDelay a _ _ => some a
  | .cxUnwrap a _ _ => some a
  | .cxPnleft a _ _ => some a
  | .tbTimer a _ _ => some a
  | .tbCancel a _ _ => some a
  | .pwVote a _ _ => some a
  | .pwUnvote a _ _ => some a
  | .pwNext a _ _ => some a
  | .authNarrow a _ _ => some a
  | .evRaise a _ _ => some a
  | .gtEdge a _ _ => some a
  | .gtFlush a _ _ => some a
  | _ => none

/-- An instruction whose operands the table lists (R46, R59, R61, R62), as a word of instruction memory spells it: no check bits of data are part
of a word. -/
def spelled : Instr → Bool
  | .sel _ _ _ _ k => condListed k
  | .bc _ k _ => condListed k
  | .extZ _ _ _ l w => fieldFits l w
  | .exts _ _ _ l w => fieldFits l w
  | .insB _ _ _ l w => fieldFits l w
  | .cnt _ _ _ fn => decide (fn.toNat ≤ 2)
  | .bswap _ _ _ fn => decide (fn.toNat ≤ 2)
  | .ld _ _ _ _ _ _ e => e = .clean
  | .lds _ _ _ _ _ _ e => e = .clean
  | .aadd _ _ _ sp sz _ e => aaddTakes sp sz && e = .clean
  | .cas _ _ _ _ sp e => casTakes sp && e = .clean
  | .mfs _ _ sr => mfsTakes sr
  | .mts _ sr _ => mtsTakes sr
  | .reservedOpcode a w => decodeListed a w = none
  | .unknownHcall a rd ra n => decCall a rd ra n = .unknownHcall a rd ra n
  | _ => true

end Sys2Proof.Machine
end

