-- ==== Sys2Proof/Machine/Issue.lean ====
section
/-! DEFINITION. The issue of one Preoth instruction: when an agent may issue (R50, R52, R73), the traps taken before an instruction has
its effect in the order of R65, the step limit (R71), and the completion of an instruction (R51, R61, R66). -/
namespace Sys2Proof.Machine

/-- A context takes part in its engine's rotation: it is Ready, its domain is awake, CTXEN enables it and single mode lets it (R52, R73). -/
def State.inRotation (s : State) (c : Nat) : Bool :=
  (s.ctx c).st = .ready && !s.asleep (ctxDomain c) && bit (s.rd Fld.PR_ENG_CTRL_CTXEN (ctxEngine c)) (c % 8)
    && (!s.on Fld.PR_ENG_CTRL_SINGLE (ctxEngine c) || (s.eng (ctxEngine c)).stepDue)

/-- The first place of a rotation of eight after `last` that takes part. -/
def nextPlace (part : Nat → Bool) (last : Nat) : Option Nat :=
  ((List.range 8).map (fun k => (last + 1 + k) % 8)).find? part

/-- The engine's turns pass in rotating order, each taken by the first context after the last that takes part, while that context's latest
instruction still takes turns: the place that then issues, and the turns still to be taken (R50). The fuel is the number of turns. (log 24, DESIGN CHOICE) -/
def passTurns (part : Nat → Bool) : Nat → Nat → Tab Nat → Option (Nat × Tab Nat)
  | 0, _, _ => none
  | n + 1, last, turns =>
    match nextPlace part last with
    | none => none
    | some k =>
      if Tab.get turns 0 k ≤ 1 then some (k, Tab.set turns 0 k 0)
      else passTurns part n k (Tab.set turns 0 k (Tab.get turns 0 k - 1))

/-- The context of an engine whose turn it is to issue, and the turns still to be taken then (R50). (log 24, DESIGN CHOICE) -/
def State.nextTurn (s : State) (e : Nat) : Option (Nat × Tab Nat) :=
  let g := s.eng e
  let owed := (List.range 8).foldl (fun n k => n + Tab.get g.turns 0 k) 1
  (passTurns (fun k => s.inRotation (8 * e + k)) owed g.last g.turns).map fun x => (8 * e + x.1, x.2)

/-- An agent may issue: a context in its turn of the rotation; a gate sequencer that is Ready in an awake domain (R50, R52, R73, R104). -/
def State.mayIssue (s : State) (a : Agent) : Bool :=
  match a with
  | .ctx c => (match s.nextTurn (ctxEngine c) with
    | some (d, _) => d = c
    | none => false)
  | .gate p => (s.gate p).st = .ready && !s.asleep (portDomain p)

/-- The turns before a context's issue have been taken (R50). (log 24, DESIGN CHOICE) -/
def State.takeTurns (s : State) (c : Nat) : State :=
  match s.nextTurn (ctxEngine c) with
  | some (_, t) => s.setEng (ctxEngine c) { s.eng (ctxEngine c) with turns := t }
  | none => s

/-- The agent takes the issue slot: the engine's rotation moves to it and a step of single mode is used up (R50, R73). -/
def State.noteIssue (s : State) (a : Agent) : State :=
  match a with
  | .ctx c =>
    let e := ctxEngine c
    let s0 := s.takeTurns c
    let s1 := s0.setEng e { s0.eng e with last := c % 8, stepDue := false }
    s1.setCtx c { s1.ctx c with lastPc := (s1.ctx c).cpu.pc }
  | .gate p => s.setGate p { s.gate p with lastPc := (s.gate p).cpu.pc }

/-- A trap of the instruction just issued: one step for its issue (R66). -/
def State.trapNow (s : State) (a : Agent) (cause : Nat) (tval : Quad) : State := (s.charge a 1).trap a cause tval

/-- The first address past an agent's instruction memory, the trap value of a sequential fetch there (R60, R104). (log 19, DEDUCED) -/
def pastEnd : Agent → Quad
  | .ctx _ => 0x10000
  | .gate _ => 0x2000

/-- The STEPLIMIT trap of a context at the present boundary: no issue step, and the count stops (R66, R71). (log 123, DESIGN CHOICE) -/
def State.limitTrap (s : State) (c : Nat) : State :=
  let s0 := (s.takeTurns c).setTurns c 1
  let s1 := s0.setEng (ctxEngine c) { s0.eng (ctxEngine c) with stepDue := false }
  s1.trapEntry c (s1.ctx c).cpu.pc 0x0A (BitVec.ofNat 64 (s1.ctx c).pktSteps) true

/-- The agent's effect of an instruction whose word is `word`, where nothing has stopped it before: ILLOP unless its encoding is listed,
PROFILE unless its profile permits it, then `body` (R65). -/
def State.begin (s : State) (a : Agent) (word : Quad) (listed permitted : Bool) (body : State → State) : State :=
  if !listed then s.trapNow a 1 word
  else if !permitted then s.trapNow a 2 word
  else body s

/-- One instruction of `cost` steps issues, where its agent may issue; otherwise nothing happens. A parity error on its fetch traps PARITY with
the pc, before anything of the word is looked at (R49, R65). (log 19, DEDUCED) (log 15, DESIGN CHOICE) (log 123, DESIGN CHOICE) -/
def State.issue (s : State) (a : Agent) (cost : Nat) (word : Quad) (listed permitted : Bool) (body : State → State) :
    Host.Outcome State Fault Refusal :=
  if !agentExists a then .fault .noSuchObject
  else if !s.mayIssue a then .next s
  else if (s.cpu a).ranOff then .next ((s.noteIssue a).trapNow a 4 (pastEnd a))
  else if s.overLimit a (if s.fetchBad a then 1 else cost) then .next (match a with | .ctx c => s.limitTrap c | .gate _ => s)
  else if s.fetchBad a then .next ((s.noteIssue a).trapNow a 8 ((s.cpu a).pc.zeroExtend 64))
  else .next ((s.noteIssue a).begin a word listed permitted body)

/-- An instruction completes: its steps are charged, its results stand in the registers, and the pc moves on. -/
def State.retire (s : State) (a : Agent) (cost : Nat) (f : Cpu → Cpu) : State :=
  let s1 := s.charge a cost
  s1.setCpu a ((f (s1.cpu a)).advance a)

/-- An instruction completes with the pc at a target inside instruction memory (R60). -/
def State.jumpTo (s : State) (a : Agent) (cost : Nat) (target : Nat) (f : Cpu → Cpu) : State :=
  let s1 := s.charge a cost
  s1.setCpu a { f (s1.cpu a) with pc := BitVec.ofNat 16 target, ranOff := false }

/-- The turns of a waiting instruction are taken before and during its wait (R50, R52). (log 24, DESIGN CHOICE) -/
def State.turnsPassed (s : State) (a : Agent) : State :=
  match a with
  | .ctx c => s.setTurns c 1
  | .gate _ => s

/-- An instruction waits (R52): its steps are charged, and the context is Waiting. -/
def State.waitFor (s : State) (a : Agent) (cost : Nat) (w : Wait) : State := ((s.charge a cost).turnsPassed a).goTo a .waiting (some w)

/-- A context runs the packet profile. -/
def State.isPacket (s : State) : Agent → Bool
  | .ctx c => (s.ctx c).packet
  | .gate _ => false

/-- A context runs the control profile. -/
def State.isControl (s : State) : Agent → Bool
  | .ctx c => !(s.ctx c).packet
  | .gate _ => false

/-- The agent is a context. -/
def isCtx : Agent → Bool
  | .ctx _ => true
  | .gate _ => false

end Sys2Proof.Machine
end

