-- ==== Sys2Proof/Machine/Alu.lean ====
section
/-! DEFINITION. The arithmetic, logic, shift, compare and bit-field instructions of Preoth, opcodes 0x01 to 0x1E, and reserved words (R59,
R61, R62). -/
namespace Sys2Proof.Machine

/-- An instruction that only computes: it is permitted in every profile (R76) and changes the registers as `f` says. -/
def State.compute (s : State) (a : Agent) (cost : Nat) (i : Instr) (listed : Bool) (f : Cpu → Cpu) : Host.Outcome State Fault Refusal :=
  s.issue a cost (wordOf i) listed true (fun t => t.retire a cost f)

/-- rd = op(ra, rb). -/
def State.binary (s : State) (a : Agent) (cost : Nat) (i : Instr) (rd ra rb : GReg) (op : Quad → Quad → Quad) :
    Host.Outcome State Fault Refusal :=
  s.compute a cost i true (fun x => x.put rd (op (x.get ra) (x.get rb)))

/-- rd = op(ra). -/
def State.unary (s : State) (a : Agent) (i : Instr) (listed : Bool) (rd ra : GReg) (op : Quad → Quad) : Host.Outcome State Fault Refusal :=
  s.compute a 1 i listed (fun x => x.put rd (op (x.get ra)))

/-- divu and remu: DIVZERO, with the dividend as its trap value, where the divisor is 0 (R61, R64). -/
def State.divide (s : State) (a : Agent) (i : Instr) (rd ra rb : GReg) (op : Quad → Quad → Quad) : Host.Outcome State Fault Refusal :=
  s.issue a 16 (wordOf i) true true (fun t =>
    let x := t.cpu a
    if x.get rb = 0 then t.trapNow a 7 (x.get ra)
    else t.retire a 16 (fun y => y.put rd (op (y.get ra) (y.get rb))))

/-- nop. -/
def execNop (a : Agent) (s : State) : Host.Outcome State Fault Refusal := s.compute a 1 (.nop a) true id

/-- add, modulo 2⁶⁴. -/
def execAdd (a : Agent) (rd ra rb : GReg) (s : State) : Host.Outcome State Fault Refusal :=
  s.binary a 1 (.add a rd ra rb) rd ra rb (· + ·)

/-- sub, modulo 2⁶⁴. -/
def execSub (a : Agent) (rd ra rb : GReg) (s : State) : Host.Outcome State Fault Refusal :=
  s.binary a 1 (.sub a rd ra rb) rd ra rb (· - ·)

/-- and. -/
def execAndR (a : Agent) (rd ra rb : GReg) (s : State) : Host.Outcome State Fault Refusal :=
  s.binary a 1 (.andR a rd ra rb) rd ra rb (· &&& ·)

/-- or. -/
def execOrR (a : Agent) (rd ra rb : GReg) (s : State) : Host.Outcome State Fault Refusal :=
  s.binary a 1 (.orR a rd ra rb) rd ra rb (· ||| ·)

/-- xor. -/
def execXorR (a : Agent) (rd ra rb : GReg) (s : State) : Host.Outcome State Fault Refusal :=
  s.binary a 1 (.xorR a rd ra rb) rd ra rb (· ^^^ ·)

/-- shl by rb[5:0]. -/
def execShl (a : Agent) (rd ra rb : GReg) (s : State) : Host.Outcome State Fault Refusal :=
  s.binary a 1 (.shl a rd ra rb) rd ra rb (fun x y => x <<< (y.toNat % 64))

/-- shr by rb[5:0]. -/
def execShr (a : Agent) (rd ra rb : GReg) (s : State) : Host.Outcome State Fault Refusal :=
  s.binary a 1 (.shr a rd ra rb) rd ra rb (fun x y => x >>> (y.toNat % 64))

/-- sar by rb[5:0]. -/
def execSar (a : Agent) (rd ra rb : GReg) (s : State) : Host.Outcome State Fault Refusal :=
  s.binary a 1 (.sar a rd ra rb) rd ra rb (fun x y => x.sshiftRight (y.toNat % 64))

/-- mul: the low 64 bits of the product. -/
def execMul (a : Agent) (rd ra rb : GReg) (s : State) : Host.Outcome State Fault Refusal :=
  s.binary a 2 (.mul a rd ra rb) rd ra rb (· * ·)

/-- mulhu: the high 64 bits of the unsigned product. -/
def execMulhu (a : Agent) (rd ra rb : GReg) (s : State) : Host.Outcome State Fault Refusal :=
  s.binary a 2 (.mulhu a rd ra rb) rd ra rb (fun x y => BitVec.ofNat 64 (x.toNat * y.toNat / 2 ^ 64))

/-- divu. -/
def execDivu (a : Agent) (rd ra rb : GReg) (s : State) : Host.Outcome State Fault Refusal :=
  s.divide a (.divu a rd ra rb) rd ra rb (fun x y => BitVec.ofNat 64 (x.toNat / y.toNat))

/-- remu. -/
def execRemu (a : Agent) (rd ra rb : GReg) (s : State) : Host.Outcome State Fault Refusal :=
  s.divide a (.remu a rd ra rb) rd ra rb (fun x y => BitVec.ofNat 64 (x.toNat % y.toNat))

/-- cmp: the flags of ra − rb (R38). -/
def execCmp (a : Agent) (ra rb : GReg) (s : State) : Host.Outcome State Fault Refusal :=
  s.compute a 1 (.cmp a ra rb) true (fun x => x.compare (x.get ra) (x.get rb))

/-- sel: ra where the condition holds, else rb. -/
def execSel (a : Agent) (rd ra rb : GReg) (cond : BitVec 4) (s : State) : Host.Outcome State Fault Refusal :=
  s.compute a 1 (.sel a rd ra rb cond) (condListed cond) (fun x => x.put rd (if x.holds cond then x.get ra else x.get rb))

/-- addi. -/
def execAddi (a : Agent) (rd ra : GReg) (imm : BitVec 16) (s : State) : Host.Outcome State Fault Refusal :=
  s.unary a (.addi a rd ra imm) true rd ra (· + sext16 imm)

/-- andi. -/
def execAndi (a : Agent) (rd ra : GReg) (imm : BitVec 16) (s : State) : Host.Outcome State Fault Refusal :=
  s.unary a (.andi a rd ra imm) true rd ra (· &&& zext16 imm)

/-- ori. -/
def execOri (a : Agent) (rd ra : GReg) (imm : BitVec 16) (s : State) : Host.Outcome State Fault Refusal :=
  s.unary a (.ori a rd ra imm) true rd ra (· ||| zext16 imm)

/-- xori. -/
def execXori (a : Agent) (rd ra : GReg) (imm : BitVec 16) (s : State) : Host.Outcome State Fault Refusal :=
  s.unary a (.xori a rd ra imm) true rd ra (· ^^^ zext16 imm)

/-- shli. -/
def execShli (a : Agent) (rd ra : GReg) (n : BitVec 6) (s : State) : Host.Outcome State Fault Refusal :=
  s.unary a (.shli a rd ra n) true rd ra (· <<< n.toNat)

/-- shri. -/
def execShri (a : Agent) (rd ra : GReg) (n : BitVec 6) (s : State) : Host.Outcome State Fault Refusal :=
  s.unary a (.shri a rd ra n) true rd ra (· >>> n.toNat)

/-- sari. -/
def execSari (a : Agent) (rd ra : GReg) (n : BitVec 6) (s : State) : Host.Outcome State Fault Refusal :=
  s.unary a (.sari a rd ra n) true rd ra (fun x => x.sshiftRight n.toNat)

/-- cmpi: the flags of ra − sext(imm16). -/
def execCmpi (a : Agent) (ra : GReg) (imm : BitVec 16) (s : State) : Host.Outcome State Fault Refusal :=
  s.compute a 1 (.cmpi a ra imm) true (fun x => x.compare (x.get ra) (sext16 imm))

/-- kset. -/
def execKset (a : Agent) (rd : GReg) (imm : BitVec 16) (s : State) : Host.Outcome State Fault Refusal :=
  s.compute a 1 (.kset a rd imm) true (fun x => x.put rd (sext16 imm))

/-- kcat: rd moves up 16 bits and takes the immediate. -/
def execKcat (a : Agent) (rd : GReg) (imm : BitVec 16) (s : State) : Host.Outcome State Fault Refusal :=
  s.unary a (.kcat a rd imm) true rd rd (fun x => x <<< 16 ||| zext16 imm)

/-- ext. -/
def execExtZ (a : Agent) (rd ra : GReg) (lsb wm1 : BitVec 6) (s : State) : Host.Outcome State Fault Refusal :=
  s.unary a (.extZ a rd ra lsb wm1) (fieldFits lsb wm1) rd ra (fun x => extract x lsb wm1)

/-- exts. -/
def execExts (a : Agent) (rd ra : GReg) (lsb wm1 : BitVec 6) (s : State) : Host.Outcome State Fault Refusal :=
  s.unary a (.exts a rd ra lsb wm1) (fieldFits lsb wm1) rd ra (fun x => extractSigned x lsb wm1)

/-- ins: the other bits of rd are kept. -/
def execInsB (a : Agent) (rd ra : GReg) (lsb wm1 : BitVec 6) (s : State) : Host.Outcome State Fault Refusal :=
  s.compute a 1 (.insB a rd ra lsb wm1) (fieldFits lsb wm1) (fun x => x.put rd (insert (x.get rd) (x.get ra) lsb wm1))

/-- cnt. -/
def execCnt (a : Agent) (rd ra : GReg) (fn : BitVec 4) (s : State) : Host.Outcome State Fault Refusal :=
  s.unary a (.cnt a rd ra fn) (decide (fn.toNat ≤ 2)) rd ra (countBits fn)

/-- bswap. -/
def execBswap (a : Agent) (rd ra : GReg) (fn : BitVec 4) (s : State) : Host.Outcome State Fault Refusal :=
  s.unary a (.bswap a rd ra fn) (decide (fn.toNat ≤ 2)) rd ra (swapBytes fn)

/-- A word that the opcode table does not list traps ILLOP (R59); a word that it lists is not this command's, and nothing happens. -/
def execReservedOpcode (a : Agent) (w : Word) (s : State) : Host.Outcome State Fault Refusal :=
  match decodeListed a w with
  | some _ => .next s
  | none => s.issue a 1 (w.zeroExtend 64) false true id

end Sys2Proof.Machine
end

