-- ==== Sys2Proof/Machine/Flow.lean ====
section
/-! DEFINITION. Branches and jumps (R60), the special registers (R39), sys and eret (R64, R67), yield, halt (R50, R52), time and twait
(R56, R57), and the step-limit trap (R71). -/
namespace Sys2Proof.Machine

/-- A j, a call or a taken branch: BOUNDS where its target lies outside instruction memory (R60). (log 1, DESIGN CHOICE) (log 18, DEDUCED) -/
def State.jumpRel (s : State) (a : Agent) (off : Int) (f : Cpu → Cpu) : State :=
  let t := targetOf (s.cpu a).pc off
  if t < 0 ∨ (lastAddr a : Int) < t then s.trapNow a 4 (BitVec.ofInt 64 t) else s.jumpTo a 2 t.toNat f

/-- A conditional branch: 2 steps where it is taken, else 1 and the next word (R60, R61). -/
def State.branch (s : State) (a : Agent) (i : Instr) (listed taken : Bool) (off : BitVec 16) : Host.Outcome State Fault Refusal :=
  s.issue a (if listed && taken then 2 else 1) (wordOf i) listed true
    (fun t => if taken then t.jumpRel a off.toInt id else t.retire a 1 id)

/-- A branch on two registers. -/
def State.branchOn (s : State) (a : Agent) (i : Instr) (ra rb : GReg) (p : Quad → Quad → Bool) (off : BitVec 16) :
    Host.Outcome State Fault Refusal :=
  s.branch a i true (p ((s.cpu a).get ra) ((s.cpu a).get rb)) off

/-- jr and jalr: ALIGN before BOUNDS on the value in ra (R60, R65). -/
def State.jumpReg (s : State) (a : Agent) (ra : GReg) (f : Cpu → Cpu) : State :=
  let v := (s.cpu a).get ra
  if v.toNat % 4 ≠ 0 then s.trapNow a 3 v
  else if lastAddr a < v.toNat then s.trapNow a 4 v
  else s.jumpTo a 2 v.toNat f

/-- The return address of call and jalr. (log 18, DEDUCED) -/
def State.linkOf (s : State) (a : Agent) : Quad := BitVec.ofNat 64 ((s.cpu a).pc.toNat + 4)

/-- beq. -/
def execBeq (a : Agent) (ra rb : GReg) (off : BitVec 16) (s : State) : Host.Outcome State Fault Refusal :=
  s.branchOn a (.beq a ra rb off) ra rb (fun x y => x == y) off

/-- bne. -/
def execBne (a : Agent) (ra rb : GReg) (off : BitVec 16) (s : State) : Host.Outcome State Fault Refusal :=
  s.branchOn a (.bne a ra rb off) ra rb (fun x y => x != y) off

/-- blt, signed. -/
def execBlt (a : Agent) (ra rb : GReg) (off : BitVec 16) (s : State) : Host.Outcome State Fault Refusal :=
  s.branchOn a (.blt a ra rb off) ra rb (fun x y => decide (x.toInt < y.toInt)) off

/-- bge, signed. -/
def execBge (a : Agent) (ra rb : GReg) (off : BitVec 16) (s : State) : Host.Outcome State Fault Refusal :=
  s.branchOn a (.bge a ra rb off) ra rb (fun x y => decide (y.toInt ≤ x.toInt)) off

/-- bltu. -/
def execBltu (a : Agent) (ra rb : GReg) (off : BitVec 16) (s : State) : Host.Outcome State Fault Refusal :=
  s.branchOn a (.bltu a ra rb off) ra rb (fun x y => decide (x.toNat < y.toNat)) off

/-- bgeu. -/
def execBgeu (a : Agent) (ra rb : GReg) (off : BitVec 16) (s : State) : Host.Outcome State Fault Refusal :=
  s.branchOn a (.bgeu a ra rb off) ra rb (fun x y => decide (y.toNat ≤ x.toNat)) off

/-- bc. -/
def execBc (a : Agent) (cond : BitVec 4) (off : BitVec 16) (s : State) : Host.Outcome State Fault Refusal :=
  s.branch a (.bc a cond off) (condListed cond) ((s.cpu a).holds cond) off

/-- j. -/
def execJ (a : Agent) (off : BitVec 26) (s : State) : Host.Outcome State Fault Refusal :=
  s.issue a 2 (wordOf (.j a off)) true true (fun t => t.jumpRel a off.toInt id)

/-- call: g31 takes the return address. -/
def execCall (a : Agent) (off : BitVec 26) (s : State) : Host.Outcome State Fault Refusal :=
  s.issue a 2 (wordOf (.call a off)) true true (fun t => t.jumpRel a off.toInt (fun x => x.put 31 (t.linkOf a)))

/-- jr. -/
def execJr (a : Agent) (ra : GReg) (s : State) : Host.Outcome State Fault Refusal :=
  s.issue a 2 (wordOf (.jr a ra)) true true (fun t => t.jumpReg a ra id)

/-- jalr: rd takes the return address. -/
def execJalr (a : Agent) (rd ra : GReg) (s : State) : Host.Outcome State Fault Refusal :=
  s.issue a 2 (wordOf (.jalr a rd ra)) true true (fun t => t.jumpReg a ra (fun x => x.put rd (t.linkOf a)))

/-- The handler mode of an agent; a gate sequencer has none, and its profile forbids what asks for it. -/
def State.inHandler (s : State) : Agent → Bool
  | .ctx c => (s.ctx c).hmode
  | .gate _ => true

/-- The return from the trap handler (R67): pc from TPC, and H cleared. -/
def State.trapReturn (s : State) (a : Agent) : State :=
  match a with
  | .gate _ => s
  | .ctx c =>
    let s1 := s.charge a 2
    let x := s1.ctx c
    s1.setCtx c { x with hmode := false, cpu := { x.cpu with pc := x.tpc, ranOff := false } }

/-- eret: ILLOP outside the handler (R64, R67). -/
def execEret (a : Agent) (s : State) : Host.Outcome State Fault Refusal :=
  s.issue a 2 (wordOf (.eret a)) (s.inHandler a) (isCtx a) (fun t => t.trapReturn a)

/-- sys: the instruction completes, and the trap SOFT saves the next address (R64, R66). (log 18, DEDUCED) -/
def execSysTrap (a : Agent) (imm : BitVec 16) (s : State) : Host.Outcome State Fault Refusal :=
  s.issue a 1 (wordOf (.sysTrap a imm)) true (isCtx a) (fun t => match a with
    | .gate _ => t
    | .ctx c => (t.charge a 1).trapEntry c ((t.ctx c).cpu.pc + 4) 9 (zext16 imm) false)

/-- The value of a special register (R39). (log 22, DESIGN CHOICE) -/
def State.special (s : State) (c : Nat) (sr : BitVec 8) : Quad :=
  let x := s.ctx c
  match sr.toNat with
  | 0 => BitVec.ofNat 64 (x.cpu.flagBits + 256 * b2n x.hmode)
  | 1 => x.tpc.zeroExtend 64
  | 2 => x.tcause.zeroExtend 64
  | 3 => x.tval
  | 4 => BitVec.ofNat 64 (c + x.gen.toNat * 2 ^ 10 + b2n x.packet * 2 ^ 18)
  | 5 => x.steps
  | 6 => x.tscratch
  | _ => 0

/-- mfs: ILLOP for a number that R39 does not list. (log 22, DESIGN CHOICE) -/
def execMfs (a : Agent) (rd : GReg) (sr : BitVec 8) (s : State) : Host.Outcome State Fault Refusal :=
  s.issue a 1 (wordOf (.mfs a rd sr)) (mfsTakes sr) (isCtx a) (fun t => match a with
    | .gate _ => t
    | .ctx c => t.retire a 1 (fun x => x.put rd (t.special c sr)))

/-- mts: ILLOP but for FLAGS, of which it writes bits 3 to 0, and TSCRATCH (R39). -/
def execMts (a : Agent) (sr : BitVec 8) (ra : GReg) (s : State) : Host.Outcome State Fault Refusal :=
  s.issue a 1 (wordOf (.mts a sr ra)) (mtsTakes sr) (isCtx a) (fun t => match a with
    | .gate _ => t
    | .ctx c =>
      let v := (t.cpu a).get ra
      if sr = 0 then t.retire a 1 (fun x => x.setFlags v)
      else (t.setCtx c { t.ctx c with tscratch := v }).retire a 1 id)

/-- yield: the context gives up its next turn (R61), as if the instruction took it too; a gate sequencer has no other to give it to. (log 24, DESIGN CHOICE) -/
def execYield (a : Agent) (s : State) : Host.Outcome State Fault Refusal :=
  s.issue a 1 (wordOf (.yield a)) true true (fun t =>
    let t1 := t.retire a 1 id
    match a with
    | .gate _ => t1
    | .ctx c => t1.setTurns c 2)

/-- halt: → Halted; a context's packet is discarded and ContextHalted (897) raised (R52, R74, R100). -/
def execHalt (a : Agent) (s : State) : Host.Outcome State Fault Refusal :=
  s.issue a 1 (wordOf (.halt a)) true true (fun t =>
    let t1 := t.retire a 1 id
    match a with
    | .gate _ => t1.goTo a .halted none
    | .ctx c => ((t1.dropHeld c Fld.PR_ENG_PROGDROP_COUNT).goTo a .halted none).raise 897 [(16, c)])

/-- time: the present time, and whether it is valid (R56). -/
def execTimeNow (a : Agent) (rd : GReg) (s : State) : Host.Outcome State Fault Refusal :=
  s.issue a 1 (wordOf (.timeNow a rd)) true true (fun t =>
    t.retire a 1 (fun x => x.put rd (BitVec.ofNat 64 (t.stamp40 + b2n (!t.tsValid) * 2 ^ 63))))

/-- The target time in bits [39:8] of a register. -/
def timeField (v : Quad) : BitVec 32 := v.extractLsb' 8 32

/-- twait: it completes at once where the target has been reached, else waits (R57). -/
def execTwait (a : Agent) (ra : GReg) (s : State) : Host.Outcome State Fault Refusal :=
  s.issue a 1 (wordOf (.twait a ra)) true (!s.isPacket a) (fun t =>
    let g := timeField ((t.cpu a).get ra)
    if reached t.ns g then t.retire a 1 id else t.waitFor a 1 (.twait g))

/-- TWAIT_EXPIRY (R57): the wait of a twait ends once its target is reached. -/
def execTwaitExpiry (a : Agent) (s : State) : Host.Outcome State Fault Refusal :=
  if !agentExists a then .fault .noSuchObject
  else match s.agentWait a with
    | some (.twait g) => .next (if reached s.ns g && !s.asleep (agentDomain a) then s.finish a else s)
    | _ => .next s

/-- STEPLIMIT_TRAP (R71): a Ready packet context whose next instruction, of `cost` steps, would pass STEPLIMIT traps instead of issuing it. -/
def execSteplimitTrap (c cost : Nat) (s : State) : Host.Outcome State Fault Refusal :=
  if 1024 ≤ c then .fault .noSuchObject
  else .next (if s.mayIssue (.ctx c) && !(s.ctx c).cpu.ranOff && s.overLimit (.ctx c) cost then s.limitTrap c else s)

end Sys2Proof.Machine
end

