-- ==== Sys2Proof/Machine/Memory.lean ====
section
/-! DEFINITION. Memory instructions of Preoth: loads, stores, the atomics and fence, their waits, and the posted stores (R40 to R49, R55). -/
namespace Sys2Proof.Machine

/-! ## The four spaces -/

/-- The size of a space for an agent (R41, R42, R45). -/
def State.spaceSize (s : State) (a : Agent) (sp : MemSpace) : Nat :=
  match sp, a with
  | .l, _ => lSize a
  | .s, _ => 0x1000000
  | .h, _ => s.partBytes 3
  | .k, .gate _ => 0
  | .k, .ctx c => match (s.ctx c).packet, (s.ctx c).pkt with
    | true, some p => p.len - 4
    | _, _ => 0

/-- Read bytes of L. -/
def State.readL (s : State) (a : Agent) (addr n : Nat) : List Byte :=
  match a with
  | .ctx c => Tab.read (s.eng (ctxEngine c)).lmem 0 addr n
  | .gate p => Tab.read (s.gate p).lmem 0 addr n

/-- Write bytes of L. -/
def State.writeL (s : State) (a : Agent) (addr : Nat) (b : List Byte) : State :=
  match a with
  | .ctx c => s.setEng (ctxEngine c) { s.eng (ctxEngine c) with lmem := Tab.write (s.eng (ctxEngine c)).lmem 0 addr b }
  | .gate p => s.setGate p { s.gate p with lmem := Tab.write (s.gate p).lmem 0 addr b }

/-- Read bytes of the frame that a context holds: the window's below its end, the cells' above (R44). -/
def State.readK (s : State) (c addr n : Nat) : List Byte :=
  match (s.ctx c).pkt with
  | none => List.replicate n 0
  | some p =>
    let w := (s.ctx c).win
    (List.range' addr n).map (fun k => if k < 256 then w.getD k 0 else p.data.getD k 0)

/-- Frame bytes with some replaced. -/
def pokeBytes (d : List Byte) (addr : Nat) (b : List Byte) : List Byte :=
  patch (d ++ List.replicate (addr + b.length - d.length) 0) addr b

/-- Write bytes of the packet window of a context; nothing where it holds no packet (R44). -/
def State.writeWindow (s : State) (c addr : Nat) (b : List Byte) : State :=
  if (s.ctx c).pkt.isNone then s else s.setCtx c { s.ctx c with win := pokeBytes (s.ctx c).win addr b }

/-- Write bytes of the cells of the packet that a context holds; nothing where it holds none (R44). -/
def State.writeK (s : State) (c addr : Nat) (b : List Byte) : State :=
  match (s.ctx c).pkt with
  | none => s
  | some p => s.setCtx c { s.ctx c with pkt := some { p with data := pokeBytes p.data addr b } }

/-- Read bytes of a space as memory holds them. -/
def State.readMem (s : State) (a : Agent) (sp : MemSpace) (addr n : Nat) : List Byte :=
  match sp, a with
  | .l, _ => s.readL a addr n
  | .s, _ => s.readS addr n
  | .h, _ => s.hbmRead 3 addr n
  | .k, .ctx c => s.readK c addr n
  | .k, .gate _ => List.replicate n 0

/-- The posted stores of an agent, oldest first (R47). -/
def State.postedOf (s : State) : Agent → List Posted
  | .ctx c => (s.ctx c).posted
  | .gate _ => []

/-- Read bytes as a context sees them: its own earlier stores to them have taken effect (R47). (log 17, DEDUCED) -/
def State.readOwn (s : State) (a : Agent) (sp : MemSpace) (addr n : Nat) : List Byte :=
  ((s.postedOf a).filter (fun w => w.sp = sp)).foldl (overlay addr) (s.readMem a sp addr n)

/-- A posted store reaches its memory; one to K whose packet has gone reaches nothing. (log 17, DEDUCED) -/
def State.applyStore (s : State) (c : Nat) (w : Posted) : State :=
  match w.sp with
  | .l => s
  | .s => s.writeS w.addr w.data
  | .h => s.hbmWrite 3 w.addr w.data
  | .k => s.writeK c w.addr w.data

/-- A context's posted stores to a space complete, oldest first. (log 17, DEDUCED) -/
def State.flushStores (s : State) (c : Nat) (sp : MemSpace) : State :=
  let ws := (s.ctx c).posted
  let s1 := s.setCtx c { s.ctx c with posted := ws.filter (fun w => w.sp ≠ sp) }
  (ws.filter (fun w => w.sp = sp)).foldl (fun t w => t.applyStore c w) s1

/-! ## Checks -/

/-- The checks of an access of `n` bytes (R42, R43, R65): the trap that it takes, none where it is made. -/
def State.accessTrap (s : State) (a : Agent) (sp : MemSpace) (ea : Quad) (n : Nat) : Option Nat :=
  if sp ≠ .k ∧ ea.toNat % n ≠ 0 then some 3
  else if s.spaceSize a sp < ea.toNat + n then some 4
  else none

/-- The steps of a load or a store: one more in K across an 8-byte boundary (R43). -/
def accessCost (sp : MemSpace) (ea : Quad) (n : Nat) : Nat := if sp = .k ∧ 8 < ea.toNat % 8 + n then 2 else 1

/-- The profiles that permit a load or a store in a space (R76). -/
def spacePermitted (a : Agent) (sp : MemSpace) : Bool := isCtx a || sp = .l

/-- A corrected error in L or S is counted and reported (R49). (log 16, DESIGN CHOICE) -/
def State.corrected (s : State) (a : Agent) (sp : MemSpace) : State :=
  match a with
  | .ctx c => (s.count (if sp = .l then Fld.PR_ENG_ECC_LCORR else Fld.PR_ENG_ECC_SCORR) (ctxEngine c)).raise 900 [(16, c)]
  | .gate _ => s.raise 900 [(16, 0x3FF)]

/-- What the check bits of L and S show; the other spaces have none of R49. (log 109, DEDUCED) -/
def errIn (sp : MemSpace) (err : EccErr) : EccErr := if sp = .l ∨ sp = .s then err else .clean

/-! ## Loads -/

/-- A load that needs no wait: every byte in L or in the packet window (R55). -/
def windowed (sp : MemSpace) (ea : Quad) (n : Nat) : Bool := sp = .l || (sp = .k && decide (ea.toNat + n ≤ 256))

/-- The value of a load stands in rd, and the instruction completes. -/
def State.loadNow (s : State) (a : Agent) (cost : Nat) (rd : GReg) (sp : MemSpace) (addr n : Nat) (signed : Bool) : State :=
  s.retire a cost (fun x => x.put rd (extendBytes signed (s.readOwn a sp addr n)))

/-- ld and lds, once issued: the checks, then the value at once or a wait. -/
def State.loadBody (s : State) (a : Agent) (rd : GReg) (sp : MemSpace) (ea : Quad) (n : Nat) (signed : Bool) (err : EccErr) : State :=
  match s.accessTrap a sp ea n with
  | some k => s.trapNow a k ea
  | none =>
    let cost := accessCost sp ea n
    if windowed sp ea n then
      match errIn sp err with
      | .clean => s.loadNow a cost rd sp ea.toNat n signed
      | .single => (s.corrected a sp).loadNow a cost rd sp ea.toNat n signed
      | .double => s.trapNow a 8 ea
    else s.waitFor a cost (.load rd sp ea.toNat n signed err)

/-- The effective address of an M-format instruction. -/
def State.eaOf (s : State) (a : Agent) (ra : GReg) (off : BitVec 12) : Quad := effective ((s.cpu a).get ra) off

/-- ld: a zero-extended load. (log 109, DEDUCED) -/
def execLd (a : Agent) (rd ra : GReg) (sp : MemSpace) (sz : MemSize) (off : BitVec 12) (err : EccErr) (s : State) :
    Host.Outcome State Fault Refusal :=
  let ea := s.eaOf a ra off
  s.issue a (accessCost sp ea (bytesOf sz)) (wordOf (.ld a rd ra sp sz off err)) true (spacePermitted a sp)
    (fun t => t.loadBody a rd sp ea (bytesOf sz) false err)

/-- lds: a sign-extended load. (log 109, DEDUCED) -/
def execLds (a : Agent) (rd ra : GReg) (sp : MemSpace) (sz : MemSize) (off : BitVec 12) (err : EccErr) (s : State) :
    Host.Outcome State Fault Refusal :=
  let ea := s.eaOf a ra off
  s.issue a (accessCost sp ea (bytesOf sz)) (wordOf (.lds a rd ra sp sz off err)) true (spacePermitted a sp)
    (fun t => t.loadBody a rd sp ea (bytesOf sz) true err)

/-! ## Stores -/

/-- A store joins the posted stores of its context. -/
def State.post (s : State) (c : Nat) (w : Posted) : State := s.setCtx c { s.ctx c with posted := (s.ctx c).posted ++ [w] }

/-- A store is made: in L at once, in S and H posted, in K to the window at once and to the cells posted (R44, R47, R55). -/
def State.storeTo (s : State) (a : Agent) (sp : MemSpace) (addr : Nat) (b : List Byte) : State :=
  match sp, a with
  | .l, _ => s.writeL a addr b
  | _, .gate _ => s
  | .k, .ctx c =>
    let w := b.take (256 - addr)
    let r := b.drop (256 - addr)
    let s1 := if w.isEmpty then s else s.writeWindow c addr w
    if r.isEmpty then s1 else (s1.post c { sp := .k, addr := max addr 256, data := r }).settle
  | _, .ctx c => (s.post c { sp := sp, addr := addr, data := b }).settle

/-- st: the low bytes of rs. -/
def execSt (a : Agent) (rs ra : GReg) (sp : MemSpace) (sz : MemSize) (off : BitVec 12) (s : State) :
    Host.Outcome State Fault Refusal :=
  let ea := s.eaOf a ra off
  let n := bytesOf sz
  s.issue a (accessCost sp ea n) (wordOf (.st a rs ra sp sz off)) true (spacePermitted a sp)
    (fun t => match t.accessTrap a sp ea n with
      | some k => t.trapNow a k ea
      | none => (t.storeTo a sp ea.toNat (leBytes ((t.cpu a).get rs).toNat n)).retire a (accessCost sp ea n) id)

/-! ## Atomics (R46) -/

/-- The memory operation of an atomic: what memory then holds where it held `old`; `want` is compared and `v` stored for cas, `v` is added
for aadd. -/
def atomicNew (cas : Bool) (old want v : Quad) : Quad := if cas then (if old = want then v else old) else old + v

/-- An atomic takes effect in L or S: rd takes the old value. -/
def State.atomicNow (s : State) (a : Agent) (rd : GReg) (sp : MemSpace) (addr n : Nat) (cas : Bool) (want v : Quad) : State × Quad :=
  let old := extendBytes false (s.readMem a sp addr n)
  let b := leBytes (atomicNew cas old want v).toNat n
  let s1 := match sp with
    | .l => s.writeL a addr b
    | _ => s.writeS addr b
  (s1.setCpu a ((s1.cpu a).put rd old), old)

/-- An atomic, once issued: the checks, then its effect in L at once; in S it waits. -/
def State.atomicBody (s : State) (a : Agent) (rd : GReg) (sp : MemSpace) (ea : Quad) (n : Nat) (cas : Bool) (want v : Quad) (err : EccErr) :
    State :=
  match s.accessTrap a sp ea n with
  | some k => s.trapNow a k ea
  | none =>
    if sp = .l then
      match err with
      | .clean => (s.atomicNow a rd .l ea.toNat n cas want v).1.retire a 2 id
      | .single => ((s.corrected a .l).atomicNow a rd .l ea.toNat n cas want v).1.retire a 2 id
      | .double => s.trapNow a 8 ea
    else s.waitFor a 1 (.atomic rd ea.toNat n cas want v err)

/-- aadd: rd is added to memory and takes the old value; L and S, 32 and 64 bits only. (log 109, DEDUCED) -/
def execAadd (a : Agent) (rd ra : GReg) (sp : MemSpace) (sz : MemSize) (off : BitVec 12) (err : EccErr) (s : State) :
    Host.Outcome State Fault Refusal :=
  s.issue a 2 (wordOf (.aadd a rd ra sp sz off err)) (aaddTakes sp sz) (isCtx a)
    (fun t => t.atomicBody a rd sp (t.eaOf a ra off) (bytesOf sz) false 0 ((t.cpu a).get rd) err)

/-- cas: where memory holds rd, rb is stored; rd takes the old value; L and S only. (log 109, DEDUCED) -/
def execCas (a : Agent) (rd ra rb : GReg) (sp : MemSpace) (err : EccErr) (s : State) : Host.Outcome State Fault Refusal :=
  s.issue a 2 (wordOf (.cas a rd ra rb sp err)) (casTakes sp) (isCtx a)
    (fun t => t.atomicBody a rd sp ((t.cpu a).get ra) 8 true ((t.cpu a).get rd) ((t.cpu a).get rb) err)

/-! ## Fence and the ends of waits -/

/-- fence: it waits until every earlier store of the context has completed (R47). -/
def execFence (a : Agent) (s : State) : Host.Outcome State Fault Refusal :=
  s.issue a 1 (wordOf (.fence a)) true (isCtx a)
    (fun t => if (t.postedOf a).isEmpty then t.retire a 1 id else t.waitFor a 1 .fence)

/-- The value that a waiting instruction brings stands in rd, and the instruction completes. -/
def State.giveResult (s : State) (a : Agent) (rd : GReg) (v : Quad) : State := (s.setCpu a ((s.cpu a).put rd v)).finish a

/-- A waiting load completes. -/
def State.loadEnds (s : State) (c : Nat) (rd : GReg) (sp : MemSpace) (addr n : Nat) (signed : Bool) (err : EccErr) : State :=
  let go := fun (t : State) => t.giveResult (.ctx c) rd (extendBytes signed (t.readOwn (.ctx c) sp addr n))
  match errIn sp err with
  | .clean => go s
  | .single => go (s.corrected (.ctx c) sp)
  | .double => s.failWait c 8 (BitVec.ofNat 64 addr)

/-- A waiting atomic takes effect in S, after the context's own earlier stores to S (R46, R47); its second step is charged here. -/
def State.atomicEnds (s : State) (c : Nat) (rd : GReg) (addr n : Nat) (cas : Bool) (want v : Quad) (err : EccErr) : State :=
  let go := fun (t : State) => ((((t.flushStores c .s).atomicNow (.ctx c) rd .s addr n cas want v).1.charge (.ctx c) 1)).finish (.ctx c)
  match err with
  | .clean => go s
  | .single => go (s.corrected (.ctx c) .s)
  | .double => s.failWait c 8 (BitVec.ofNat 64 addr)

/-- MEMORY_ACCESS_COMPLETE (R55): a waiting load, atomic, creg or cwr completes, once the domains it reaches are awake (R48). (log 14, DESIGN CHOICE) -/
def execMemoryAccessComplete (a : Agent) (s : State) : Host.Outcome State Fault Refusal :=
  if !agentExists a then .fault .noSuchObject
  else match a with
    | .gate _ => .next s
    | .ctx c =>
      if (s.ctx c).waitDomains.any s.asleep || s.asleep (ctxDomain c) then .next s
      else match (s.ctx c).wait with
        | some (.load rd sp addr n signed err) => .next (s.loadEnds c rd sp addr n signed err)
        | some (.atomic rd addr n cas want v err) => .next (s.atomicEnds c rd addr n cas want v err)
        | some (.access rd v) => .next (s.giveResult a rd v)
        | _ => .next s

end Sys2Proof.Machine
end

