-- ==== Sys2Proof/Machine/Message.lean ====
section
/-! DEFINITION. Messages of Preoth programs (R81 to R93), the completion of posted stores with the fences and sends that wait for it (R47,
R84), timer messages and held messages (R29, R88, R102), and register access from a program (R68). -/
namespace Sys2Proof.Machine

/-! ## send (R84, R85) -/

/-- The body words of a message in L. -/
def State.bodyAt (s : State) (a : Agent) (addr n : Nat) : List Quad :=
  (List.range n).map fun k => BitVec.ofNat 64 (leNat (s.readL a (addr + 8 * k) 8))

/-- The fence of a send is done: the words are read and the message leaves, or the destination word is refused (R81). (log 19, DEDUCED) -/
def State.launch (s : State) (c : Nat) : State :=
  let x := s.ctx c
  match x.wait with
  | some (.send rd (some (d, addr, n)) _) =>
    match destOf d with
    | none => s.setCtx c { x with wait := some (.send rd none (some 0x0C)) }
    | some b =>
      let m : Msg := { sender := .ctx c x.gen.toNat x.auth.toNat, tag := bits d.toNat 37 8, body := s.bodyAt (.ctx c) addr n, dword := some d }
      let s1 := s.setCtx c { x with wait := some (.send rd none none) }
      ({ s1 with pre := { s1.pre with flights := s1.pre.flights ++ [({ msg := m, dest := b } : Flight)] } }).wakeFor (agentDomain b)
  | _ => s

/-- The checks of a body address in L: `n` words from it (R85). -/
def bodyTrap (a : Agent) (addr : Quad) (n : Nat) : Option Nat :=
  if addr.toNat % 8 ≠ 0 then some 3 else if lSize a < addr.toNat + 8 * n then some 4 else none

/-- send: its address is checked at issue; it then fences, and the message leaves. -/
def execSend (a : Agent) (rd ra rb : GReg) (len : BitVec 3) (s : State) : Host.Outcome State Fault Refusal :=
  s.issue a 2 (wordOf (.send a rd ra rb len)) true (isCtx a) (fun t =>
    let d := (t.cpu a).get ra
    let addr := (t.cpu a).get rb
    match bodyTrap a addr (len.toNat + 1), a with
    | some k, _ => t.trapNow a k addr
    | none, .gate _ => t
    | none, .ctx c =>
      let t1 := t.waitFor a 2 (.send rd (some (d, addr.toNat, len.toNat + 1)) none)
      if (t.postedOf a).isEmpty then t1.launch c else t1)

/-- The stores of a context have completed: a waiting fence completes, and a waiting send leaves. -/
def State.fenceDone (s : State) (c : Nat) : State :=
  match (s.ctx c).wait with
  | some .fence => s.finish (.ctx c)
  | some (.send _ (some _) _) => s.launch c
  | _ => s

/-- POSTED_STORE_COMPLETE (R47, R48): the oldest posted store of a context completes, once the domains it reaches are awake. (log 14, DESIGN CHOICE) (log 17, DEDUCED) -/
def execPostedStoreComplete (a : Agent) (s : State) : Host.Outcome State Fault Refusal :=
  if !agentExists a then .fault .noSuchObject
  else match a with
    | .gate _ => .next s
    | .ctx c =>
      let x := s.ctx c
      match x.posted with
      | [] => .next s
      | w :: r =>
        if ({ x with posted := [w] } : Ctx).storeDomains.any s.asleep then .next s
        else
          let s1 := (s.setCtx c { x with posted := r }).applyStore c w
          .next (if r.isEmpty then s1.fenceDone c else s1).settle

/-- The sender of a message learns its status. -/
def State.sendStatus (s : State) (m : Msg) (k : Nat) : State :=
  match m.sender with
  | .ctx c _ _ =>
    match (s.ctx c).wait with
    | some (.send rd none none) => s.setCtx c { s.ctx c with wait := some (.send rd none (some k)) }
    | _ => s
  | .host e => s.setEng e { s.eng e with hmsg := some k }
  | _ => s

/-- MESSAGE_ARRIVE (R84, R91): the n-th message under way reaches its destination, once the domain there is awake. (log 14, DESIGN CHOICE) -/
def execMessageArrive (n : Nat) (s : State) : Host.Outcome State Fault Refusal :=
  match s.pre.flights[n]? with
  | none => .next s
  | some f =>
    if s.asleep (agentDomain f.dest) then .next s
    else
      let s1 := { s with pre := { s.pre with flights := s.pre.flights.eraseIdx n } }
      let x := s1.arrive f.msg f.dest
      .next (x.1.sendStatus f.msg x.2).settle

/-- SEND_STATUS_RETURN (R84): the status of a send stands in rd, 0 or the form of R94. -/
def execSendStatusReturn (c : Nat) (s : State) : Host.Outcome State Fault Refusal :=
  if 1024 ≤ c then .fault .noSuchObject
  else match (s.ctx c).wait with
    | some (.send rd none (some k)) =>
      .next (if s.asleep (ctxDomain c) then s else s.giveResult (.ctx c) rd (if k = 0 then 0 else statusWord k))
    | _ => .next s

/-! ## recv (R85 to R87) -/

/-- recv: its address is checked at issue, its first word included; it then waits. -/
def execRecv (a : Agent) (rd ra rb : GReg) (s : State) : Host.Outcome State Fault Refusal :=
  s.issue a 1 (wordOf (.recv a rd ra rb)) true (!s.isPacket a) (fun t =>
    let addr := (t.cpu a).get ra
    match bodyTrap a addr 1 with
    | some k => t.trapNow a k addr
    | none => t.waitFor a 1 (.recv rd addr.toNat (if rb = 0 then none else some (timeField ((t.cpu a).get rb)))))

/-- A waiting recv takes the head message of its mailbox: the body to L and the header to rd, or BOUNDS with nothing taken where the
words do not all lie in L (R85). -/
def State.takeMail (s : State) (a : Agent) (rd : GReg) (addr : Nat) (m : Msg) (rest : List Msg) : State :=
  if lSize a < addr + 8 * m.body.length then
    match a with
    | .ctx c => s.failWait c 4 (BitVec.ofNat 64 (lSize a))
    | .gate _ => s.trap a 4 (BitVec.ofNat 64 (lSize a))
  else ((s.setMailbox a rest).writeL a addr (m.body.flatMap (fun w => leBytes w.toNat 8))).giveResult a rd m.header

/-- RECV_MESSAGE_TAKEN (R85, R86). -/
def execRecvMessageTaken (a : Agent) (s : State) : Host.Outcome State Fault Refusal :=
  if !agentExists a then .fault .noSuchObject
  else if s.asleep (agentDomain a) then .next s
  else match s.agentWait a, s.mailbox a with
    | some (.recv rd addr _), m :: rest =>
      match a with
      | .ctx c => .next (if s.roleRuns c then s.baseTake c m rest else s.takeMail a rd addr m rest)
      | .gate _ => .next (s.takeMail a rd addr m rest)
    | _, _ => .next s

/-- RECV_DEADLINE (R57, R87): the deadline of a recv has passed; a message present is taken, otherwise rd is 0. -/
def execRecvDeadline (a : Agent) (s : State) : Host.Outcome State Fault Refusal :=
  if !agentExists a then .fault .noSuchObject
  else if s.asleep (agentDomain a) then .next s
  else match s.agentWait a, s.mailbox a with
    | some (.recv rd addr (some t)), m :: rest => .next (if reached s.ns t then s.takeMail a rd addr m rest else s)
    | some (.recv rd _ (some t)), [] => .next (if reached s.ns t then s.giveResult a rd 0 else s)
    | _, _ => .next s

/-! ## Timer messages and held messages (R29, R88, R102) -/

/-- The message of a timer expiry. -/
def timerMsg (e : Expiry) : Msg :=
  { sender := .timer e.t, tag := e.tag, body := [BitVec.ofNat 64 (e.target.toNat * 256 + min e.missed 0xFFFF * 2 ^ 40)], dword := none }

/-- A mailbox takes a timer message: an entry is free and the context's domain is awake. -/
def State.takesTimer (s : State) (c : Nat) : Bool := s.roomAny (.ctx c) && !s.asleep (ctxDomain c)

/-- The expiries in the timebase boundary store (R29). -/
def State.storedExpiries (s : State) : Nat := (s.pre.expiries.filter (fun e => e.stored)).length

/-- A later expiry merges with a pending one of the same timer; the first of a run raises IslandBoundaryOverflow (12). (log 84, DESIGN CHOICE) -/
def State.mergeExpiry (s : State) (e : Expiry) : State :=
  let s1 := { s with pre := { s.pre with expiries := s.pre.expiries.map (fun x =>
    if x.c = e.c ∧ x.t = e.t then { x with missed := x.missed + 1, warned := true } else x) } }
  if e.warned then s1 else s1.raise 12 [(8, 5), (16, 4 * e.c + e.t)]

/-- An expiry of a timer reaches its mailbox, merges, or stays pending (R88). (log 84, DESIGN CHOICE) -/
def State.expire (s : State) (e : Expiry) : State :=
  match s.pre.expiries.find? (fun x => x.c = e.c ∧ x.t = e.t) with
  | some x => s.mergeExpiry x
  | none =>
    if s.takesTimer e.c then s.pushMail (.ctx e.c) (timerMsg e)
    else { s with pre := { s.pre with expiries := s.pre.expiries ++ [{ e with stored := decide (s.storedExpiries < 64) }] } }

/-- TIMER_EXPIRY (R102): an armed timer has reached its target. -/
def execTimerExpiry (c t : Nat) (s : State) : Host.Outcome State Fault Refusal :=
  if 1024 ≤ c ∨ 4 ≤ t then .fault .noSuchObject
  else
    let x := s.ctx c
    let k := Tab.get x.timers {} t
    if !k.armed || !reached s.ns k.target then .next s
    else
      let s1 := s.setCtx c { x with timers := Tab.set x.timers {} t {} }
      .next (s1.expire { c := c, t := t, target := k.target, tag := k.tag, missed := 0, stored := false }).settle

/-- The first expiry still in its timer moves to the boundary store when an entry is free. -/
def fillStore : List Expiry → List Expiry
  | [] => []
  | e :: r => if e.stored then e :: fillStore r else { e with stored := true } :: r

/-- PENDING_MESSAGE_RELEASE (R88): the n-th pending expiry enters its mailbox, or, past them, a message that a hardware block holds is
delivered; it stays while there is no room or no valid destination. -/
def execPendingMessageRelease (n : Nat) (s : State) : Host.Outcome State Fault Refusal :=
  match s.pre.expiries[n]? with
  | some e =>
    if !s.takesTimer e.c then .next s
    else
      let rest := s.pre.expiries.eraseIdx n
      let s1 := { s with pre := { s.pre with expiries := if e.stored then fillStore rest else rest } }
      .next (s1.pushMail (.ctx e.c) (timerMsg e)).settle
  | none =>
    let k := n - s.pre.expiries.length
    match s.pre.held[k]? with
    | none => .next s
    | some (kind, m) =>
      if (s.pre.held.take k).any (fun x => x.1 == kind) then .next s
      else match s.tryBlock kind m with
        | none => .next s
        | some t => .next ({ t with pre := { t.pre with held := t.pre.held.eraseIdx k } }).settle

/-! ## creg and cwr (R68) -/

/-- The access of creg or cwr, once issued: ALIGN, BOUNDS, AUTH and ASLEEP in the order of R65; otherwise the access is made and the
instruction waits for it to complete; the domains follow its wait after the access. `w` is the word that cwr writes. (log 8, DESIGN CHOICE) (log 23, DESIGN CHOICE) -/
def State.registerBody (s : State) (c : Nat) (rd : GReg) (v : Quad) (w : Option Nat) : State :=
  let a : Agent := .ctx c
  let off := v.toNat
  if off % 4 ≠ 0 then s.trapNow a 3 v
  else if 2 ^ 28 ≤ off then s.trapNow a 4 v
  else match s.reach (.ctx c) off w with
    | .auth => (s.access (.ctx c) off w).1.trapNow a 5 v
    | .asleep d => s.trapNow a 6 (BitVec.ofNat 64 (off + d * 2 ^ 32))
    | _ =>
      let x := ((s.charge a 1).place a .waiting (some (.access rd 0))).access (.ctx c) off w
      (match (x.1.ctx c).wait with
        | some (.access r _) => x.1.setCtx c { x.1.ctx c with wait := some (.access r (BitVec.ofNat 64 x.2.1)) }
        | _ => x.1).settle

/-- creg: rd takes the control register at the flat offset in ra. -/
def execCreg (a : Agent) (rd ra : GReg) (s : State) : Host.Outcome State Fault Refusal :=
  s.issue a 1 (wordOf (.creg a rd ra)) true (s.isControl a) (fun t => match a with
    | .gate _ => t
    | .ctx c => t.registerBody c rd ((t.cpu a).get ra) none)

/-- cwr: the control register at the flat offset in ra takes rb[31:0]. -/
def execCwr (a : Agent) (ra rb : GReg) (s : State) : Host.Outcome State Fault Refusal :=
  s.issue a 1 (wordOf (.cwr a ra rb)) true (s.isControl a) (fun t => match a with
    | .gate _ => t
    | .ctx c => t.registerBody c 0 ((t.cpu a).get ra) (some (((t.cpu a).get rb).toNat % 2 ^ 32)))

end Sys2Proof.Machine
end

