-- ==== Sys2Proof/Machine/Calls.lean ====
section
/-! DEFINITION. The hardware calls (R94 to R106): what each call does, when it can, its wait, and the delivery of packets to packet
contexts. A call takes effect when it issues, or, where it must wait for a sleeping domain or for a condition of its own, at the
HCALL_COMPLETE that finds it possible. -/
namespace Sys2Proof.Machine

/-- An argument has a bit set above its lowest `n`. -/
def above (arg : Quad) (n : Nat) : Bool := decide (2 ^ n ≤ arg.toNat)

/-- The profile letters of a call (R95): control, packet, gate. -/
structure Letters where
  c : Bool
  p : Bool
  g : Bool
deriving DecidableEq, Repr

/-- A call of packet programs. -/
def forP : Letters := { c := false, p := true, g := false }

/-- A call of control and packet programs. -/
def forCP : Letters := { c := true, p := true, g := false }

/-- A call of control programs. -/
def forC : Letters := { c := true, p := false, g := false }

/-- A call of gate programs. -/
def forG : Letters := { c := false, p := false, g := true }

/-- The caller's profile permits a call. -/
def State.permits (s : State) (a : Agent) (l : Letters) : Bool :=
  match a with
  | .ctx c => if (s.ctx c).packet then l.p else l.c
  | .gate _ => l.g

/-- The caller may act on an object of a class (R80). -/
def State.mayAct (s : State) (c cls : Nat) : Bool := s.authWrites (s.ctx c).auth.toNat cls

/-! ## Packets (R96 to R101) -/

/-- Every packet of the same flow that the engine received before the one that context `c` holds has been released (R97). -/
def State.mayRelease (s : State) (c : Nat) (p : Packet) : Bool :=
  ((s.eng (ctxEngine c)).order.takeWhile (fun x => x.1 ≠ c)).all (fun x => x.2 ≠ p.flow)

/-- The held packet leaves the context: its window and its remaining stores reach the packet, and its step count stops. (log 124, DESIGN CHOICE) -/
def State.letGo (s : State) (c : Nat) : State × Option Packet :=
  let s1 := s.flushStores c .k
  let x := s1.ctx c
  ((s1.setCtx c { x with pkt := none, win := [], counting := false }).leaveOrder c,
   x.pkt.map (fun p => { p with data := x.win.take p.data.length ++ p.data.drop x.win.length }))

/-- Bytes that the manual does not give, each a free value. (log 29, DESIGN CHOICE) -/
def State.freeBytes (s : State) (n : Nat) : State × List Byte :=
  ({ s with draws := s.draws + n }, (List.range n).map (fun k => (Config.draw (s.draws + k)).truncate 8))

/-- A frame of another LENGTH: cut, or longer by bytes that the buffer happens to hold. (log 29, DESIGN CHOICE) -/
def State.resize (s : State) (p : Packet) (len : Nat) : State × Packet :=
  let n := len - 4
  if n ≤ p.data.length then (s, { p with len := len, data := p.data.take n })
  else
    let x := s.freeBytes (n - p.data.length)
    (x.1, { p with len := len, data := p.data ++ x.2 })

/-- The hairpin check of R398 on a packet or a copy bound for a queue. -/
def hairpins (plane q : Nat) : Bool := plane = 0 && fibreQueue q

/-- The hairpin discard or refusal is counted. -/
def State.hairpinNote (s : State) : State := s.svCount .SV_DROP_HAIRPIN

/-- pkt.send (R97, R98, R398); none while earlier packets of the flow are held. -/
def State.callSend (s : State) (c : Nat) (arg : Quad) : Option (State × Quad) :=
  let v := arg.toNat
  let q := bits v 0 12
  match (s.ctx c).pkt with
  | none => some (s, statusWord 0x02)
  | some p0 =>
    if above arg 27 || (bit v 26 && decide (bits v 12 14 < 14 ∨ poolLargest (bits p0.handle 38 2) < bits v 12 14)) then
      some (s, statusWord 0x06)
    else if !s.mayAct c (queueClass q) then some (s, statusWord 0x05)
    else if !s.mayRelease c p0 then none
    else match s.letGo c with
      | (s1, none) => some (s1, statusWord 0x02)
      | (s1, some p) =>
        let x := if bit v 26 then s1.resize p (bits v 12 14) else (s1, p)
        let p1 := { x.2 with queue := q }
        if hairpins p.plane q then some ((x.1.discard p1).hairpinNote, statusWord 0x0A)
        else
          let y := x.1.offer q p1
          some (y.1, if y.2 then 0 else statusWord 0x0A)

/-- pkt.drop (R100). -/
def State.callDrop (s : State) (c : Nat) (arg : Quad) : Option (State × Quad) :=
  match (s.ctx c).pkt with
  | none => some (s, statusWord 0x02)
  | some p0 =>
    if arg ≠ 0 then some (s, statusWord 0x06)
    else if !s.mayRelease c p0 then none
    else match s.letGo c with
      | (s1, none) => some (s1, statusWord 0x02)
      | (s1, some p) => some ((s1.discard p).count Fld.PR_ENG_PROGDROP_COUNT (ctxEngine c), 0)

/-- pkt.recirc (R99): the packet waits for its second pass. -/
def State.callRecirc (s : State) (c : Nat) (arg : Quad) : Option (State × Quad) :=
  match (s.ctx c).pkt with
  | none => some (s, statusWord 0x02)
  | some p0 =>
    if arg ≠ 0 then some (s, statusWord 0x06)
    else if p0.pass2 then some (s, statusWord 0x09)
    else if !s.mayRelease c p0 then none
    else match s.letGo c with
      | (s1, none) => some (s1, statusWord 0x02)
      | (s1, some p) =>
        some (({ s1 with sv := { s1.sv with rx := Tab.upd s1.sv.rx [] 145 (· ++ [{ p with pass2 := true }]) } }).wakePath, 0)

/-- pkt.dup (R44, R80, R398); none while an earlier store of the context to K is on its way. -/
def State.callDup (s : State) (c : Nat) (arg : Quad) : Option (State × Quad) :=
  let q := bits arg.toNat 0 12
  if (s.ctx c).posted.any (fun w => w.sp = .k) then none
  else match (s.ctx c).pkt with
    | none => some (s, statusWord 0x02)
    | some p =>
      if above arg 12 then some (s, statusWord 0x06)
      else if !s.mayAct c (queueClass q) then some (s, statusWord 0x05)
      else if hairpins (planeOf p.inport q) q then some (s.hairpinNote, statusWord 0x06)
      else
        some (s.placeFor (ctxEngine c) q
          { p with handle := 0, data := s.readK c 0 (p.len - 4), stamp := none, samp := none, bsn := none })

/-- A record of 8-byte words at an L address: aligned, and wholly in L. -/
def recordFits (a : Agent) (arg : Quad) (bytes : Nat) : Bool :=
  decide (arg.toNat % 8 = 0 ∧ arg.toNat + bytes ≤ lSize a)

/-- pkt.emit (R101). -/
def State.callEmit (s : State) (c : Nat) (arg : Quad) : Option (State × Quad) :=
  let a : Agent := .ctx c
  let w := leNat (s.readL a arg.toNat 8)
  let n := bits w 12 14
  let q := bits w 0 12
  if !recordFits a arg 8 || decide (2 ^ 35 ≤ w ∨ n < 14 ∨ 256 < n) || !recordFits a arg (8 + n) then some (s, statusWord 0x06)
  else if !s.mayAct c (queueClass q) then some (s, statusWord 0x05)
  else
    let stamp := if bit w 26 then some (c, (s.ctx c).gen.toNat, bits w 27 8) else none
    some (s.placeFor (ctxEngine c) q
      { inport := 255, len := n + 4, data := s.readL a (arg.toNat + 8) n, rset := s.activeSet, stamp := stamp })

/-! ## Ladle, Sieve, the traffic manager and the cipher (R95) -/

/-- ld.alloc (R420); a request answered NONE is counted (R424). (log 85, DEDUCED) -/
def State.callAlloc (s : State) (c : Nat) (arg : Quad) : State × Quad :=
  let e := ctxEngine c
  let p := bits arg.toNat 0 2
  if above arg 2 then (s, statusWord 0x06)
  else if !s.mayAct c 0x0F then (s, statusWord 0x05)
  else match s.alloc e p with
    | (s1, some h) => (s1, BitVec.ofNat 64 h)
    | (s1, none) => ((s1.count ⟨.LD_REQ_CNT, 0, 16⟩ e).raise 706 [(8, p)] 1 p, statusWord 0x03)

/-- ld.free (R426), in the name of the calling engine. -/
def State.callFree (s : State) (c : Nat) (arg : Quad) : State × Quad :=
  if above arg 40 then (s, statusWord 0x06)
  else if !s.mayAct c 0x0F then (s, statusWord 0x05)
  else
    let x := s.freeBuffer (ctxEngine c) arg.toNat
    (x.1, if x.2 = 0 then 0 else statusWord x.2)

/-- sv.lookup (R400): RANGE before NOMATCH. -/
def State.callLookup (s : State) (c : Nat) (arg : Quad) : State × Quad :=
  let a : Agent := .ctx c
  let ws := (List.range 8).map (fun k => leNat (s.readL a (arg.toNat + 8 * k) 8))
  if !recordFits a arg 64 || !keyFormed ws then (s, statusWord 0x06)
  else if !s.mayAct c 0x0D then (s, statusWord 0x05)
  else match s.emLookup ws with
    | some f => (s, BitVec.ofNat 64 (s.action f))
    | none => (s, statusWord 0x08)

/-- sv.flowstat (R408): the accumulators of programs, read and cleared. -/
def State.callFlowstat (s : State) (c : Nat) (arg : Quad) : State × Quad :=
  let f := arg.toNat
  if above arg 16 then (s, statusWord 0x06)
  else if !s.mayAct c 0x0D then (s, statusWord 0x05)
  else
    let x := s.flowstat f
    (x.1, BitVec.ofNat 64 (x.2.1 + x.2.2 * 2 ^ 40))

/-- tm.depth (R459). -/
def State.callDepth (s : State) (c : Nat) (arg : Quad) : State × Quad :=
  let q := arg.toNat
  if above arg 12 then (s, statusWord 0x06)
  else if !s.mayAct c (queueClass q) then (s, statusWord 0x05)
  else (s, BitVec.ofNat 64 (min (s.depth q) (2 ^ 32 - 1) + min (s.queue q).length (2 ^ 24 - 1) * 2 ^ 32))

/-- tm.delay (R459): NOMATCH before the first sample. -/
def State.callDelay (s : State) (c : Nat) (arg : Quad) : State × Quad :=
  let q := arg.toNat
  if above arg 12 then (s, statusWord 0x06)
  else if !s.mayAct c (queueClass q) then (s, statusWord 0x05)
  else match (s.qstat q).last with
    | some n => (s, BitVec.ofNat 64 n)
    | none => (s, statusWord 0x08)

/-- The object class of a blob, by its type; a type that R485 does not list names no object, and fails FORMAT (R486, R528). -/
def blobClass (type : Nat) : Nat := if 1 ≤ type ∧ type ≤ 5 then 0x0E else 0x07

/-- cx.unwrap (R487): AUTH for a blob of a class beyond the caller's authority (R80, R528), BUSY while 16 unwraps are pending. -/
def State.callUnwrap (s : State) (c : Nat) (arg : Quad) : State × Quad :=
  let a : Agent := .ctx c
  if !recordFits a arg 64 then (s, statusWord 0x06)
  else if !s.mayAct c (blobClass (bits (leNat (s.readL a arg.toNat 8)) 0 8)) then (s, statusWord 0x05)
  else match s.unwrapSubmit (.ctx c) (s.bodyAt a arg.toNat 8) with
    | (s1, some n) => (s1, BitVec.ofNat 64 n)
    | (s1, none) => (s1, statusWord 0x01)

/-- cx.pnleft (R477). -/
def State.callPnleft (s : State) (c : Nat) (arg : Quad) : State × Quad :=
  if above arg 10 then (s, statusWord 0x06)
  else if !s.mayAct c 0x0E then (s, statusWord 0x05)
  else (s, BitVec.ofNat 64 (s.pnLeft arg.toNat))

/-! ## Timers, votes, known events, authority and events (R79, R102, R103, R112, R497) -/

/-- tb.timer (R102): the lowest free timer, NOSLOT where all four are armed. (log 27, DESIGN CHOICE) -/
def State.callTimer (s : State) (c : Nat) (arg : Quad) : State × Quad :=
  if above arg 48 then (s, statusWord 0x06)
  else match (List.range 4).find? (fun t => !(Tab.get (s.ctx c).timers {} t).armed) with
    | none => (s, statusWord 0x07)
    | some t =>
      let k : Timer := { armed := true, target := timeField arg, tag := bits arg.toNat 40 8 }
      ((s.setCtx c { s.ctx c with timers := Tab.set (s.ctx c).timers {} t k }).settle, BitVec.ofNat 64 t)

/-- tb.cancel. (log 125, DESIGN CHOICE) -/
def State.callCancel (s : State) (c : Nat) (arg : Quad) : State × Quad :=
  if above arg 2 then (s, statusWord 0x06)
  else ((s.setCtx c { s.ctx c with timers := Tab.set (s.ctx c).timers {} arg.toNat {} }).settle, 0)

/-- The votes that a context holds. -/
def State.votesOf (s : State) (c : Nat) : Nat := (s.pow.owner.filter (fun e => e.2 = c + 1)).length

/-- pw.vote (R103, R497): the ticket, with the slot in [4:0] and the domain in [11:8]. (log 27, DESIGN CHOICE) -/
def State.callVote (s : State) (c : Nat) (arg : Quad) : State × Quad :=
  let v := arg.toNat
  let d := bits v 0 4
  if (s.ctx c).auth ≠ 1 && (s.ctx c).auth ≠ 2 then (s, statusWord 0x05)
  else if above arg 9 || bits v 4 4 ≠ 0 || d = 0 || 12 < d then (s, statusWord 0x06)
  else if 32 ≤ s.votesOf c then (s, statusWord 0x07)
  else match s.takeSlot d c with
    | none => (s, statusWord 0x07)
    | some (k, t) => (t, BitVec.ofNat 64 (k + d * 256))

/-- pw.unvote (R103, R497): RANGE for a ticket that the context does not hold. -/
def State.callUnvote (s : State) (c : Nat) (arg : Quad) : State × Quad :=
  let v := arg.toNat
  let k := 32 * bits v 8 4 + bits v 0 5
  if (s.ctx c).auth ≠ 1 && (s.ctx c).auth ≠ 2 then (s, statusWord 0x05)
  else if above arg 12 || bits v 5 3 ≠ 0 || Tab.get s.pow.owner 0 k ≠ c + 1 then (s, statusWord 0x06)
  else (s.freeSlot (bits v 8 4) (bits v 0 5), 0)

/-- pw.next (R102): the time of the next known event; 0 clears. (log 27, DESIGN CHOICE) -/
def State.callNext (s : State) (c : Nat) (arg : Quad) : State × Quad :=
  if above arg 40 then (s, statusWord 0x06)
  else ((s.setCtx c { s.ctx c with pnext := if arg = 0 then none else some (timeField arg) }).settle, 0)

/-- ev.raise (R112): events 912 to 959, with the context and a payload. -/
def State.callRaise (s : State) (c : Nat) (arg : Quad) : State × Quad :=
  let v := arg.toNat
  let n := bits v 0 10
  if n < 912 ∨ 959 < n ∨ bits v 10 6 ≠ 0 then (s, statusWord 0x06)
  else (s.raise n [(16, c), (48, bits v 16 48)], 0)

/-- gt.edge (R105); none while all 16 slots are occupied. -/
def State.callEdge (s : State) (p : Nat) (arg : Quad) : Option (State × Quad) :=
  if above arg 48 then some (s, statusWord 0x06)
  else if 16 ≤ (s.gate p).edges.length then none
  else some ((s.enterEdge p (timeField arg) (arg.extractLsb' 40 8)).settle, 0)

/-- gt.flush (R105): the edges timed after a time are discarded. (log 27, DESIGN CHOICE) -/
def State.callFlush (s : State) (p : Nat) (arg : Quad) : State × Quad :=
  if above arg 40 then (s, statusWord 0x06)
  else
    let g := s.gate p
    let keep := g.edges.filter (fun e => decide ((e.1 - timeField arg).toInt ≤ 0))
    ((s.setGate p { g with edges := keep }).settle, BitVec.ofNat 64 (g.edges.length - keep.length))

/-! ## The wait of a call (R52, R55, R94, R95) -/

/-- What a call does, and its result; none while it must wait. (log 26, DEDUCED) -/
def State.callEffect (s : State) (a : Agent) (n : Nat) (arg : Quad) : Option (State × Quad) :=
  match a with
  | .gate p => if n = 0x80 then s.callEdge p arg else some (s.callFlush p arg)
  | .ctx c =>
    match n with
    | 0x02 => s.callSend c arg
    | 0x03 => s.callDrop c arg
    | 0x04 => s.callRecirc c arg
    | 0x05 => s.callDup c arg
    | 0x06 => s.callEmit c arg
    | 0x10 => some (s.callAlloc c arg)
    | 0x11 => some (s.callFree c arg)
    | 0x20 => some (s.callLookup c arg)
    | 0x21 => some (s.callFlowstat c arg)
    | 0x30 => some (s.callDepth c arg)
    | 0x31 => some (s.callDelay c arg)
    | 0x40 => some (s.callUnwrap c arg)
    | 0x41 => some (s.callPnleft c arg)
    | 0x50 => some (s.callTimer c arg)
    | 0x51 => some (s.callCancel c arg)
    | 0x60 => some (s.callVote c arg)
    | 0x61 => some (s.callUnvote c arg)
    | 0x62 => some (s.callNext c arg)
    | 0x78 => some (s.callRaise c arg)
    | _ => some (s, 0)

/-- Replace what an agent waits for. -/
def State.setWait (s : State) (a : Agent) (w : Option Wait) : State :=
  match a with
  | .ctx c => s.setCtx c { s.ctx c with wait := w }
  | .gate p => s.setGate p { s.gate p with wait := w }

/-- A waiting call takes effect where it can: its result stands in its wait, and votes and known events follow. (log 23, DESIGN CHOICE) -/
def State.tryCall (s : State) (a : Agent) (rd : GReg) (n : Nat) (arg : Quad) : Option State :=
  if s.asleep (callDomain n) then none
  else (s.callEffect a n arg).map fun x => (x.1.setWait a (some (.hcall rd n arg (some x.2)))).settle

/-- A hardware call, once issued: it takes effect at once where it can, before the domains follow the agent's wait; otherwise it waits. -/
def State.callBody (s : State) (a : Agent) (cost : Nat) (rd ra : GReg) (n : Nat) : State :=
  let arg := (s.cpu a).get ra
  let s1 := ((s.charge a cost).turnsPassed a).place a .waiting (some (.hcall rd n arg none))
  (s1.tryCall a rd n arg).getD s1.settle

/-- A hardware call of the table. (log 23, DESIGN CHOICE) (log 26, DEDUCED) -/
def State.hcall (s : State) (a : Agent) (cost : Nat) (l : Letters) (i : Instr) (rd ra : GReg) (n : Nat) : Host.Outcome State Fault Refusal :=
  s.issue a cost (wordOf i) true (s.permits a l) (fun t => t.callBody a cost rd ra n)

/-- The result of a call may be returned: pw.vote with WAIT returns its ticket only when the domain is at Full (R497). -/
def State.returns (s : State) (n : Nat) (arg r : Quad) : Bool :=
  !(n = 0x60 && bit arg.toNat 8 && !bit r.toNat 63 && s.asleep (bits arg.toNat 0 4))

/-- HCALL_COMPLETE (R95): a waiting call that can takes effect, and its result stands in rd. (log 23, DESIGN CHOICE) -/
def execHcallComplete (a : Agent) (s : State) : Host.Outcome State Fault Refusal :=
  if !agentExists a then .fault .noSuchObject
  else if s.asleep (agentDomain a) then .next s
  else match s.agentWait a with
    | some (.hcall rd n arg w) =>
      let s1 := if w.isSome then s else (s.tryCall a rd n arg).getD s
      match s1.agentWait a with
      | some (.hcall _ _ _ (some r)) => .next (if s1.returns n arg r then s1.giveResult a rd r else s1)
      | _ => .next s1
    | _ => .next s

/-- An hcall whose number the table does not list traps HCALL (R77); a listed number is not this command's, and nothing happens. -/
def execUnknownHcall (a : Agent) (rd ra : GReg) (n : BitVec 8) (s : State) : Host.Outcome State Fault Refusal :=
  if decCall a rd ra n = .unknownHcall a rd ra n then
    s.issue a 1 (wordOf (.unknownHcall a rd ra n)) true true (fun t => t.trapNow a 0x0B (n.zeroExtend 64))
  else .next s

/-- pkt.next (R96): BUSY while a packet is held; otherwise the context waits for one. -/
def execPktNext (a : Agent) (rd ra : GReg) (s : State) : Host.Outcome State Fault Refusal :=
  s.issue a 2 (wordOf (.pktNext a rd ra)) true (s.permits a forP) (fun t => match a with
    | .gate _ => t
    | .ctx c =>
      let arg := (t.cpu a).get ra
      if arg ≠ 0 then t.waitFor a 2 (.hcall rd 0x01 arg (some (statusWord 0x06)))
      else if (t.ctx c).pkt.isSome then t.waitFor a 2 (.hcall rd 0x01 arg (some (statusWord 0x01)))
      else t.waitFor a 2 (.pktNext rd))

/-- The descriptor words of a packet (R18). -/
def Packet.words (p : Packet) : Quad × Quad × Quad :=
  (BitVec.ofNat 64 (p.handle % 2 ^ 40 + p.flow % 2 ^ 16 * 2 ^ 40 + p.plane % 4 * 2 ^ 56 + b2n p.rset * 2 ^ 58 + b2n p.pass2 * 2 ^ 59
      + b2n p.cut * 2 ^ 60 + b2n p.poison * 2 ^ 61 + b2n p.tsv * 2 ^ 62),
   BitVec.ofNat 64 (p.queue % 2 ^ 12 + p.inport % 2 ^ 8 * 2 ^ 12 + p.len % 2 ^ 14 * 2 ^ 20 + p.pgen % 2 ^ 8 * 2 ^ 34 + p.dch % 4 * 2 ^ 42),
   BitVec.ofNat 64 (p.ts % 2 ^ 40))

/-- The context of an engine that waits in pkt.next, first after the one that last took a packet (R96). -/
def State.nextTaker (s : State) (e : Nat) : Option Nat :=
  ((List.range 8).map (fun k => 8 * e + ((s.eng e).lastPkt + 1 + k) % 8)).find? fun c =>
    match (s.ctx c).wait with
    | some (.pktNext _) => true
    | _ => false

/-- A packet is delivered to a context (R44, R71, R96): K opens, g1 to g3 and rd take the descriptor, and the step count starts. -/
def State.handOver (s : State) (e c : Nat) (rd : GReg) (p : Packet) : State :=
  let (w0, w1, w2) := p.words
  let g := s.eng e
  let s1 := s.setEng e { g with lastPkt := c % 8, order := g.order ++ [(c, p.flow)] }
  let x := s1.ctx c
  let s2 := s1.setCtx c { x with pkt := some p, win := p.data.take 256, pktSteps := 0, counting := true, posted := x.posted.filter (fun w => w.sp ≠ .k)
                                 cpu := ((x.cpu.put 1 w0).put 2 w1).put 3 w2 }
  s2.giveResult (.ctx c) rd w0

/-- PACKET_DELIVERY (R96): the head packet of engine-input queue 3,200 + e goes to a waiting context; the domains it needs are woken
first. (log 85, DEDUCED) -/
def execPacketDelivery (e : Nat) (s : State) : Host.Outcome State Fault Refusal :=
  if 128 ≤ e then .fault .noSuchObject
  else match s.nextTaker e, s.queue (3200 + e) with
    | some c, p :: _ =>
      let ds := [5, engineDomain e, cellDomain (bits p.handle 0 30)]
      if ds.any s.asleep then .next (ds.foldl State.wakeFor s)
      else match (s.ctx c).wait, s.dequeue (3200 + e) with
        | some (.pktNext rd), (s1, some p1) => .next (if s1.roleRuns c then (s1.ingress c p1).settle else s1.handOver e c rd p1)
        | _, _ => .next s
    | _, _ => .next s

/-! ## The calls -/

/-- pkt.send. -/
def execPktSend (a : Agent) (rd ra : GReg) (s : State) : Host.Outcome State Fault Refusal :=
  s.hcall a 2 forP (.pktSend a rd ra) rd ra 0x02

/-- pkt.drop. -/
def execPktDrop (a : Agent) (rd ra : GReg) (s : State) : Host.Outcome State Fault Refusal :=
  s.hcall a 2 forP (.pktDrop a rd ra) rd ra 0x03

/-- pkt.recirc. -/
def execPktRecirc (a : Agent) (rd ra : GReg) (s : State) : Host.Outcome State Fault Refusal :=
  s.hcall a 2 forP (.pktRecirc a rd ra) rd ra 0x04

/-- pkt.dup. -/
def execPktDup (a : Agent) (rd ra : GReg) (s : State) : Host.Outcome State Fault Refusal :=
  s.hcall a 4 forP (.pktDup a rd ra) rd ra 0x05

/-- pkt.emit. -/
def execPktEmit (a : Agent) (rd ra : GReg) (s : State) : Host.Outcome State Fault Refusal :=
  s.hcall a 4 forCP (.pktEmit a rd ra) rd ra 0x06

/-- ld.alloc. -/
def execLdAlloc (a : Agent) (rd ra : GReg) (s : State) : Host.Outcome State Fault Refusal :=
  s.hcall a 2 forCP (.ldAlloc a rd ra) rd ra 0x10

/-- ld.free. -/
def execLdFree (a : Agent) (rd ra : GReg) (s : State) : Host.Outcome State Fault Refusal :=
  s.hcall a 2 forCP (.ldFree a rd ra) rd ra 0x11

/-- sv.lookup. -/
def execSvLookup (a : Agent) (rd ra : GReg) (s : State) : Host.Outcome State Fault Refusal :=
  s.hcall a 2 forCP (.svLookup a rd ra) rd ra 0x20

/-- sv.flowstat. -/
def execSvFlowstat (a : Agent) (rd ra : GReg) (s : State) : Host.Outcome State Fault Refusal :=
  s.hcall a 2 forC (.svFlowstat a rd ra) rd ra 0x21

/-- tm.depth. -/
def execTmDepth (a : Agent) (rd ra : GReg) (s : State) : Host.Outcome State Fault Refusal :=
  s.hcall a 2 forCP (.tmDepth a rd ra) rd ra 0x30

/-- tm.delay. -/
def execTmDelay (a : Agent) (rd ra : GReg) (s : State) : Host.Outcome State Fault Refusal :=
  s.hcall a 2 forC (.tmDelay a rd ra) rd ra 0x31

/-- cx.unwrap. -/
def execCxUnwrap (a : Agent) (rd ra : GReg) (s : State) : Host.Outcome State Fault Refusal :=
  s.hcall a 2 forC (.cxUnwrap a rd ra) rd ra 0x40

/-- cx.pnleft. -/
def execCxPnleft (a : Agent) (rd ra : GReg) (s : State) : Host.Outcome State Fault Refusal :=
  s.hcall a 2 forC (.cxPnleft a rd ra) rd ra 0x41

/-- tb.timer. -/
def execTbTimer (a : Agent) (rd ra : GReg) (s : State) : Host.Outcome State Fault Refusal :=
  s.hcall a 2 forC (.tbTimer a rd ra) rd ra 0x50

/-- tb.cancel. -/
def execTbCancel (a : Agent) (rd ra : GReg) (s : State) : Host.Outcome State Fault Refusal :=
  s.hcall a 2 forC (.tbCancel a rd ra) rd ra 0x51

/-- pw.vote. -/
def execPwVote (a : Agent) (rd ra : GReg) (s : State) : Host.Outcome State Fault Refusal :=
  s.hcall a 2 forC (.pwVote a rd ra) rd ra 0x60

/-- pw.unvote. -/
def execPwUnvote (a : Agent) (rd ra : GReg) (s : State) : Host.Outcome State Fault Refusal :=
  s.hcall a 2 forC (.pwUnvote a rd ra) rd ra 0x61

/-- pw.next. -/
def execPwNext (a : Agent) (rd ra : GReg) (s : State) : Host.Outcome State Fault Refusal :=
  s.hcall a 1 forC (.pwNext a rd ra) rd ra 0x62

/-- ev.raise. -/
def execEvRaise (a : Agent) (rd ra : GReg) (s : State) : Host.Outcome State Fault Refusal :=
  s.hcall a 2 forCP (.evRaise a rd ra) rd ra 0x78

/-- gt.edge. -/
def execGtEdge (a : Agent) (rd ra : GReg) (s : State) : Host.Outcome State Fault Refusal :=
  s.hcall a 2 forG (.gtEdge a rd ra) rd ra 0x80

/-- gt.flush. -/
def execGtFlush (a : Agent) (rd ra : GReg) (s : State) : Host.Outcome State Fault Refusal :=
  s.hcall a 2 forG (.gtFlush a rd ra) rd ra 0x81

/-- auth.narrow (R79), which waits for nothing: the authority only falls, in the order serial, host, head end. -/
def execAuthNarrow (a : Agent) (rd ra : GReg) (s : State) : Host.Outcome State Fault Refusal :=
  s.issue a 1 (wordOf (.authNarrow a rd ra)) true (s.permits a forCP) (fun t => match a with
    | .gate _ => t
    | .ctx c =>
      let arg := (t.cpu a).get ra
      let x := t.ctx c
      if above arg 2 || x.auth = 0 || arg.toNat ≤ x.auth.toNat then t.retire a 1 (fun y => y.put rd (statusWord 0x06))
      else (t.setCtx c { x with auth := BitVec.ofNat 2 arg.toNat }).retire a 1 (fun y => y.put rd 0))

end Sys2Proof.Machine
end

