-- ==== Sys2Proof/Machine/Writes.lean ====
section
/-! DEFINITION. The commands that are register accesses: each is the access that its port makes, checked as Access.lean states, and its effect
is the one the register's chapter gives the write or the read. Where the source is a context, the command is the access alone; the instruction
that makes it is creg or cwr. -/
namespace Sys2Proof.Machine

/-- A write of element `k` of instance `i` of a register by a source, in the low or the high word. -/
def State.writeReg (s : State) (src : Src) (r : Reg) (i k off : Nat) (v : Nat) : State := s.regWrite src (r.addr i k + off) v

/-! ## Any register (R9, R10, R543) -/

/-- REGISTER_WRITE (R10). -/
def execRegisterWrite (src : Src) (addr v : Word) (s : State) : Host.Outcome State Fault Refusal :=
  .next (s.regWrite src addr.toNat v.toNat)

/-- CLEAR_ON_READ_READ (R10): the value is put out and its fields of access RC become zero. -/
def execClearOnReadRead (src : Src) (addr : Word) (s : State) : Host.Outcome State Fault Refusal := .next (s.regRead src addr.toNat)

/-- COUNTER_LOW_WORD_READ (R9): the high word is latched and the counter cleared. -/
def execCounterLowWordRead (src : Src) (addr : Word) (s : State) : Host.Outcome State Fault Refusal := .next (s.regRead src addr.toNat)

/-- RESULT_SLOT_STATUS_READ (R543): the first read after a completion shows STALE = 0, every later one STALE = 1. -/
def execResultSlotStatusRead (src : Src) (addr : Word) (s : State) : Host.Outcome State Fault Refusal := .next (s.regRead src addr.toNat)

/-! ## The windows -/

/-- PR_MEM_DATA_ACCESS (R73): a read, or a write of a word. -/
def execPrMemDataAccess (src : Src) (e : Nat) (w : Option Word) (s : State) : Host.Outcome State Fault Refusal :=
  if e < 128 then
    match w with
    | none => .next (s.regRead src (Reg.addr .PR_MEM_DATA e 0))
    | some v => .next (s.writeReg src .PR_MEM_DATA e 0 0 v.toNat)
  else .fault .noSuchObject

/-- PR_STM_DATA_ACCESS (R129). -/
def execPrStmDataAccess (src : Src) (w : Option Word) (s : State) : Host.Outcome State Fault Refusal :=
  match w with
  | none => .next (s.regRead src (Reg.addr .PR_STM_DATA 0 0))
  | some v => .next (s.writeReg src .PR_STM_DATA 0 0 0 v.toNat)

/-- SAVE_DATA_ACCESS (R513). -/
def execSaveDataAccess (src : Src) (w : Option Word) (s : State) : Host.Outcome State Fault Refusal :=
  match w with
  | none => .next (s.regRead src (Reg.addr .KT_SAVE_DATA 0 0))
  | some v => .next (s.writeReg src .KT_SAVE_DATA 0 0 0 v.toNat)

/-- TB_NS_READ (R264): the fraction and the wraps are latched for the requester. -/
def execTbNsRead (src : Src) (s : State) : Host.Outcome State Fault Refusal := .next (s.regRead src (Reg.addr .TB_NS 0 0))

/-- FLOWSTAT_HOST_READ (R408): a read of SV_FS_BYTES or of SV_FS_PKTS. -/
def execFlowstatHostRead (src : Src) (pkts high : Bool) (s : State) : Host.Outcome State Fault Refusal :=
  .next (s.regRead src (Reg.addr (if pkts then .SV_FS_PKTS else .SV_FS_BYTES) 0 0 + if high then 4 else 0))

/-! ## The burst watchdog (R215) -/

/-- A write of OP_WD_CTRL for one UC whose monitor's state is known; the other UC's is looked at as Config leaves it. (log 81, DEDUCED) -/
def State.wdWrite (s : State) (src : Src) (m v : Nat) (dark : Bool) : State :=
  let a := Reg.addr .OP_WD_CTRL 0 0
  let s0 := s.portVote src
  match s0.reach src a (some v) with
  | .ok =>
    let one := fun (t : State) (k : Nat) (d : Bool) => if bit v k then t.wdClear k d else t
    one (one { s0 with draws := s0.draws + 1 } m dark) (1 - m) (Config.monitorDark (1 - m) s0.draws)
  | _ => s.regWrite src a v

/-- WD_CLEAR0 (R215). -/
def execWdClear0 (src : Src) (v : Word) (dark : Bool) (s : State) : Host.Outcome State Fault Refusal := .next (s.wdWrite src 0 v.toNat dark)

/-- WD_CLEAR1 (R215). -/
def execWdClear1 (src : Src) (v : Word) (dark : Bool) (s : State) : Host.Outcome State Fault Refusal := .next (s.wdWrite src 1 v.toNat dark)

/-! ## Partitions (R413) -/

/-- LD_PARTITION_WRITE (R413): `k` 0 to 3 the partition sizes LD_PART_PS, RO, PD and LS, 4 to 7 the regions of pools 0 to 3. -/
def execLdPartitionWrite (src : Src) (k : Nat) (v : Word) (s : State) : Host.Outcome State Fault Refusal :=
  match k with
  | 0 => .next (s.writeReg src .LD_PART_PS 0 0 0 v.toNat)
  | 1 => .next (s.writeReg src .LD_PART_RO 0 0 0 v.toNat)
  | 2 => .next (s.writeReg src .LD_PART_PD 0 0 0 v.toNat)
  | 3 => .next (s.writeReg src .LD_PART_LS 0 0 0 v.toNat)
  | k => if k < 8 then .next (s.writeReg src .LD_POOL_REGION 0 (k - 4) 0 v.toNat) else .fault .noSuchObject

/-! ## Writes of one register -/

/-- BOOT_GO (R119): GO ends the hold. -/
def execBootGo (src : Src) (v : Word) (s : State) : Host.Outcome State Fault Refusal :=
  .next (s.writeReg src .KT_BOOT_CTRL 0 0 0 v.toNat)

/-- WARM_RESET_REQUEST (R123). -/
def execWarmResetRequest (src : Src) (v : Word) (s : State) : Host.Outcome State Fault Refusal :=
  .next (s.writeReg src .KT_RESET 0 0 0 v.toNat)

/-- COLD_RESET_REQUEST (R123). -/
def execColdResetRequest (src : Src) (v : Word) (s : State) : Host.Outcome State Fault Refusal :=
  .next (s.writeReg src .KT_RESET 0 0 0 v.toNat)

/-- WATCHDOG_FEED (R125). -/
def execWatchdogFeed (src : Src) (v : Word) (s : State) : Host.Outcome State Fault Refusal :=
  .next (s.writeReg src .KT_WDOG 0 0 0 v.toNat)

/-- SITE_VENDOR_WRITE (R133, R134). -/
def execSiteVendorWrite (src : Src) (v : Word) (s : State) : Host.Outcome State Fault Refusal :=
  .next (s.writeReg src .KT_SITE_VENDOR 0 0 0 v.toNat)

/-- SITE_SERIAL_WRITE (R133, R134). -/
def execSiteSerialWrite (src : Src) (v : Word) (s : State) : Host.Outcome State Fault Refusal :=
  .next (s.writeReg src .KT_SITE_SERIAL 0 0 0 v.toNat)

/-- SITE_LOCK_WRITE (R134). -/
def execSiteLockWrite (src : Src) (v : Word) (s : State) : Host.Outcome State Fault Refusal :=
  .next (s.writeReg src .KT_SITE_CTRL 0 0 0 v.toNat)

/-- ROOT_KEY_PROGRAM (R481). -/
def execRootKeyProgram (src : Src) (v : Word) (s : State) : Host.Outcome State Fault Refusal :=
  .next (s.writeReg src .CX_ROOT_CTRL 0 0 0 v.toNat)

/-- CONTEXT_START (R52): CMD 1 of PR_CTX_STATE. -/
def execContextStart (src : Src) (c : Nat) (s : State) : Host.Outcome State Fault Refusal :=
  if c < 1024 then .next (s.writeReg src .PR_CTX_STATE c 0 0 16) else .fault .noSuchObject

/-- CONTEXT_STOP (R52): CMD 2 of PR_CTX_STATE. -/
def execContextStop (src : Src) (c : Nat) (s : State) : Host.Outcome State Fault Refusal :=
  if c < 1024 then .next (s.writeReg src .PR_CTX_STATE c 0 0 32) else .fault .noSuchObject

/-- CONTEXT_RESET (R52): CMD 3 of PR_CTX_STATE. -/
def execContextReset (src : Src) (c : Nat) (s : State) : Host.Outcome State Fault Refusal :=
  if c < 1024 then .next (s.writeReg src .PR_CTX_STATE c 0 0 48) else .fault .noSuchObject

/-- HOST_MESSAGE_GO (R89). -/
def execHostMessageGo (src : Src) (e : Nat) (v : Word) (s : State) : Host.Outcome State Fault Refusal :=
  if e < 128 then .next (s.writeReg src .PR_HMSG_CTRL e 0 0 v.toNat) else .fault .noSuchObject

/-- ENGINE_LOAD_GO (R129, R130). -/
def execEngineLoadGo (src : Src) (e : Nat) (v : Word) (s : State) : Host.Outcome State Fault Refusal :=
  if e < 128 then .next (s.writeReg src .PR_LOAD_CTRL e 0 0 v.toNat) else .fault .noSuchObject

/-- GATE_START (R364): a write of GT_CTRL. -/
def execGateStart (src : Src) (p : Nat) (v : Word) (s : State) : Host.Outcome State Fault Refusal :=
  if p < 145 then .next (s.writeReg src .GT_CTRL p 0 0 v.toNat) else .fault .noSuchObject

/-- GATE_STOP (R364): a write of GT_CTRL. -/
def execGateStop (src : Src) (p : Nat) (v : Word) (s : State) : Host.Outcome State Fault Refusal :=
  if p < 145 then .next (s.writeReg src .GT_CTRL p 0 0 v.toNat) else .fault .noSuchObject

/-- GATE_RESET (R364): a write of GT_CTRL. -/
def execGateReset (src : Src) (p : Nat) (v : Word) (s : State) : Host.Outcome State Fault Refusal :=
  if p < 145 then .next (s.writeReg src .GT_CTRL p 0 0 v.toNat) else .fault .noSuchObject

/-- GATE_LOAD_GO (R365). -/
def execGateLoadGo (src : Src) (p : Nat) (v : Word) (s : State) : Host.Outcome State Fault Refusal :=
  if p < 145 then .next (s.writeReg src .GT_LOAD_CTRL p 0 0 v.toNat) else .fault .noSuchObject

/-- PORT_REROLE (R366, R92). -/
def execPortRerole (src : Src) (p : Nat) (v : Word) (s : State) : Host.Outcome State Fault Refusal :=
  if p < 144 then .next (s.writeReg src .MC_ROLE p 0 0 v.toNat) else .fault .noSuchObject

/-- DS_MODE_WRITE (R140, R142). -/
def execDsModeWrite (src : Src) (v : Word) (s : State) : Host.Outcome State Fault Refusal :=
  .next (s.writeReg src .TC_DS_MODE 0 0 0 v.toNat)

/-- DS_GROUP_CAP_WRITE (R165). -/
def execDsGroupCapWrite (src : Src) (g : Nat) (v : Word) (s : State) : Host.Outcome State Fault Refusal :=
  if g < 4 then .next (s.writeReg src .TC_DS_GRP_CTRL g 0 0 v.toNat) else .fault .noSuchObject

/-- SNAPSHOT_ARM (R173): a write of the high word of TC_DSC_SNAPREQ. -/
def execSnapshotArm (src : Src) (ch : Nat) (v : Word) (s : State) : Host.Outcome State Fault Refusal :=
  if ch < 4 then .next (s.writeReg src .TC_DSC_SNAPREQ ch 0 4 v.toNat) else .fault .noSuchObject

/-- ASYM_REFIT (R202). -/
def execAsymRefit (src : Src) (v : Word) (s : State) : Host.Outcome State Fault Refusal :=
  .next (s.writeReg src .TT_ASYM_CTRL 0 0 0 v.toNat)

/-- ASYM_MODEL_WRITE (R209). -/
def execAsymModelWrite (src : Src) (v : Word) (s : State) : Host.Outcome State Fault Refusal :=
  .next (s.writeReg src .TT_ASYM_MODEL 0 0 0 v.toNat)

/-- ACTIVATION_DEACT (R177). -/
def execActivationDeact (src : Src) (v : Word) (s : State) : Host.Outcome State Fault Refusal :=
  .next (s.writeReg src .TC_ACT_CTRL 0 0 0 v.toNat)

/-- ESTOP_CLEAR (R212). -/
def execEstopClear (src : Src) (v : Word) (s : State) : Host.Outcome State Fault Refusal :=
  .next (s.writeReg src .KT_ESTOP 0 0 0 v.toNat)

/-- ALLOC_MAP_WRITE (R222, R226). -/
def execAllocMapWrite (src : Src) (a : Nat) (v : Word) (s : State) : Host.Outcome State Fault Refusal :=
  if a < 512 then .next (s.writeReg src .TM_ALLOC_MAP a 0 0 v.toNat) else .fault .noSuchObject

/-- HOLD_FORCE_START (R250). -/
def execHoldForceStart (src : Src) (v : Word) (s : State) : Host.Outcome State Fault Refusal :=
  .next (s.writeReg src .TM_HOLD_FORCE 0 0 0 v.toNat)

/-- HOLD_FORCE_ABANDON (R250). -/
def execHoldForceAbandon (src : Src) (v : Word) (s : State) : Host.Outcome State Fault Refusal :=
  .next (s.writeReg src .TM_HOLD_FORCE 0 0 0 v.toNat)

/-- TB_INCR_WRITE (R263). -/
def execTbIncrWrite (src : Src) (high : Bool) (v : Word) (s : State) : Host.Outcome State Fault Refusal :=
  .next (s.writeReg src .TB_INCR 0 0 (if high then 4 else 0) v.toNat)

/-- TB_STEP_WRITE (R265). -/
def execTbStepWrite (src : Src) (high : Bool) (v : Word) (s : State) : Host.Outcome State Fault Refusal :=
  .next (s.writeReg src .TB_STEP 0 0 (if high then 4 else 0) v.toNat)

/-- TB_REARM (R266). -/
def execTbRearm (src : Src) (v : Word) (s : State) : Host.Outcome State Fault Refusal :=
  .next (s.writeReg src .TB_CTRL 0 0 0 v.toNat)

/-- PPS_OUT_NEXT_WRITE (R282). -/
def execPpsOutNextWrite (src : Src) (v : Word) (s : State) : Host.Outcome State Fault Refusal :=
  .next (s.writeReg src .TB_PPSOUT_NEXT 0 0 0 v.toNat)

/-- TOD_COMMIT (R294). -/
def execTodCommit (src : Src) (v : Word) (s : State) : Host.Outcome State Fault Refusal :=
  .next (s.writeReg src .TT_TOD_INFO 0 0 0 v.toNat)

/-- HOLDOVER_MODEL_RESET (R312). -/
def execHoldoverModelReset (src : Src) (v : Word) (s : State) : Host.Outcome State Fault Refusal :=
  .next (s.writeReg src .TT_HO_CTRL 0 0 0 v.toNat)

/-- BC_ID_WRITE (R307). -/
def execBcIdWrite (src : Src) (high : Bool) (v : Word) (s : State) : Host.Outcome State Fault Refusal :=
  .next (s.writeReg src .TT_BC_ID 0 0 (if high then 4 else 0) v.toNat)

/-- LANE_CTRL_WRITE (R327). -/
def execLaneCtrlWrite (src : Src) (p : Nat) (v : Word) (s : State) : Host.Outcome State Fault Refusal :=
  if p < 144 then .next (s.writeReg src .LN_CTRL p 0 0 v.toNat) else .fault .noSuchObject

/-- PRBS_GEN_WRITE (R341, R342). -/
def execPrbsGenWrite (src : Src) (p : Nat) (v : Word) (s : State) : Host.Outcome State Fault Refusal :=
  if p < 144 then .next (s.writeReg src .LN_PRBS_CTRL p 0 0 v.toNat) else .fault .noSuchObject

/-- PRBS_CHK_WRITE (R341, R343). -/
def execPrbsChkWrite (src : Src) (p : Nat) (v : Word) (s : State) : Host.Outcome State Fault Refusal :=
  if p < 144 then .next (s.writeReg src .LN_PRBS_CTRL p 0 0 v.toNat) else .fault .noSuchObject

/-- PRBS_INJECT_ONE (R344). -/
def execPrbsInjectOne (src : Src) (p : Nat) (v : Word) (s : State) : Host.Outcome State Fault Refusal :=
  if p < 144 then .next (s.writeReg src .LN_PRBS_CTRL p 0 0 v.toNat) else .fault .noSuchObject

/-- PRBS_INJECT_HDR (R344). -/
def execPrbsInjectHdr (src : Src) (p : Nat) (v : Word) (s : State) : Host.Outcome State Fault Refusal :=
  if p < 144 then .next (s.writeReg src .LN_PRBS_CTRL p 0 0 v.toNat) else .fault .noSuchObject

/-- RULE_SET_SWAP (R393). -/
def execRuleSetSwap (src : Src) (v : Word) (s : State) : Host.Outcome State Fault Refusal :=
  .next (s.writeReg src .SV_RS_CTRL 0 0 0 v.toNat)

/-- SV_EM_WORD_WRITE (R391). -/
def execSvEmWordWrite (src : Src) (k : Nat) (high : Bool) (v : Word) (s : State) : Host.Outcome State Fault Refusal :=
  if k < 8 then .next (s.writeReg src .SV_EM_WORD 0 k (if high then 4 else 0) v.toNat) else .fault .noSuchObject

/-- SV_TR_WORD_WRITE (R392, R395). -/
def execSvTrWordWrite (src : Src) (set k : Nat) (high : Bool) (v : Word) (s : State) : Host.Outcome State Fault Refusal :=
  if set < 2 ∧ k < 8 then .next (s.writeReg src .SV_TR_WORD set k (if high then 4 else 0) v.toNat) else .fault .noSuchObject

/-- SV_ACT_WORD_WRITE (R397). -/
def execSvActWordWrite (src : Src) (high : Bool) (v : Word) (s : State) : Host.Outcome State Fault Refusal :=
  .next (s.writeReg src .SV_ACT_WORD 0 0 (if high then 4 else 0) v.toNat)

/-- WHISK_SEED_WRITE (R403). -/
def execWhiskSeedWrite (src : Src) (high : Bool) (v : Word) (s : State) : Host.Outcome State Fault Refusal :=
  .next (s.writeReg src .SV_WHISK_SEED 0 0 (if high then 4 else 0) v.toNat)

/-- LD_RESERVE_WRITE (R421). -/
def execLdReserveWrite (src : Src) (r p : Nat) (cap : Bool) (v : Word) (s : State) : Host.Outcome State Fault Refusal :=
  if r < 256 ∧ p < 4 then .next (s.writeReg src (if cap then .LD_REQ_CAP else .LD_REQ_RSV) r p 0 v.toNat) else .fault .noSuchObject

/-- LEDGER_LOOKUP (R425, R437). -/
def execLedgerLookup (src : Src) (high : Bool) (v : Word) (s : State) : Host.Outcome State Fault Refusal :=
  .next (s.writeReg src .LD_LOOK 0 0 (if high then 4 else 0) v.toNat)

/-- SHAPER_SELECT (R451). -/
def execShaperSelect (src : Src) (v : Word) (s : State) : Host.Outcome State Fault Refusal :=
  .next (s.writeReg src .TM_SHP_SEL 0 0 0 v.toNat)

/-- SHAPER_COMMIT (R451). -/
def execShaperCommit (src : Src) (v : Word) (s : State) : Host.Outcome State Fault Refusal :=
  .next (s.writeReg src .TM_SHP_CTRL 0 0 0 v.toNat)

/-- POLICER_SELECT (R454). -/
def execPolicerSelect (src : Src) (v : Word) (s : State) : Host.Outcome State Fault Refusal :=
  .next (s.writeReg src .TM_POL_SEL 0 0 0 v.toNat)

/-- POLICER_COMMIT (R454). -/
def execPolicerCommit (src : Src) (v : Word) (s : State) : Host.Outcome State Fault Refusal :=
  .next (s.writeReg src .TM_POL_CTRL 0 0 0 v.toNat)

/-- CIPHER_LANE_REVIVE (R467). -/
def execCipherLaneRevive (src : Src) (l : Nat) (v : Word) (s : State) : Host.Outcome State Fault Refusal :=
  if l < 12 then .next (s.writeReg src .CX_LANE_CTRL l 0 0 v.toNat) else .fault .noSuchObject

/-- PON_KEY_GENERATE (R475). -/
def execPonKeyGenerate (src : Src) (v : Word) (s : State) : Host.Outcome State Fault Refusal :=
  .next (s.writeReg src .CX_PON_GEN 0 0 0 v.toNat)

/-- BLOB_SUBMIT (R487). -/
def execBlobSubmit (src : Src) (v : Word) (s : State) : Host.Outcome State Fault Refusal :=
  .next (s.writeReg src .CX_BLOB_GO 0 0 0 v.toNat)

/-- SC_CLEAR (R478). -/
def execScClear (src : Src) (c : Nat) (v : Word) (s : State) : Host.Outcome State Fault Refusal :=
  if c < 1024 then .next (s.writeReg src .CX_SC_CFG c 0 0 v.toNat) else .fault .noSuchObject

/-- SC_PN_WRITE (R478). -/
def execScPnWrite (src : Src) (c : Nat) (high : Bool) (v : Word) (s : State) : Host.Outcome State Fault Refusal :=
  if c < 1024 then .next (s.writeReg src .CX_SC_PN c 0 (if high then 4 else 0) v.toNat) else .fault .noSuchObject

/-- KEK_CLEAR (R484). -/
def execKekClear (src : Src) (high : Bool) (v : Word) (s : State) : Host.Outcome State Fault Refusal :=
  .next (s.writeReg src .CX_KEK_CLEAR 0 0 (if high then 4 else 0) v.toNat)

/-- VOTE_HOST_WRITE (R498). -/
def execVoteHostWrite (src : Src) (v : Word) (s : State) : Host.Outcome State Fault Refusal :=
  .next (s.writeReg src .PW_VOTE_HOST 0 0 0 v.toNat)

/-- VOTE_SERIAL_WRITE (R498). -/
def execVoteSerialWrite (src : Src) (v : Word) (s : State) : Host.Outcome State Fault Refusal :=
  .next (s.writeReg src .PW_VOTE_SER 0 0 0 v.toNat)

/-- TIMEKEEP_REQUEST (R517). -/
def execTimekeepRequest (src : Src) (v : Word) (s : State) : Host.Outcome State Fault Refusal :=
  .next (s.writeReg src .PW_CTRL 0 0 0 v.toNat)

/-- TIMEKEEP_EXIT_REQUEST (R520). -/
def execTimekeepExitRequest (src : Src) (v : Word) (s : State) : Host.Outcome State Fault Refusal :=
  .next (s.writeReg src .PW_CTRL 0 0 0 v.toNat)

/-- PROXY_READ (R534). -/
def execProxyRead (src : Src) (v : Word) (s : State) : Host.Outcome State Fault Refusal :=
  .next (s.writeReg src .MG_PROXY_CTRL 0 0 0 v.toNat)

/-- PROXY_WRITE (R534). -/
def execProxyWrite (src : Src) (v : Word) (s : State) : Host.Outcome State Fault Refusal :=
  .next (s.writeReg src .MG_PROXY_CTRL 0 0 0 v.toNat)

/-- DELEGATION_WRITE (R532). -/
def execDelegationWrite (src : Src) (v : Word) (s : State) : Host.Outcome State Fault Refusal :=
  .next (s.writeReg src .MG_DELEG 0 0 0 v.toNat)

/-- RING_ENABLE_WRITE (R548). -/
def execRingEnableWrite (src : Src) (v : Word) (s : State) : Host.Outcome State Fault Refusal :=
  .next (s.writeReg src .MG_RING_CTRL 0 0 0 v.toNat)

/-- LATCH_POP (R550). -/
def execLatchPop (src : Src) (v : Word) (s : State) : Host.Outcome State Fault Refusal :=
  .next (s.writeReg src .MG_LATCH_CTRL 0 0 0 v.toNat)

/-- MSIX_UNMASK (R552). -/
def execMsixUnmask (src : Src) (vec : Nat) (v : Word) (s : State) : Host.Outcome State Fault Refusal :=
  if vec < 1024 then .next (s.writeReg src .MG_MSIX_CTRL 0 vec 0 v.toNat) else .fault .noSuchObject

end Sys2Proof.Machine
end

