-- ==== Sys2Proof/Machine/Ports.lean ====
section
/-! DEFINITION. The command ports: host requests to BAR0 and BAR2 (R535 to R538), the management serial port (R539 to R542), and the events'
limit windows, the Kettle latch and the MSI-X vectors (R549 to R552). -/
namespace Sys2Proof.Machine

/-! ## BAR0 (R536) -/

/-- One DW of a BAR0 request: the state, the word read, and whether its byte enables refused it. -/
def State.bar0One (s : State) (a : Nat) (be : BitVec 4) (w : Option Nat) : State × Word × Bool :=
  if be = 0 then (s, 0, false)
  else if be = 0xF then
    let x := s.access .host a w
    (x.1, BitVec.ofNat 32 x.2.1, false)
  else (s.count ⟨.MG_HOST_CNT, 0, 16⟩, 0xFFFFFFFF, true)

/-- The DWs of a BAR0 request in ascending address order: the state, the words read, and whether any was refused. -/
def State.bar0 (s : State) (a : Nat) : List (BitVec 4) → Option (List Word) → State × List Word × Bool
  | [], _ => (s, [], false)
  | be :: r, ws =>
    let x := s.bar0One a be (ws.map (fun l => (l.headD 0).toNat))
    let y := x.1.bar0 (a + 4) r (ws.map List.tail)
    (y.1, x.2.1 :: y.2.1, x.2.2 || y.2.2)

/-- BAR0_REQUEST (R500, R536): a host request to the control registers from flat offset `addr`, one byte-enable set for each DW; `ws` are
the words of a write. The words of a read are returned. Without power D12 answers nothing. (log 45, DESIGN CHOICE) -/
def execBar0Request (addr : Word) (be : List (BitVec 4)) (ws : Option (List Word)) (s : State) : Host.Outcome State Fault Refusal :=
  if !bit s.boot.powered 12 then .next s
  else
    let a := addr.toNat / 4 * 4
    let x := (s.wakeFor 12).bar0 a be ws
    let s1 := if x.2.2 then x.1.raise 966 [(8, 1), (32, a)] else x.1
    .next (if ws.isSome then s1 else s1.emit (.hostRead x.2.1))

/-! ## BAR2 (R412, R537, R538) -/

/-- The cells that a buffer with a handle takes. -/
def inBuffer (h cell : Nat) : Bool :=
  let i := bits h 0 27
  h ≠ 0 && decide (i ≤ cell ∧ cell < i + poolCells (bits h 38 2))

/-- The packet whose buffer holds a cell: one in a queue, or one that a context holds. (log 46, DEDUCED) -/
def State.packetAt (s : State) (cell : Nat) : Option Packet :=
  match (s.tm.queues.flatMap Prod.snd).find? (fun p => inBuffer p.handle cell) with
  | some p => some p
  | none => (s.pre.ctxs.filterMap (fun e => e.2.pkt)).find? (fun p => inBuffer p.handle cell)

/-- Change the data of the packet whose buffer holds a cell. -/
def State.pokePacket (s : State) (cell : Nat) (f : Packet → Packet) : State :=
  let g := fun (p : Packet) => if inBuffer p.handle cell then f p else p
  { s with tm := { s.tm with queues := s.tm.queues.map (fun e => (e.1, e.2.map g)) }
           pre := { s.pre with ctxs := s.pre.ctxs.map (fun e => (e.1, { e.2 with pkt := e.2.pkt.map g })) } }

/-- The place in its packet's frame of a byte of the packet store. -/
def frameAt (p : Packet) (o : Nat) : Nat := o - 256 * bits p.handle 0 27

/-- The handle of the buffer that stands after a free one on its list (R422): the prefetch first, then what a rebuild put first, those never given out,
and the returned; none for a cell that begins no free buffer, and for the last. (log 12, DESIGN CHOICE) (log 46, DEDUCED) -/
def State.nextFree (s : State) (idx : Nat) : Option Nat :=
  match (List.range 8).findSome? (fun j => (s.bufferNo (j / 2) (j % 2) idx).map fun k => (j / 2, j % 2, k)) with
  | none => none
  | some (p, st, k) =>
    let l := s.flist p st
    let fresh := fun n => if n < s.poolBuffers p then [s.bufferAt p st n] else []
    let order := if l.fresh ≤ k then fresh (s.skipQuar p st s.ld.ledger.length (k + 1)) ++ l.returned
      else ((l.prefetch ++ l.front ++ fresh (s.nextFresh p st) ++ l.returned).dropWhile (· ≠ idx)).drop 1
    if (s.ledger idx).alloc || (s.ledger idx).quar then none else order.head?.map fun c => mkHandle p (s.ledger c).gen c

/-- One byte of an HBM partition as the host reads it: ledger entries, stored packets and the free lists stand where R411, R412, R422 and R425 put
them. (log 46, DEDUCED) -/
def State.hbmByte (s : State) (part o : Nat) : Byte :=
  let plain := Tab.get s.hbm 0 (hbmKey part o)
  if part = 1 then BitVec.ofNat 8 ((s.ledger (o / 4)).word / 256 ^ (o % 4))
  else if part = 0 then
    match s.packetAt (o / 256) with
    | some p => p.data.getD (frameAt p o) plain
    | none =>
      match (if o % 256 < 8 then s.nextFree (o / 256) else none) with
      | some h => BitVec.ofNat 8 (h / 256 ^ (o % 8))
      | none => plain
  else plain

/-- The ledger entry of a word. -/
def ledgerOf (w : Nat) : Ledger :=
  { owner := bits w 0 8, gen := bits w 8 8, pool := bits w 16 2, alloc := bit w 18, quar := bit w 19 }

/-- One byte of an HBM partition written by the host. (log 46, DEDUCED) -/
def State.hbmPoke (s : State) (part o : Nat) (b : Byte) : State :=
  if part = 1 then s.setLedger (o / 4) (ledgerOf (putBits (s.ledger (o / 4)).word (8 * (o % 4)) 8 b.toNat))
  else if part = 0 then
    match s.packetAt (o / 256) with
    | some p =>
      if frameAt p o < p.data.length then s.pokePacket (o / 256) (fun x => { x with data := pokeBytes x.data (frameAt x o) [b] })
      else s.hbmWrite 0 o [b]
    | none => s.hbmWrite 0 o [b]
  else s.hbmWrite part o [b]

/-- Write bytes from an offset on. -/
def State.hbmPokes (s : State) (part o : Nat) : List Byte → State
  | [] => s
  | b :: r => (s.hbmPoke part o b).hbmPokes part (o + 1) r

/-- An offset lies in its partition: of the packet store, in its stack's half. (log 46, DEDUCED) -/
def State.inPartition (s : State) (part o : Nat) : Bool :=
  if part = 0 then decide (o / 256 < 2 ^ 27 ∧ o % 2 ^ 34 < s.partBytes 0 / 2) else decide (o < s.partBytes part)

/-- The domain of the stack that holds an offset. -/
def stackDomain (part o : Nat) : Nat := if part = 0 then cellDomain (o / 256) else interleavedDomain o

/-- BAR2_REQUEST (R537, R538): a host read of `n` bytes, or a write, from BAR2 offset `off`; D12 and the stacks it needs are voted for.
An access beyond its partition reads all-ones or is discarded, and is counted and reported. (log 45, DESIGN CHOICE) -/
def execBar2Request (off : BitVec 32) (n : Nat) (ws : Option (List Byte)) (s : State) : Host.Outcome State Fault Refusal :=
  if !bit s.boot.powered 12 then .next s
  else
    let part := s.rd ⟨.MG_BAR2_WIN, 0, 3⟩
    let o := s.rd ⟨.MG_BAR2_WIN, 8, 5⟩ * 2 ^ 30 + off.toNat
    let k := match ws with | some l => l.length | none => n
    let s0 := s.wakeFor 12
    let ok := (List.range k).all (fun j => s0.inPartition part (o + j))
    if ok then
      let s1 := ([0, k - 1].map (fun j => stackDomain part (o + j))).foldl State.wakeFor s0
      match ws with
      | some l => .next (s1.hbmPokes part o l)
      | none => .next (s1.emit (.hostBytes ((List.range k).map (fun j => s1.hbmByte part (o + j)))))
    else
      let s1 := (s0.count ⟨.MG_HOST_CNT, 16, 16⟩).raise 966 [(8, 2), (32, off.toNat)]
      .next (if ws.isSome then s1 else s1.emit (.hostBytes (List.replicate k 0xFF)))

/-! ## The management serial port (R539 to R542) -/

/-- The serial port answers from boot stage 2 on (R539, R574). (log 47, DEDUCED) -/
def State.serialAnswers (s : State) : Bool := s.boot.inputValid && decide (2 ≤ s.rd Fld.KT_BOOT_STATUS_STAGE)

/-- A write phase is refused (R541): counted, gathered in STATUS, and reported with its cause. -/
def State.serialRefuse (s : State) (cause : Nat) : State :=
  let s1 := s.count (if cause = 1 then ⟨.MG_SER_CNT, 0, 16⟩ else ⟨.MG_SER_CNT, 16, 16⟩)
  (s1.serialNote .serial (if cause = 1 then 2 else 4)).raise 965 [(8, cause)]

/-- The address byte of a phase. -/
def State.serialAddr (s : State) (read : Bool) : Byte := BitVec.ofNat 8 (2 * s.rd Fld.MG_SER_STATUS_ADDR + b2n read)

/-- The cause for which a READ or WRITE is refused, none where it is carried out (R541). (log 47, DEDUCED) -/
def State.serialCheck (s : State) (cmd : Nat) (addr : Word) (most n : Nat) (body : List Byte) (crc : Byte) : Option Nat :=
  if 2 ^ 28 ≤ addr.toNat ∨ addr.toNat % 4 ≠ 0 then some 5
  else if n = 0 ∨ most < n then some 3
  else if crc8 ([s.serialAddr false, BitVec.ofNat 8 cmd] ++ beBytes addr.toNat 4 ++ [BitVec.ofNat 8 n] ++ body) ≠ crc.toNat then some 1
  else none

/-- The STATUS byte (R542). -/
def State.serialStatusByte (s : State) : Byte :=
  BitVec.ofNat 8 (s.cp.serStatus % 32 + b2n s.pow.timekeep * 32 + b2n (!s.cp.latch.isEmpty) * 64 + b2n (s.on Fld.KT_BOOT_STATUS_HOLDING) * 128)

/-- A read phase: STATUS, the words and the CRC are sent, and bits 0 to 4 of STATUS clear. -/
def State.serialSend (s : State) (ws : List Nat) : State :=
  let out := s.serialStatusByte :: ws.flatMap (fun w => beBytes w 4)
  { s with cp := { s.cp with serStatus := 0 } }.emit (.serial (out ++ [BitVec.ofNat 8 (crc8 (s.serialAddr true :: out))]))

/-- Read `n` words, from ascending addresses or from one. -/
def State.serialWords (s : State) (fixed : Bool) (a : Nat) : Nat → State × List Nat
  | 0 => (s, [])
  | n + 1 =>
    let x := s.access .serial a none
    let y := x.1.serialWords fixed (if fixed then a else a + 4) n
    (y.1, x.2.1 :: y.2)

/-- Write words, to ascending addresses or to one. -/
def State.serialPuts (s : State) (fixed : Bool) (a : Nat) : List Word → State
  | [] => s
  | w :: r => (s.access .serial a (some w.toNat)).1.serialPuts fixed (if fixed then a else a + 4) r

/-- READ. -/
def State.serialReadAt (s : State) (fixed : Bool) (addr : Word) (n : BitVec 8) (crc : Byte) : State :=
  if !s.serialAnswers then s
  else match s.serialCheck (if fixed then 0x81 else 0x01) addr 16 n.toNat [] crc with
    | some cause => s.serialRefuse cause
    | none =>
      let x := s.serialWords fixed addr.toNat n.toNat
      x.1.serialSend x.2

/-- WRITE; a phase with fewer words than N ends before its CRC. -/
def State.serialWriteAt (s : State) (fixed : Bool) (addr : Word) (ws : List Word) (n : BitVec 8) (crc : Byte) : State :=
  let l := ws.take n.toNat
  let check := s.serialCheck (if fixed then 0x82 else 0x02) addr 64 n.toNat (l.flatMap (fun w => beBytes w.toNat 4)) crc
  if !s.serialAnswers then s
  else if (check = none ∨ check = some 1) ∧ ws.length < n.toNat then s.serialRefuse 4
  else match check with
    | some cause => s.serialRefuse cause
    | none => s.serialPuts fixed addr.toNat l

/-- SERIAL_READ: command 0x01. (log 47, DEDUCED) -/
def execSerialRead (addr : Word) (n : BitVec 8) (crc : Byte) (s : State) : Host.Outcome State Fault Refusal :=
  .next (s.serialReadAt false addr n crc)

/-- SERIAL_READ_FIXED: command 0x81. -/
def execSerialReadFixed (addr : Word) (n : BitVec 8) (crc : Byte) (s : State) : Host.Outcome State Fault Refusal :=
  .next (s.serialReadAt true addr n crc)

/-- SERIAL_WRITE: command 0x02. -/
def execSerialWrite (addr : Word) (ws : List Word) (n : BitVec 8) (crc : Byte) (s : State) : Host.Outcome State Fault Refusal :=
  .next (s.serialWriteAt false addr ws n crc)

/-- SERIAL_WRITE_FIXED: command 0x82. -/
def execSerialWriteFixed (addr : Word) (ws : List Word) (n : BitVec 8) (crc : Byte) (s : State) : Host.Outcome State Fault Refusal :=
  .next (s.serialWriteAt true addr ws n crc)

/-- SERIAL_STATUS: command 0x03; a command byte that R540 does not list is refused. One that it lists for another row is not this command's,
and nothing happens. -/
def execSerialStatus (cmd : Byte) (crc : Byte) (s : State) : Host.Outcome State Fault Refusal :=
  if !s.serialAnswers || cmd = 0x01 || cmd = 0x81 || cmd = 0x02 || cmd = 0x82 then .next s
  else if cmd ≠ 0x03 then .next (s.serialRefuse 2)
  else if crc8 [s.serialAddr false, cmd] ≠ crc.toNat then .next (s.serialRefuse 1)
  else .next (s.serialSend [])

/-- SERIAL_WRITE_PHASE_ABANDONED (R541): cause 4. -/
def execSerialWritePhaseAbandoned (s : State) : Host.Outcome State Fault Refusal :=
  .next (if s.serialAnswers then s.serialRefuse 4 else s)

/-! ## Event windows, the latch and the vectors (R549, R550, R552) -/

/-- EVENT_WINDOW_CLOSE (R549): the window of an event closes 1 s after it opened, or the minute of R287 and R288; what it accumulated is written as one record, which opens the next. `rate` names
the window of RATE, otherwise that of the chapter's own limit for `obj`. (log 36, DEDUCED) -/
def execEventWindowClose (ev obj : Nat) (rate : Bool) (s : State) : Host.Outcome State Fault Refusal :=
  if 1024 ≤ ev then .fault .noSuchObject
  else
    let k := windowKey rate ev (if rate then 0 else obj)
    let w := Tab.get s.cp.windows {} k
    let put := fun (x : EvWindow) => { s with cp := { s.cp with windows := Tab.set s.cp.windows {} k x } }
    if !w.isOpen || s.ns64 < w.openAt + windowTime rate ev then .next s
    else match w.first with
      | some r =>
        if w.acc = 0 || !s.on Fld.MG_EVT_CFG_EN 0 ev then .next (put {})
        else
          let s1 := put { isOpen := true, openAt := s.ns64, wrote := 1 }
          let r1 := { r with count := min w.acc 255 }
          .next (if rate then s1.record r1 else s1.rateLimit r1)
      | none => .next (put {})

/-- EventLatchOverflow (963), with the lost count, before the next record passed on (R550). -/
def State.latchOverflow (s : State) : State :=
  if s.cp.latchLost = 0 then s
  else
    let r : EvRecord := { ev := 963, count := 1, tsv := s.tsValid, ns := s.ns, payload := BitVec.ofNat 64 (s.cp.latchLost % 2 ^ 32) }
    let s1 := if s.on Fld.MG_EVT_CFG_EN 0 963 then s.ringWrite r else s
    { s1 with cp := { s1.cp with latchLost := 0 } }

/-- LATCH_DRAIN (R550): the oldest record of the Kettle latch passes to the ring, once D12 is awake and the ring has room. -/
def execLatchDrain (s : State) : Host.Outcome State Fault Refusal :=
  if s.asleep 12 || !s.on Fld.MG_RING_CTRL_EN || !s.ringRoom then .next s
  else match s.cp.latch with
    | [] => .next s
    | r :: rest =>
      let s1 := s.latchOverflow
      if s1.ringRoom then
        let s2 := { s1 with cp := { s1.cp with latch := rest } }
        .next (s2.ringWrite r).settle
      else .next s1

/-- MSIX_INTERVAL_EXPIRY (R552): ITVL after its first pending record, a vector sends its message. -/
def execMsixIntervalExpiry (vec : Nat) (s : State) : Host.Outcome State Fault Refusal :=
  if 1024 ≤ vec then .fault .noSuchObject
  else if s.asleep 12 || Tab.get s.cp.vecPend 0 vec = 0 || s.rd Fld.MG_VEC_MOD_ITVL 0 vec = 0
    || s.ns64 < Tab.get s.cp.vecAt 0 vec + 1000 * s.rd Fld.MG_VEC_MOD_ITVL 0 vec then .next s
  else .next (s.sendVector vec)

end Sys2Proof.Machine
end

