-- ==== Sys2Proof/Machine/Single.lean ====
section
/-! DEFINITION. The single step of an engine (R50, R73): the instruction word at the pc of the next Ready context is fetched, decoded and
issued. -/
namespace Sys2Proof.Machine

/-- The meaning of a decoded Preoth instruction. -/
def issueDecoded (i : Instr) (s : State) : Host.Outcome State Fault Refusal :=
  match i with
  | .nop a => execNop a s
  | .add a rd ra rb => execAdd a rd ra rb s
  | .sub a rd ra rb => execSub a rd ra rb s
  | .andR a rd ra rb => execAndR a rd ra rb s
  | .orR a rd ra rb => execOrR a rd ra rb s
  | .xorR a rd ra rb => execXorR a rd ra rb s
  | .shl a rd ra rb => execShl a rd ra rb s
  | .shr a rd ra rb => execShr a rd ra rb s
  | .sar a rd ra rb => execSar a rd ra rb s
  | .mul a rd ra rb => execMul a rd ra rb s
  | .mulhu a rd ra rb => execMulhu a rd ra rb s
  | .divu a rd ra rb => execDivu a rd ra rb s
  | .remu a rd ra rb => execRemu a rd ra rb s
  | .cmp a ra rb => execCmp a ra rb s
  | .sel a rd ra rb cond => execSel a rd ra rb cond s
  | .addi a rd ra imm => execAddi a rd ra imm s
  | .andi a rd ra imm => execAndi a rd ra imm s
  | .ori a rd ra imm => execOri a rd ra imm s
  | .xori a rd ra imm => execXori a rd ra imm s
  | .shli a rd ra n => execShli a rd ra n s
  | .shri a rd ra n => execShri a rd ra n s
  | .sari a rd ra n => execSari a rd ra n s
  | .cmpi a ra imm => execCmpi a ra imm s
  | .kset a rd imm => execKset a rd imm s
  | .kcat a rd imm => execKcat a rd imm s
  | .extZ a rd ra lsb wm1 => execExtZ a rd ra lsb wm1 s
  | .exts a rd ra lsb wm1 => execExts a rd ra lsb wm1 s
  | .insB a rd ra lsb wm1 => execInsB a rd ra lsb wm1 s
  | .cnt a rd ra fn => execCnt a rd ra fn s
  | .bswap a rd ra fn => execBswap a rd ra fn s
  | .reservedOpcode a w => execReservedOpcode a w s
  | .ld a rd ra sp sz off err => execLd a rd ra sp sz off err s
  | .lds a rd ra sp sz off err => execLds a rd ra sp sz off err s
  | .st a rs ra sp sz off => execSt a rs ra sp sz off s
  | .aadd a rd ra sp sz off err => execAadd a rd ra sp sz off err s
  | .cas a rd ra rb sp err => execCas a rd ra rb sp err s
  | .fence a => execFence a s
  | .mfs a rd sr => execMfs a rd sr s
  | .mts a sr ra => execMts a sr ra s
  | .beq a ra rb off => execBeq a ra rb off s
  | .bne a ra rb off => execBne a ra rb off s
  | .blt a ra rb off => execBlt a ra rb off s
  | .bge a ra rb off => execBge a ra rb off s
  | .bltu a ra rb off => execBltu a ra rb off s
  | .bgeu a ra rb off => execBgeu a ra rb off s
  | .bc a cond off => execBc a cond off s
  | .j a off => execJ a off s
  | .call a off => execCall a off s
  | .jr a ra => execJr a ra s
  | .jalr a rd ra => execJalr a rd ra s
  | .eret a => execEret a s
  | .send a rd ra rb len => execSend a rd ra rb len s
  | .recv a rd ra rb => execRecv a rd ra rb s
  | .twait a ra => execTwait a ra s
  | .timeNow a rd => execTimeNow a rd s
  | .creg a rd ra => execCreg a rd ra s
  | .cwr a ra rb => execCwr a ra rb s
  | .sysTrap a imm => execSysTrap a imm s
  | .yield a => execYield a s
  | .halt a => execHalt a s
  | .unknownHcall a rd ra n => execUnknownHcall a rd ra n s
  | .pktNext a rd ra => execPktNext a rd ra s
  | .pktSend a rd ra => execPktSend a rd ra s
  | .pktDrop a rd ra => execPktDrop a rd ra s
  | .pktRecirc a rd ra => execPktRecirc a rd ra s
  | .pktDup a rd ra => execPktDup a rd ra s
  | .pktEmit a rd ra => execPktEmit a rd ra s
  | .ldAlloc a rd ra => execLdAlloc a rd ra s
  | .ldFree a rd ra => execLdFree a rd ra s
  | .svLookup a rd ra => execSvLookup a rd ra s
  | .svFlowstat a rd ra => execSvFlowstat a rd ra s
  | .tmDepth a rd ra => execTmDepth a rd ra s
  | .tmDelay a rd ra => execTmDelay a rd ra s
  | .cxUnwrap a rd ra => execCxUnwrap a rd ra s
  | .cxPnleft a rd ra => execCxPnleft a rd ra s
  | .tbTimer a rd ra => execTbTimer a rd ra s
  | .tbCancel a rd ra => execTbCancel a rd ra s
  | .pwVote a rd ra => execPwVote a rd ra s
  | .pwUnvote a rd ra => execPwUnvote a rd ra s
  | .pwNext a rd ra => execPwNext a rd ra s
  | .authNarrow a rd ra => execAuthNarrow a rd ra s
  | .evRaise a rd ra => execEvRaise a rd ra s
  | .gtEdge a rd ra => execGtEdge a rd ra s
  | .gtFlush a rd ra => execGtFlush a rd ra s
  | _ => .next s

/-- ENGINE_SINGLE_STEP (R73): PR_ENG_CTRL is written; in single mode a STEP lets one instruction issue. (log 25, DESIGN CHOICE) -/
def execEngineSingleStep (src : Src) (e : Nat) (v : Word) (s : State) : Host.Outcome State Fault Refusal :=
  if 128 ≤ e then .fault .noSuchObject
  else
    let s1 := s.regWrite src (Reg.addr .PR_ENG_CTRL e 0) v.toNat
    if !(s1.eng e).stepDue then .next s1
    else match s1.nextTurn e with
      | none => .next s1
      | some (c, _) =>
        let w := Tab.get (s1.eng e).imem 0 ((s1.ctx c).cpu.pc.toNat / 4)
        issueDecoded (decodeWord (.ctx c) w) s1

end Sys2Proof.Machine
end

