-- ==== Sys2Proof/Machine/Dispatch.lean ====
section
/-! DEFINITION. The dispatch: one arm for each command, a direct call of its meaning. -/
namespace Sys2Proof.Machine

def exec (i : Instr) (s : State) : Host.Outcome State Fault Refusal :=
  match i with
  | .registerWrite src addr v => Sys2Proof.Machine.execRegisterWrite src addr v s
  | .clearOnReadRead src addr => Sys2Proof.Machine.execClearOnReadRead src addr s
  | .counterLowWordRead src addr => Sys2Proof.Machine.execCounterLowWordRead src addr s
  | .resultSlotStatusRead src addr => Sys2Proof.Machine.execResultSlotStatusRead src addr s
  | .inputValid hold ser => Sys2Proof.Machine.execInputValid hold ser s
  | .powerRemoval => Sys2Proof.Machine.execPowerRemoval s
  | .bootStageComplete r => Sys2Proof.Machine.execBootStageComplete r s
  | .bootGo src v => Sys2Proof.Machine.execBootGo src v s
  | .warmResetRequest src v => Sys2Proof.Machine.execWarmResetRequest src v s
  | .coldResetRequest src v => Sys2Proof.Machine.execColdResetRequest src v s
  | .pcieReset => Sys2Proof.Machine.execPcieReset s
  | .hostLinkChange up speed width => Sys2Proof.Machine.execHostLinkChange up speed width s
  | .watchdogFeed src v => Sys2Proof.Machine.execWatchdogFeed src v s
  | .kettleWatchdogExpired => Sys2Proof.Machine.execKettleWatchdogExpired s
  | .siteVendorWrite src v => Sys2Proof.Machine.execSiteVendorWrite src v s
  | .siteSerialWrite src v => Sys2Proof.Machine.execSiteSerialWrite src v s
  | .siteLockWrite src v => Sys2Proof.Machine.execSiteLockWrite src v s
  | .rootKeyProgram src v => Sys2Proof.Machine.execRootKeyProgram src v s
  | .rootKeyProgramDone ok => Sys2Proof.Machine.execRootKeyProgramDone ok s
  | .rootStagingTimeout => Sys2Proof.Machine.execRootStagingTimeout s
  | .ovenFirstStable dev heater => Sys2Proof.Machine.execOvenFirstStable dev heater s
  | .ovenStabilityTimeout dev heater => Sys2Proof.Machine.execOvenStabilityTimeout dev heater s
  | .ovenBandChange inBand dev heater => Sys2Proof.Machine.execOvenBandChange inBand dev heater s
  | .nop a => Sys2Proof.Machine.execNop a s
  | .add a rd ra rb => Sys2Proof.Machine.execAdd a rd ra rb s
  | .sub a rd ra rb => Sys2Proof.Machine.execSub a rd ra rb s
  | .andR a rd ra rb => Sys2Proof.Machine.execAndR a rd ra rb s
  | .orR a rd ra rb => Sys2Proof.Machine.execOrR a rd ra rb s
  | .xorR a rd ra rb => Sys2Proof.Machine.execXorR a rd ra rb s
  | .shl a rd ra rb => Sys2Proof.Machine.execShl a rd ra rb s
  | .shr a rd ra rb => Sys2Proof.Machine.execShr a rd ra rb s
  | .sar a rd ra rb => Sys2Proof.Machine.execSar a rd ra rb s
  | .mul a rd ra rb => Sys2Proof.Machine.execMul a rd ra rb s
  | .mulhu a rd ra rb => Sys2Proof.Machine.execMulhu a rd ra rb s
  | .divu a rd ra rb => Sys2Proof.Machine.execDivu a rd ra rb s
  | .remu a rd ra rb => Sys2Proof.Machine.execRemu a rd ra rb s
  | .cmp a ra rb => Sys2Proof.Machine.execCmp a ra rb s
  | .sel a rd ra rb cond => Sys2Proof.Machine.execSel a rd ra rb cond s
  | .addi a rd ra imm => Sys2Proof.Machine.execAddi a rd ra imm s
  | .andi a rd ra imm => Sys2Proof.Machine.execAndi a rd ra imm s
  | .ori a rd ra imm => Sys2Proof.Machine.execOri a rd ra imm s
  | .xori a rd ra imm => Sys2Proof.Machine.execXori a rd ra imm s
  | .shli a rd ra n => Sys2Proof.Machine.execShli a rd ra n s
  | .shri a rd ra n => Sys2Proof.Machine.execShri a rd ra n s
  | .sari a rd ra n => Sys2Proof.Machine.execSari a rd ra n s
  | .cmpi a ra imm => Sys2Proof.Machine.execCmpi a ra imm s
  | .kset a rd imm => Sys2Proof.Machine.execKset a rd imm s
  | .kcat a rd imm => Sys2Proof.Machine.execKcat a rd imm s
  | .extZ a rd ra lsb wm1 => Sys2Proof.Machine.execExtZ a rd ra lsb wm1 s
  | .exts a rd ra lsb wm1 => Sys2Proof.Machine.execExts a rd ra lsb wm1 s
  | .insB a rd ra lsb wm1 => Sys2Proof.Machine.execInsB a rd ra lsb wm1 s
  | .cnt a rd ra fn => Sys2Proof.Machine.execCnt a rd ra fn s
  | .bswap a rd ra fn => Sys2Proof.Machine.execBswap a rd ra fn s
  | .reservedOpcode a w => Sys2Proof.Machine.execReservedOpcode a w s
  | .ld a rd ra sp sz off err => Sys2Proof.Machine.execLd a rd ra sp sz off err s
  | .lds a rd ra sp sz off err => Sys2Proof.Machine.execLds a rd ra sp sz off err s
  | .st a rs ra sp sz off => Sys2Proof.Machine.execSt a rs ra sp sz off s
  | .aadd a rd ra sp sz off err => Sys2Proof.Machine.execAadd a rd ra sp sz off err s
  | .cas a rd ra rb sp err => Sys2Proof.Machine.execCas a rd ra rb sp err s
  | .fence a => Sys2Proof.Machine.execFence a s
  | .mfs a rd sr => Sys2Proof.Machine.execMfs a rd sr s
  | .mts a sr ra => Sys2Proof.Machine.execMts a sr ra s
  | .beq a ra rb off => Sys2Proof.Machine.execBeq a ra rb off s
  | .bne a ra rb off => Sys2Proof.Machine.execBne a ra rb off s
  | .blt a ra rb off => Sys2Proof.Machine.execBlt a ra rb off s
  | .bge a ra rb off => Sys2Proof.Machine.execBge a ra rb off s
  | .bltu a ra rb off => Sys2Proof.Machine.execBltu a ra rb off s
  | .bgeu a ra rb off => Sys2Proof.Machine.execBgeu a ra rb off s
  | .bc a cond off => Sys2Proof.Machine.execBc a cond off s
  | .j a off => Sys2Proof.Machine.execJ a off s
  | .call a off => Sys2Proof.Machine.execCall a off s
  | .jr a ra => Sys2Proof.Machine.execJr a ra s
  | .jalr a rd ra => Sys2Proof.Machine.execJalr a rd ra s
  | .eret a => Sys2Proof.Machine.execEret a s
  | .send a rd ra rb len => Sys2Proof.Machine.execSend a rd ra rb len s
  | .recv a rd ra rb => Sys2Proof.Machine.execRecv a rd ra rb s
  | .twait a ra => Sys2Proof.Machine.execTwait a ra s
  | .timeNow a rd => Sys2Proof.Machine.execTimeNow a rd s
  | .creg a rd ra => Sys2Proof.Machine.execCreg a rd ra s
  | .cwr a ra rb => Sys2Proof.Machine.execCwr a ra rb s
  | .sysTrap a imm => Sys2Proof.Machine.execSysTrap a imm s
  | .yield a => Sys2Proof.Machine.execYield a s
  | .halt a => Sys2Proof.Machine.execHalt a s
  | .steplimitTrap c cost => Sys2Proof.Machine.execSteplimitTrap c cost s
  | .memoryAccessComplete a => Sys2Proof.Machine.execMemoryAccessComplete a s
  | .postedStoreComplete a => Sys2Proof.Machine.execPostedStoreComplete a s
  | .twaitExpiry a => Sys2Proof.Machine.execTwaitExpiry a s
  | .recvMessageTaken a => Sys2Proof.Machine.execRecvMessageTaken a s
  | .recvDeadline a => Sys2Proof.Machine.execRecvDeadline a s
  | .sendStatusReturn c => Sys2Proof.Machine.execSendStatusReturn c s
  | .hcallComplete a => Sys2Proof.Machine.execHcallComplete a s
  | .unknownHcall a rd ra n => Sys2Proof.Machine.execUnknownHcall a rd ra n s
  | .pktNext a rd ra => Sys2Proof.Machine.execPktNext a rd ra s
  | .packetDelivery e => Sys2Proof.Machine.execPacketDelivery e s
  | .pktSend a rd ra => Sys2Proof.Machine.execPktSend a rd ra s
  | .pktDrop a rd ra => Sys2Proof.Machine.execPktDrop a rd ra s
  | .pktRecirc a rd ra => Sys2Proof.Machine.execPktRecirc a rd ra s
  | .pktDup a rd ra => Sys2Proof.Machine.execPktDup a rd ra s
  | .pktEmit a rd ra => Sys2Proof.Machine.execPktEmit a rd ra s
  | .ldAlloc a rd ra => Sys2Proof.Machine.execLdAlloc a rd ra s
  | .ldFree a rd ra => Sys2Proof.Machine.execLdFree a rd ra s
  | .svLookup a rd ra => Sys2Proof.Machine.execSvLookup a rd ra s
  | .svFlowstat a rd ra => Sys2Proof.Machine.execSvFlowstat a rd ra s
  | .tmDepth a rd ra => Sys2Proof.Machine.execTmDepth a rd ra s
  | .tmDelay a rd ra => Sys2Proof.Machine.execTmDelay a rd ra s
  | .cxUnwrap a rd ra => Sys2Proof.Machine.execCxUnwrap a rd ra s
  | .cxPnleft a rd ra => Sys2Proof.Machine.execCxPnleft a rd ra s
  | .tbTimer a rd ra => Sys2Proof.Machine.execTbTimer a rd ra s
  | .tbCancel a rd ra => Sys2Proof.Machine.execTbCancel a rd ra s
  | .pwVote a rd ra => Sys2Proof.Machine.execPwVote a rd ra s
  | .pwUnvote a rd ra => Sys2Proof.Machine.execPwUnvote a rd ra s
  | .pwNext a rd ra => Sys2Proof.Machine.execPwNext a rd ra s
  | .authNarrow a rd ra => Sys2Proof.Machine.execAuthNarrow a rd ra s
  | .evRaise a rd ra => Sys2Proof.Machine.execEvRaise a rd ra s
  | .gtEdge a rd ra => Sys2Proof.Machine.execGtEdge a rd ra s
  | .gtFlush a rd ra => Sys2Proof.Machine.execGtFlush a rd ra s
  | .contextStart src c => Sys2Proof.Machine.execContextStart src c s
  | .contextStop src c => Sys2Proof.Machine.execContextStop src c s
  | .contextReset src c => Sys2Proof.Machine.execContextReset src c s
  | .engineSingleStep src e v => Sys2Proof.Machine.execEngineSingleStep src e v s
  | .prMemDataAccess src e w => Sys2Proof.Machine.execPrMemDataAccess src e w s
  | .prStmDataAccess src w => Sys2Proof.Machine.execPrStmDataAccess src w s
  | .hostMessageGo src e v => Sys2Proof.Machine.execHostMessageGo src e v s
  | .messageArrive n => Sys2Proof.Machine.execMessageArrive n s
  | .timerExpiry c t => Sys2Proof.Machine.execTimerExpiry c t s
  | .pendingMessageRelease n => Sys2Proof.Machine.execPendingMessageRelease n s
  | .engineLoadGo src e v => Sys2Proof.Machine.execEngineLoadGo src e v s
  | .engineLoadComplete e => Sys2Proof.Machine.execEngineLoadComplete e s
  | .gateStart src p v => Sys2Proof.Machine.execGateStart src p v s
  | .gateStop src p v => Sys2Proof.Machine.execGateStop src p v s
  | .gateReset src p v => Sys2Proof.Machine.execGateReset src p v s
  | .gateLoadGo src p v => Sys2Proof.Machine.execGateLoadGo src p v s
  | .gateEdgeApply p => Sys2Proof.Machine.execGateEdgeApply p s
  | .portRerole src p v => Sys2Proof.Machine.execPortRerole src p v s
  | .dsFrame ch f => Sys2Proof.Machine.execDsFrame ch f s
  | .dsFrameSyncLost ch => Sys2Proof.Machine.execDsFrameSyncLost ch s
  | .bondChannelJoined ch => Sys2Proof.Machine.execBondChannelJoined ch s
  | .dsLosChange ch los => Sys2Proof.Machine.execDsLosChange ch los s
  | .dsSignalEval ch => Sys2Proof.Machine.execDsSignalEval ch s
  | .reorderTimeout g => Sys2Proof.Machine.execReorderTimeout g s
  | .dsModeWrite src v => Sys2Proof.Machine.execDsModeWrite src v s
  | .dsGroupCapWrite src g v => Sys2Proof.Machine.execDsGroupCapWrite src g v s
  | .snapshotArm src ch v => Sys2Proof.Machine.execSnapshotArm src ch v s
  | .ploamDelivery => Sys2Proof.Machine.execPloamDelivery s
  | .burstProfile mic m n rate fec guard preamble delim => Sys2Proof.Machine.execBurstProfile mic m n rate fec guard preamble delim s
  | .assignOnuId mic onu vendor serial => Sys2Proof.Machine.execAssignOnuId mic onu vendor serial s
  | .rangingTime mic eqd => Sys2Proof.Machine.execRangingTime mic eqd s
  | .deactivateOnuId mic onu => Sys2Proof.Machine.execDeactivateOnuId mic onu s
  | .disableSerialNumber mic vendor serial => Sys2Proof.Machine.execDisableSerialNumber mic vendor serial s
  | .enableSerialNumber mic target => Sys2Proof.Machine.execEnableSerialNumber mic target s
  | .requestRegistration mic => Sys2Proof.Machine.execRequestRegistration mic s
  | .assignAllocId mic id assign => Sys2Proof.Machine.execAssignAllocId mic id assign s
  | .keyControl mic idx => Sys2Proof.Machine.execKeyControl mic idx s
  | .sleepAllow mic mode => Sys2Proof.Machine.execSleepAllow mic mode s
  | .hello mic body => Sys2Proof.Machine.execHello mic body s
  | .bondset mic body => Sys2Proof.Machine.execBondset mic body s
  | .memberack mic body => Sys2Proof.Machine.execMemberack mic body s
  | .pairrange mic body => Sys2Proof.Machine.execPairrange mic body s
  | .pairresult mic body => Sys2Proof.Machine.execPairresult mic body s
  | .predictset mic body => Sys2Proof.Machine.execPredictset mic body s
  | .membershipRepeat => Sys2Proof.Machine.execMembershipRepeat s
  | .pairRequestPeriod => Sys2Proof.Machine.execPairRequestPeriod s
  | .pairArmTimeout n m => Sys2Proof.Machine.execPairArmTimeout n m s
  | .asymRefit src v => Sys2Proof.Machine.execAsymRefit src v s
  | .asymModelWrite src v => Sys2Proof.Machine.execAsymModelWrite src v s
  | .discoveryWindow sfc start => Sys2Proof.Machine.execDiscoveryWindow sfc start s
  | .rangingGrant m sfc start => Sys2Proof.Machine.execRangingGrant m sfc start s
  | .to1Expiry => Sys2Proof.Machine.execTo1Expiry s
  | .to2Expiry => Sys2Proof.Machine.execTo2Expiry s
  | .activationDeact src v => Sys2Proof.Machine.execActivationDeact src v s
  | .estopClear src v => Sys2Proof.Machine.execEstopClear src v s
  | .wdClear0 src v dark => Sys2Proof.Machine.execWdClear0 src v dark s
  | .wdClear1 src v dark => Sys2Proof.Machine.execWdClear1 src v dark s
  | .burstWatchdogTrip m light => Sys2Proof.Machine.execBurstWatchdogTrip m light s
  | .burstStagingStart m lane mismatch err => Sys2Proof.Machine.execBurstStagingStart m lane mismatch err s
  | .burstStart m fine dry => Sys2Proof.Machine.execBurstStart m fine dry s
  | .burstEnd m => Sys2Proof.Machine.execBurstEnd m s
  | .allocMapWrite src a v => Sys2Proof.Machine.execAllocMapWrite src a v s
  | .holdDetectExpiry a => Sys2Proof.Machine.execHoldDetectExpiry a s
  | .holdMaxExpiry a => Sys2Proof.Machine.execHoldMaxExpiry a s
  | .holdForceStart src v => Sys2Proof.Machine.execHoldForceStart src v s
  | .holdForceAbandon src v => Sys2Proof.Machine.execHoldForceAbandon src v s
  | .tbIncrWrite src high v => Sys2Proof.Machine.execTbIncrWrite src high v s
  | .tbStepWrite src high v => Sys2Proof.Machine.execTbStepWrite src high v s
  | .timebaseStepApply => Sys2Proof.Machine.execTimebaseStepApply s
  | .tbRearm src v => Sys2Proof.Machine.execTbRearm src v s
  | .tbNsRead src => Sys2Proof.Machine.execTbNsRead src s
  | .ppsOutNextWrite src v => Sys2Proof.Machine.execPpsOutNextWrite src v s
  | .ppsOutEdge => Sys2Proof.Machine.execPpsOutEdge s
  | .ppsInEdge fine => Sys2Proof.Machine.execPpsInEdge fine s
  | .ppsInLoss => Sys2Proof.Machine.execPpsInLoss s
  | .todOutSend => Sys2Proof.Machine.execTodOutSend s
  | .todInLine line framing lasted => Sys2Proof.Machine.execTodInLine line framing lasted s
  | .todCommit src v => Sys2Proof.Machine.execTodCommit src v s
  | .holdoverModelReset src v => Sys2Proof.Machine.execHoldoverModelReset src v s
  | .bcIdWrite src high v => Sys2Proof.Machine.execBcIdWrite src high v s
  | .laneCtrlWrite src p v => Sys2Proof.Machine.execLaneCtrlWrite src p v s
  | .laneBlockAligned p bits => Sys2Proof.Machine.execLaneBlockAligned p bits s
  | .laneAlignmentLoss p bits => Sys2Proof.Machine.execLaneAlignmentLoss p bits s
  | .lanePageReceive p bits n => Sys2Proof.Machine.execLanePageReceive p bits n s
  | .lanePageSlot p => Sys2Proof.Machine.execLanePageSlot p s
  | .laneNegTimeout p => Sys2Proof.Machine.execLaneNegTimeout p s
  | .laneRejectTimeout p => Sys2Proof.Machine.execLaneRejectTimeout p s
  | .laneUp p => Sys2Proof.Machine.execLaneUp p s
  | .laneRetryTimeout p => Sys2Proof.Machine.execLaneRetryTimeout p s
  | .laneLinkLoss p => Sys2Proof.Machine.execLaneLinkLoss p s
  | .clientLosChange p los => Sys2Proof.Machine.execClientLosChange p los s
  | .laneRefUnlock g k locked => Sys2Proof.Machine.execLaneRefUnlock g k locked s
  | .laneTxFault p => Sys2Proof.Machine.execLaneTxFault p s
  | .txLpiEnter p => Sys2Proof.Machine.execTxLpiEnter p s
  | .txLpiWake p => Sys2Proof.Machine.execTxLpiWake p s
  | .rxLpiChange p lpi => Sys2Proof.Machine.execRxLpiChange p lpi s
  | .prbsGenWrite src p v => Sys2Proof.Machine.execPrbsGenWrite src p v s
  | .prbsChkWrite src p v => Sys2Proof.Machine.execPrbsChkWrite src p v s
  | .prbsInjectOne src p v => Sys2Proof.Machine.execPrbsInjectOne src p v s
  | .prbsInjectHdr src p v => Sys2Proof.Machine.execPrbsInjectHdr src p v s
  | .prbsCheckerLock p bits => Sys2Proof.Machine.execPrbsCheckerLock p bits s
  | .prbsCheckerLoss p bits => Sys2Proof.Machine.execPrbsCheckerLoss p bits s
  | .clientFrameReceive p f env => Sys2Proof.Machine.execClientFrameReceive p f env s
  | .macTxFrame p env => Sys2Proof.Machine.execMacTxFrame p env s
  | .macResume p env => Sys2Proof.Machine.execMacResume p env s
  | .preemptVerifyTimer p => Sys2Proof.Machine.execPreemptVerifyTimer p s
  | .sievePass port pipe => Sys2Proof.Machine.execSievePass port pipe s
  | .backburnerProcess => Sys2Proof.Machine.execBackburnerProcess s
  | .fragWaitTimeout n => Sys2Proof.Machine.execFragWaitTimeout n s
  | .fragEntryExpiry n => Sys2Proof.Machine.execFragEntryExpiry n s
  | .ruleSetSwap src v => Sys2Proof.Machine.execRuleSetSwap src v s
  | .ruleSetDrained => Sys2Proof.Machine.execRuleSetDrained s
  | .svEmWordWrite src k high v => Sys2Proof.Machine.execSvEmWordWrite src k high v s
  | .svTrWordWrite src set k high v => Sys2Proof.Machine.execSvTrWordWrite src set k high v s
  | .svActWordWrite src high v => Sys2Proof.Machine.execSvActWordWrite src high v s
  | .whiskSeedWrite src high v => Sys2Proof.Machine.execWhiskSeedWrite src high v s
  | .flowstatHostRead src pkts high => Sys2Proof.Machine.execFlowstatHostRead src pkts high s
  | .ladlePrefetchRefill p st damaged err => Sys2Proof.Machine.execLadlePrefetchRefill p st damaged err s
  | .ledgerRebuildDone p st => Sys2Proof.Machine.execLedgerRebuildDone p st s
  | .ldPartitionWrite src k v => Sys2Proof.Machine.execLdPartitionWrite src k v s
  | .ldReserveWrite src r p cap v => Sys2Proof.Machine.execLdReserveWrite src r p cap v s
  | .ledgerLookup src high v => Sys2Proof.Machine.execLedgerLookup src high v s
  | .schedulerDequeue p => Sys2Proof.Machine.execSchedulerDequeue p s
  | .captureWrite k => Sys2Proof.Machine.execCaptureWrite k s
  | .shaperSelect src v => Sys2Proof.Machine.execShaperSelect src v s
  | .shaperCommit src v => Sys2Proof.Machine.execShaperCommit src v s
  | .policerSelect src v => Sys2Proof.Machine.execPolicerSelect src v s
  | .policerCommit src v => Sys2Proof.Machine.execPolicerCommit src v s
  | .loadForecast => Sys2Proof.Machine.execLoadForecast s
  | .cipherLaneRevive src l v => Sys2Proof.Machine.execCipherLaneRevive src l v s
  | .cipherReviveDone l pass => Sys2Proof.Machine.execCipherReviveDone l pass s
  | .ponKeyGenerate src v => Sys2Proof.Machine.execPonKeyGenerate src v s
  | .blobSubmit src v => Sys2Proof.Machine.execBlobSubmit src v s
  | .unwrapComplete => Sys2Proof.Machine.execUnwrapComplete s
  | .scClear src c v => Sys2Proof.Machine.execScClear src c v s
  | .scPnWrite src c high v => Sys2Proof.Machine.execScPnWrite src c high v s
  | .kekClear src high v => Sys2Proof.Machine.execKekClear src high v s
  | .domainEntryComplete d => Sys2Proof.Machine.execDomainEntryComplete d s
  | .domainExitComplete d restored => Sys2Proof.Machine.execDomainExitComplete d restored s
  | .domainWakeTime d => Sys2Proof.Machine.execDomainWakeTime d s
  | .domainDeadlineWake d => Sys2Proof.Machine.execDomainDeadlineWake d s
  | .pickerMessage => Sys2Proof.Machine.execPickerMessage s
  | .voteHostWrite src v => Sys2Proof.Machine.execVoteHostWrite src v s
  | .voteSerialWrite src v => Sys2Proof.Machine.execVoteSerialWrite src v s
  | .saveDataAccess src w => Sys2Proof.Machine.execSaveDataAccess src w s
  | .batteryEnter vin contact => Sys2Proof.Machine.execBatteryEnter vin contact s
  | .batteryLeave vin contact => Sys2Proof.Machine.execBatteryLeave vin contact s
  | .batteryDelayExpiry => Sys2Proof.Machine.execBatteryDelayExpiry s
  | .inputUndervoltage vin => Sys2Proof.Machine.execInputUndervoltage vin s
  | .timekeepRequest src v => Sys2Proof.Machine.execTimekeepRequest src v s
  | .timekeepExitRequest src v => Sys2Proof.Machine.execTimekeepExitRequest src v s
  | .timekeepExitComplete => Sys2Proof.Machine.execTimekeepExitComplete s
  | .governorUpdate floor tj failDom => Sys2Proof.Machine.execGovernorUpdate floor tj failDom s
  | .sleepLowpowerEnd => Sys2Proof.Machine.execSleepLowpowerEnd s
  | .sleepAwareEnd => Sys2Proof.Machine.execSleepAwareEnd s
  | .bar0Request addr be ws => Sys2Proof.Machine.execBar0Request addr be ws s
  | .bar2Request off n ws => Sys2Proof.Machine.execBar2Request off n ws s
  | .serialRead addr n crc => Sys2Proof.Machine.execSerialRead addr n crc s
  | .serialReadFixed addr n crc => Sys2Proof.Machine.execSerialReadFixed addr n crc s
  | .serialWrite addr ws n crc => Sys2Proof.Machine.execSerialWrite addr ws n crc s
  | .serialWriteFixed addr ws n crc => Sys2Proof.Machine.execSerialWriteFixed addr ws n crc s
  | .serialStatus cmd crc => Sys2Proof.Machine.execSerialStatus cmd crc s
  | .serialWritePhaseAbandoned => Sys2Proof.Machine.execSerialWritePhaseAbandoned s
  | .proxyRead src v => Sys2Proof.Machine.execProxyRead src v s
  | .proxyWrite src v => Sys2Proof.Machine.execProxyWrite src v s
  | .delegationWrite src v => Sys2Proof.Machine.execDelegationWrite src v s
  | .ringEnableWrite src v => Sys2Proof.Machine.execRingEnableWrite src v s
  | .eventWindowClose ev obj rate => Sys2Proof.Machine.execEventWindowClose ev obj rate s
  | .latchDrain => Sys2Proof.Machine.execLatchDrain s
  | .latchPop src v => Sys2Proof.Machine.execLatchPop src v s
  | .msixIntervalExpiry vec => Sys2Proof.Machine.execMsixIntervalExpiry vec s
  | .msixUnmask src vec v => Sys2Proof.Machine.execMsixUnmask src vec v s
  | .overTemperature tj => Sys2Proof.Machine.execOverTemperature tj s
  | .thermalTrip dom => Sys2Proof.Machine.execThermalTrip dom s
  | .gateLoadComplete p => Sys2Proof.Machine.execGateLoadComplete p s
  | .hostMessageDone e => Sys2Proof.Machine.execHostMessageDone e s
  | .descramblerSyncLoss p bits => Sys2Proof.Machine.execDescramblerSyncLoss p bits s
  | .frozenGraceExpiry ch => Sys2Proof.Machine.execFrozenGraceExpiry ch s
  | .warningCleared tj => Sys2Proof.Machine.execWarningCleared tj s
  | .inputVoltageRise vin => Sys2Proof.Machine.execInputVoltageRise vin s

end Sys2Proof.Machine
end

