-- ==== Sys2Proof/Safety.lean ====
section
/-! DEFINITION. Safe runs, in the terms that statements use: no step of the run ends in a fault or a refusal. -/
namespace Sys2Proof.Safety

open Sys2Proof.Machine

/-- The state after a run of `n` steps, none where a step stops. -/
def after : Nat → State → Option State
  | 0, s => some s
  | n + 1, s => match step s with
    | .next t => after n t
    | _ => none

/-- A run of `n` steps stops nowhere. -/
def Safe (n : Nat) (s : State) : Prop := (after n s).isSome = true

end Sys2Proof.Safety
end

