-- ==== Sys2Proof/WellFormed.lean ====
section
/-! DEFINITION. Well-formed commands: every operand that names an instance names one that the device has (R20, R23, R104, R139, R318, R411,
R440). An instruction whose encoding R59 does not list is a command all the same: it traps. -/
namespace Sys2Proof

/-- The agent exists: contexts 0 to 1,023 (R23), gate sequencers 0 to 144 (R104). -/
def agentOk : Agent → Bool
  | .ctx c => decide (c < 1024)
  | .gate p => decide (p < 145)

/-- The instances that a command names exist. (log 5, DESIGN CHOICE) -/
def wellFormed (i : Instr) : Bool :=
  match i with
  | .nop a => agentOk a
  | .add a _ _ _ => agentOk a
  | .sub a _ _ _ => agentOk a
  | .andR a _ _ _ => agentOk a
  | .orR a _ _ _ => agentOk a
  | .xorR a _ _ _ => agentOk a
  | .shl a _ _ _ => agentOk a
  | .shr a _ _ _ => agentOk a
  | .sar a _ _ _ => agentOk a
  | .mul a _ _ _ => agentOk a
  | .mulhu a _ _ _ => agentOk a
  | .divu a _ _ _ => agentOk a
  | .remu a _ _ _ => agentOk a
  | .cmp a _ _ => agentOk a
  | .sel a _ _ _ _ => agentOk a
  | .addi a _ _ _ => agentOk a
  | .andi a _ _ _ => agentOk a
  | .ori a _ _ _ => agentOk a
  | .xori a _ _ _ => agentOk a
  | .shli a _ _ _ => agentOk a
  | .shri a _ _ _ => agentOk a
  | .sari a _ _ _ => agentOk a
  | .cmpi a _ _ => agentOk a
  | .kset a _ _ => agentOk a
  | .kcat a _ _ => agentOk a
  | .extZ a _ _ _ _ => agentOk a
  | .exts a _ _ _ _ => agentOk a
  | .insB a _ _ _ _ => agentOk a
  | .cnt a _ _ _ => agentOk a
  | .bswap a _ _ _ => agentOk a
  | .reservedOpcode a _ => agentOk a
  | .ld a _ _ _ _ _ _ => agentOk a
  | .lds a _ _ _ _ _ _ => agentOk a
  | .st a _ _ _ _ _ => agentOk a
  | .aadd a _ _ _ _ _ _ => agentOk a
  | .cas a _ _ _ _ _ => agentOk a
  | .fence a => agentOk a
  | .mfs a _ _ => agentOk a
  | .mts a _ _ => agentOk a
  | .beq a _ _ _ => agentOk a
  | .bne a _ _ _ => agentOk a
  | .blt a _ _ _ => agentOk a
  | .bge a _ _ _ => agentOk a
  | .bltu a _ _ _ => agentOk a
  | .bgeu a _ _ _ => agentOk a
  | .bc a _ _ => agentOk a
  | .j a _ => agentOk a
  | .call a _ => agentOk a
  | .jr a _ => agentOk a
  | .jalr a _ _ => agentOk a
  | .eret a => agentOk a
  | .send a _ _ _ _ => agentOk a
  | .recv a _ _ _ => agentOk a
  | .twait a _ => agentOk a
  | .timeNow a _ => agentOk a
  | .creg a _ _ => agentOk a
  | .cwr a _ _ => agentOk a
  | .sysTrap a _ => agentOk a
  | .yield a => agentOk a
  | .halt a => agentOk a
  | .steplimitTrap c _ => decide (c < 1024)
  | .memoryAccessComplete a => agentOk a
  | .postedStoreComplete a => agentOk a
  | .twaitExpiry a => agentOk a
  | .recvMessageTaken a => agentOk a
  | .recvDeadline a => agentOk a
  | .sendStatusReturn c => decide (c < 1024)
  | .hcallComplete a => agentOk a
  | .unknownHcall a _ _ _ => agentOk a
  | .pktNext a _ _ => agentOk a
  | .packetDelivery e => decide (e < 128)
  | .pktSend a _ _ => agentOk a
  | .pktDrop a _ _ => agentOk a
  | .pktRecirc a _ _ => agentOk a
  | .pktDup a _ _ => agentOk a
  | .pktEmit a _ _ => agentOk a
  | .ldAlloc a _ _ => agentOk a
  | .ldFree a _ _ => agentOk a
  | .svLookup a _ _ => agentOk a
  | .svFlowstat a _ _ => agentOk a
  | .tmDepth a _ _ => agentOk a
  | .tmDelay a _ _ => agentOk a
  | .cxUnwrap a _ _ => agentOk a
  | .cxPnleft a _ _ => agentOk a
  | .tbTimer a _ _ => agentOk a
  | .tbCancel a _ _ => agentOk a
  | .pwVote a _ _ => agentOk a
  | .pwUnvote a _ _ => agentOk a
  | .pwNext a _ _ => agentOk a
  | .authNarrow a _ _ => agentOk a
  | .evRaise a _ _ => agentOk a
  | .gtEdge a _ _ => agentOk a
  | .gtFlush a _ _ => agentOk a
  | .contextStart _ c => decide (c < 1024)
  | .contextStop _ c => decide (c < 1024)
  | .contextReset _ c => decide (c < 1024)
  | .engineSingleStep _ e _ => decide (e < 128)
  | .prMemDataAccess _ e _ => decide (e < 128)
  | .hostMessageGo _ e _ => decide (e < 128)
  | .timerExpiry c t => decide (c < 1024) && decide (t < 4)
  | .engineLoadGo _ e _ => decide (e < 128)
  | .engineLoadComplete e => decide (e < 128)
  | .gateStart _ p _ => decide (p < 145)
  | .gateStop _ p _ => decide (p < 145)
  | .gateReset _ p _ => decide (p < 145)
  | .gateLoadGo _ p _ => decide (p < 145)
  | .gateEdgeApply p => decide (p < 145)
  | .portRerole _ p _ => decide (p < 144)
  | .dsFrame ch _ => decide (ch < 4)
  | .dsFrameSyncLost ch => decide (ch < 4)
  | .bondChannelJoined ch => decide (ch < 4)
  | .dsLosChange ch _ => decide (ch < 4)
  | .dsSignalEval ch => decide (ch < 4)
  | .reorderTimeout g => decide (g < 4)
  | .dsGroupCapWrite _ g _ => decide (g < 4)
  | .snapshotArm _ ch _ => decide (ch < 4)
  | .burstProfile _ m n _ _ _ _ _ => decide (m < 2) && decide (n < 4)
  | .burstStagingStart m _ _ _ => decide (m < 2)
  | .burstStart m _ _ => decide (m < 2)
  | .burstEnd m => decide (m < 2)
  | .allocMapWrite _ a _ => decide (a < 512)
  | .holdDetectExpiry a => decide (a < 512)
  | .holdMaxExpiry a => decide (a < 512)
  | .laneCtrlWrite _ p _ => decide (p < 144)
  | .laneBlockAligned p _ => decide (p < 144)
  | .laneAlignmentLoss p _ => decide (p < 144)
  | .lanePageReceive p _ _ => decide (p < 144)
  | .lanePageSlot p => decide (p < 144)
  | .laneNegTimeout p => decide (p < 144)
  | .laneRejectTimeout p => decide (p < 144)
  | .laneUp p => decide (p < 144)
  | .laneRetryTimeout p => decide (p < 144)
  | .laneLinkLoss p => decide (p < 144)
  | .clientLosChange p _ => decide (p < 144)
  | .laneRefUnlock g k _ => decide (g < 2) && decide (k < 4)
  | .laneTxFault p => decide (p < 144)
  | .txLpiEnter p => decide (p < 144)
  | .txLpiWake p => decide (p < 144)
  | .rxLpiChange p _ => decide (p < 144)
  | .prbsGenWrite _ p _ => decide (p < 144)
  | .prbsChkWrite _ p _ => decide (p < 144)
  | .prbsInjectOne _ p _ => decide (p < 144)
  | .prbsInjectHdr _ p _ => decide (p < 144)
  | .prbsCheckerLock p _ => decide (p < 144)
  | .prbsCheckerLoss p _ => decide (p < 144)
  | .clientFrameReceive p _ _ => decide (p < 144)
  | .macTxFrame p _ => decide (p < 144)
  | .macResume p _ => decide (p < 144)
  | .preemptVerifyTimer p => decide (p < 144)
  | .sievePass port pipe => decide (port < 146) && decide (pipe < 8)
  | .svEmWordWrite _ k _ _ => decide (k < 8)
  | .svTrWordWrite _ set k _ _ => decide (set < 2) && decide (k < 8)
  | .ladlePrefetchRefill p st _ _ => decide (p < 4) && decide (st < 2)
  | .ledgerRebuildDone p st => decide (p < 4) && decide (st < 2)
  | .ldPartitionWrite _ k _ => decide (k < 8)
  | .ldReserveWrite _ r p _ _ => decide (r < 256) && decide (p < 4)
  | .schedulerDequeue p => decide (p < 144)
  | .captureWrite k => decide (k < 240)
  | .cipherLaneRevive _ l _ => decide (l < 12)
  | .cipherReviveDone l _ => decide (l < 12)
  | .scClear _ c _ => decide (c < 1024)
  | .scPnWrite _ c _ _ => decide (c < 1024)
  | .domainEntryComplete d => decide (1 ≤ d ∧ d ≤ 12)
  | .domainExitComplete d _ => decide (1 ≤ d ∧ d ≤ 12)
  | .domainWakeTime d => decide (1 ≤ d ∧ d ≤ 12)
  | .domainDeadlineWake d => decide (1 ≤ d ∧ d ≤ 12)
  | .eventWindowClose ev _ _ => decide (ev < 1024)
  | .msixIntervalExpiry vec => decide (vec < 1024)
  | .msixUnmask _ vec _ => decide (vec < 1024)
  | .gateLoadComplete p => decide (p < 145)
  | .hostMessageDone e => decide (e < 128)
  | .descramblerSyncLoss p _ => decide (p < 144)
  | .frozenGraceExpiry ch => decide (ch < 4)
  | _ => true

end Sys2Proof
end

