-- ==== Sys2Proof/Certificates/Slice0/Obligations.lean ====
section
/-! DEFINITION. The statements about the block, taken from the manual's numbered rules, and the words they are written in. A statement about a
command says, for every state and operands that meet hypotheses on the state and the operands alone, that `exec` answers a next state, and
what that state holds. -/
namespace Sys2Proof.Spec

open Sys2Proof.Machine

/-! ## Words for Preoth instructions -/

/-- An agent has the issue slot (R50, R52, R60, R73, R104): its engine's rotation gives a context the turn, a gate sequencer is Ready in an awake
domain; and its pc has not run past the end of instruction memory. -/
def Turn (s : State) (a : Agent) : Prop :=
  (s.cpu a).ranOff = false ∧
  match a with
  | .ctx c => c < 1024 ∧ ∃ t, s.nextTurn (c / 8) = some (c, t)
  | .gate p => p < 145 ∧ (s.gate p).st = .ready ∧ s.asleep (portDomain p) = false

/-- An instruction of `cost` steps keeps a packet's step count within STEPLIMIT (R71). -/
def WithinLimit (s : State) (a : Agent) (cost : Nat) : Prop :=
  ∀ c, a = .ctx c → (s.ctx c).packet = true → (s.ctx c).counting = true →
    s.rd Fld.PR_ENG_CTRL_STEPLIMIT (c / 8) ≠ 0 → (s.ctx c).pktSteps + cost ≤ s.rd Fld.PR_ENG_CTRL_STEPLIMIT (c / 8)

/-- An instruction of `cost` steps issues: its agent has the slot, its word has no parity error (R49), and STEPLIMIT lets it. -/
def CanIssue (s : State) (a : Agent) (cost : Nat) : Prop := Turn s a ∧ s.fetchBad a = false ∧ WithinLimit s a cost

/-- A context after `n` steps have been charged to it (R66, R71). -/
def charged (x : Ctx) (n : Nat) : Ctx :=
  { x with lastPc := x.cpu.pc, steps := x.steps + BitVec.ofNat 64 n, stepsReg := x.stepsReg + BitVec.ofNat 64 n
           pktSteps := if x.packet = true ∧ x.counting = true then x.pktSteps + n else x.pktSteps }

/-- The turns of an engine's rotation that are still to be taken once a context has issued an instruction of `cost` steps (R50). -/
def turnsAfter (s : State) (c cost : Nat) : Tab Nat :=
  match s.nextTurn (c / 8) with
  | some (_, t) => Tab.set t 0 (c % 8) (Tab.get t 0 (c % 8) + cost)
  | none => (s.eng (c / 8)).turns

/-- The state after an instruction of `cost` steps that leaves the registers `x` and changes nothing else: only the agent's own
registers, its step counts and its engine's rotation differ. -/
def done (s : State) (a : Agent) (cost : Nat) (x : Cpu) : State :=
  match a with
  | .ctx c =>
    (s.setEng (c / 8) { s.eng (c / 8) with last := c % 8, turns := turnsAfter s c cost, stepDue := false }).setCtx c
      { charged (s.ctx c) cost with cpu := x }
  | .gate p => s.setGate p { s.gate p with cpu := x, lastPc := (s.gate p).cpu.pc }

/-- The registers with the pc at the next word; after the last word of instruction memory the next fetch is past its end (R60). -/
def onward (a : Agent) (x : Cpu) : Cpu :=
  { x with pc := x.pc + 4, ranOff := decide (x.pc.toNat = match a with | .ctx _ => 0xFFFC | .gate _ => 0x1FFC) }

/-- The registers with the pc at a target. -/
def at_ (x : Cpu) (target : Nat) : Cpu := { x with pc := BitVec.ofNat 16 target, ranOff := false }

/-- The size of instruction memory: 64 KiB for an engine, 8 KiB for a gate sequencer (R41, R104). -/
def codeSize : Agent → Nat
  | .ctx _ => 0x10000
  | .gate _ => 0x2000

/-- The instruction completes with `v` in rd. -/
def Writes (s : State) (a : Agent) (cost : Nat) (i : Instr) (rd : GReg) (v : Quad) : Prop :=
  exec i s = .next (done s a cost (onward a ((s.cpu a).put rd v)))

/-- The instruction completes with the registers as `x` has them. -/
def Leaves (s : State) (a : Agent) (cost : Nat) (i : Instr) (x : Cpu) : Prop :=
  exec i s = .next (done s a cost (onward a x))

/-- What two states share outside Preoth, the control registers and the power state. -/
def SameUnits (s t : State) : Prop :=
  t.hbm = s.hbm ∧ t.save = s.save ∧ t.sv = s.sv ∧ t.ld = s.ld ∧ t.tm = s.tm ∧ t.tb = s.tb ∧ t.lanes = s.lanes ∧ t.macs = s.macs ∧
  t.cx = s.cx ∧ t.fib = s.fib ∧ t.base = s.base ∧ t.boot = s.boot ∧ t.draws = s.draws ∧ t.pending = s.pending

/-- Every control register holds what it held, except those of a list. -/
def SameRegisters (s t : State) (except_ : List Reg) : Prop :=
  ∀ r i k, r ∉ except_ → i < 4096 → k < 4096 → t.rdReg r i k = s.rdReg r i k

/-- The registers that follow the votes of the domains: their limit, motion and next known event. -/
def voteRegs : List Reg := [.PW_DOM_STATUS, .PW_DOM_NEXT]

/-- The registers that events write: the ring's, the latch's and the vectors'. -/
def eventRegs : List Reg := [.MG_RING_WR, .MG_RING_LOST, .MG_LATCH_STAT, .MG_MSIX_PBA]

/-- Every byte of L, of S and of the HBM partitions reads as before. -/
def SameMemory (s t : State) : Prop :=
  (∀ a n, t.readL a n 1 = s.readL a n 1) ∧ (∀ n, t.readS n 1 = s.readS n 1) ∧ (∀ p n, t.hbmRead p n 1 = s.hbmRead p n 1)

/-- The context `c` is now `x`; every other context and every gate sequencer is as it was, and so is every memory, every other unit and
every control register but those that follow the votes. -/
def OnlyContext (s t : State) (c : Nat) (x : Ctx) : Prop :=
  t.ctx c = x ∧ (∀ d, d ≠ c → t.ctx d = s.ctx d) ∧ (∀ p, t.gate p = s.gate p) ∧ SameMemory s t ∧ SameUnits s t ∧ SameRegisters s t voteRegs

/-- A context that waits: the pc stays at the instruction, whose steps have been charged. -/
def waiting (x : Ctx) (cost : Nat) (w : Wait) : Ctx := { charged x cost with st := .waiting, wait := some w }

/-- A context whose waiting instruction has completed with `v` in rd: Ready again, at the next word. -/
def resumed (c : Nat) (x : Ctx) (rd : GReg) (v : Quad) : Ctx :=
  { x with cpu := onward (.ctx c) (x.cpu.put rd v), st := .ready, wait := none }

/-- A context that enters its trap handler, or is parked in Trapped where it has none or is in it already (R66, R69, R70): TPC, TCAUSE, TVAL
and PR_CTX_TRAP's valid bit are set in both cases. -/
def TrapSaved (x y : Ctx) (tpc : BitVec 16) (cause : Nat) (tval : Quad) (issued : Nat) : Prop :=
  y.tpc = tpc ∧ y.tcause = BitVec.ofNat 8 cause ∧ y.tval = tval ∧ y.tvalid = true ∧ y.tscratch = x.tscratch ∧ y.wait = none ∧
  y.cpu.g = x.cpu.g ∧ y.cpu.z = x.cpu.z ∧ y.cpu.n = x.cpu.n ∧ y.cpu.c = x.cpu.c ∧ y.cpu.v = x.cpu.v ∧ y.auth = x.auth ∧ y.gen = x.gen ∧
  (x.vecValid = true ∧ x.hmode = false →
    y.st = .ready ∧ y.hmode = true ∧ y.cpu.pc = x.vec ∧ y.steps = x.steps + BitVec.ofNat 64 (issued + 4)) ∧
  (x.vecValid = false ∨ x.hmode = true →
    y.st = .trapped ∧ y.hmode = x.hmode ∧ y.cpu.pc = tpc ∧ y.steps = x.steps + BitVec.ofNat 64 issued)

/-- The instruction issues and traps (R64 to R66): one step, the pc of the instruction saved. A gate sequencer is left in Trapped with its
cause (R106). -/
def Traps (s : State) (a : Agent) (i : Instr) (cause : Nat) (tval : Quad) : Prop :=
  ∃ t, exec i s = .next t ∧ (∀ b, (t.cpu b).g = (s.cpu b).g) ∧ SameMemory s t ∧
    match a with
    | .ctx c => TrapSaved (s.ctx c) (t.ctx c) (s.ctx c).cpu.pc cause tval 1
    | .gate p => (t.gate p).st = .trapped ∧ (t.gate p).tcause = BitVec.ofNat 8 cause ∧ (t.gate p).cpu = (s.gate p).cpu ∧ t.pre.ctxs = s.pre.ctxs

/-- Bit `k` of a value. -/
abbrev hasBit (v : Quad) (k : Nat) : Prop := v.toNat / 2 ^ k % 2 = 1

/-- A number of a byte list, least significant byte first (R40). -/
def little : List Byte → Nat
  | [] => 0
  | b :: r => b.toNat + 256 * little r

/-- The low `n` bytes of a value, least significant first (R40). -/
def bytes (v : Nat) : Nat → List Byte
  | 0 => []
  | n + 1 => BitVec.ofNat 8 v :: bytes (v / 256) n

end Sys2Proof.Spec

open Sys2Proof Sys2Proof.Machine Sys2Proof.Spec

/-! ## The block -/

/-- A step takes the front command and runs it on the state with the queue's rest. -/
def Obligations.StepRunsFrontCommand : Prop :=
  ∀ (s : State) (c : Instr) (r : List Instr), step { s with pending := c :: r } = exec c { s with pending := r }

/-- With no command waiting, a step is one tick of the timebase (log 2, DESIGN CHOICE): once the input is valid and boot stage 2 is reached,
an accepted step of R265 is added to the accumulator of R262, then TB_INCR, a new one first, and both are used up; no instruction memory, no byte
of L and of HBM, no waiting command changes. -/
def Obligations.EmptyQueueTicksTimebase : Prop :=
  ∀ s : State, s.pending = [] →
    ∃ t, step s = .next t ∧ t.pending = [] ∧ t.hbm = s.hbm ∧
      (∀ a n, t.readL a n 1 = s.readL a n 1) ∧ (∀ e, (t.eng e).imem = (s.eng e).imem) ∧ 
      (s.boot.inputValid = false ∨ s.rd Fld.KT_BOOT_STATUS_STAGE < 2 → t = s) ∧
      (s.boot.inputValid = true → 2 ≤ s.rd Fld.KT_BOOT_STATUS_STAGE → t.tb.step = none ∧ t.tb.incrNext = none ∧
        t.tb.incr = s.tb.incrNext.getD s.tb.incr ∧
        t.tb.gained = s.tb.gained + (s.tb.incrNext.getD s.tb.incr).toNat ∧
        (s.tb.step = none → t.tb.acc = s.tb.acc + (s.tb.incrNext.getD s.tb.incr).zeroExtend 108))

/-- Every command whose operands name instances that the device has runs, in every state: exec answers a next state; any other command
ends in the fault noSuchObject (log 5, DESIGN CHOICE). -/
def Obligations.EveryWellFormedCommandRuns : Prop :=
  ∀ (i : Instr) (s : State),
    (wellFormed i = true → ∃ t, exec i s = .next t) ∧ (wellFormed i = false → exec i s = .fault .noSuchObject)

/-- Decoding the word that an instruction is encoded in gives the instruction back, for every instruction that the table of R61 and R95
lists, every agent and every operand (R58 to R63). -/
def Obligations.DecodeOfEncodeIsInstruction : Prop :=
  ∀ (i : Instr) (a : Agent) (w : Word), agentOf i = some a → spelled i = true → encode i = some w → decodeWord a w = i

/-! ## Preoth: results -/

/-- R61: the results of the register forms, modulo 2⁶⁴; shifts use the low 6 bits of rb, and sar is arithmetic. Each completes whenever it may
issue; a write of g0 is discarded (Cpu.put), and nothing else changes but the pc, the step counts and the rotation. -/
def Sys2Proof.Spec.RegisterFormResults : Prop :=
  ∀ (s : State) (a : Agent) (rd ra rb : GReg),
    let x := ((s.cpu a).get ra).toNat
    let y := ((s.cpu a).get rb).toNat
    (CanIssue s a 1 →
      Writes s a 1 (.add a rd ra rb) rd (BitVec.ofNat 64 (x + y)) ∧
      Writes s a 1 (.sub a rd ra rb) rd (BitVec.ofInt 64 ((x : Int) - y)) ∧
      Writes s a 1 (.andR a rd ra rb) rd (BitVec.ofNat 64 (x &&& y)) ∧
      Writes s a 1 (.orR a rd ra rb) rd (BitVec.ofNat 64 (x ||| y)) ∧
      Writes s a 1 (.xorR a rd ra rb) rd (BitVec.ofNat 64 (x ^^^ y)) ∧
      Writes s a 1 (.shl a rd ra rb) rd (BitVec.ofNat 64 (x * 2 ^ (y % 64))) ∧
      Writes s a 1 (.shr a rd ra rb) rd (BitVec.ofNat 64 (x / 2 ^ (y % 64))) ∧
      Writes s a 1 (.sar a rd ra rb) rd (BitVec.ofInt 64 (((s.cpu a).get ra).toInt / 2 ^ (y % 64)))) ∧
    (CanIssue s a 2 →
      Writes s a 2 (.mul a rd ra rb) rd (BitVec.ofNat 64 (x * y)) ∧
      Writes s a 2 (.mulhu a rd ra rb) rd (BitVec.ofNat 64 (x * y / 2 ^ 64)))

/-- R61: the results of the immediate forms: addi and kset extend the sign of the immediate, the logic forms and kcat extend with zeros. -/
def Sys2Proof.Spec.ImmediateFormResults : Prop :=
  ∀ (s : State) (a : Agent) (rd ra : GReg) (imm : BitVec 16) (n : BitVec 6), CanIssue s a 1 →
    let x := ((s.cpu a).get ra).toNat
    Writes s a 1 (.addi a rd ra imm) rd (BitVec.ofInt 64 (x + imm.toInt)) ∧
    Writes s a 1 (.andi a rd ra imm) rd (BitVec.ofNat 64 (x &&& imm.toNat)) ∧
    Writes s a 1 (.ori a rd ra imm) rd (BitVec.ofNat 64 (x ||| imm.toNat)) ∧
    Writes s a 1 (.xori a rd ra imm) rd (BitVec.ofNat 64 (x ^^^ imm.toNat)) ∧
    Writes s a 1 (.shli a rd ra n) rd (BitVec.ofNat 64 (x * 2 ^ n.toNat)) ∧
    Writes s a 1 (.shri a rd ra n) rd (BitVec.ofNat 64 (x / 2 ^ n.toNat)) ∧
    Writes s a 1 (.sari a rd ra n) rd (BitVec.ofInt 64 (((s.cpu a).get ra).toInt / 2 ^ n.toNat)) ∧
    Writes s a 1 (.kset a rd imm) rd (BitVec.ofInt 64 imm.toInt) ∧
    Writes s a 1 (.kcat a rd imm) rd (BitVec.ofNat 64 (((s.cpu a).get rd).toNat * 2 ^ 16 + imm.toNat))

/-- The result of every instruction that computes from registers or an immediate (of R55, R61): rd holds it, the pc moves on, nothing else changes. -/
def Obligations.RegisterAndImmediateResults : Prop := Spec.RegisterFormResults ∧ Spec.ImmediateFormResults

/-- R61: the bit-field forms with lsb + width at most 64: ext takes bits [lsb + width − 1 : lsb] with zeros above, exts with their sign, ins
replaces those bits of rd and keeps the others; cnt counts ones, leading zeros or trailing zeros; bswap reverses the low 2, 4 or 8 bytes. -/
def Sys2Proof.Spec.BitFieldResults : Prop :=
  ∀ (s : State) (a : Agent) (rd ra : GReg) (lsb wm1 : BitVec 6), CanIssue s a 1 →
    let v := (s.cpu a).get ra
    let field := v.toNat / 2 ^ lsb.toNat % 2 ^ (wm1.toNat + 1)
    let old := ((s.cpu a).get rd).toNat
    (lsb.toNat + wm1.toNat < 64 →
      Writes s a 1 (.extZ a rd ra lsb wm1) rd (BitVec.ofNat 64 field) ∧
      Writes s a 1 (.exts a rd ra lsb wm1) rd
        (BitVec.ofInt 64 (if 2 ^ wm1.toNat ≤ field then (field : Int) - 2 ^ (wm1.toNat + 1) else field)) ∧
      Writes s a 1 (.insB a rd ra lsb wm1) rd
        (BitVec.ofNat 64 (old % 2 ^ lsb.toNat + v.toNat % 2 ^ (wm1.toNat + 1) * 2 ^ lsb.toNat +
          old / 2 ^ (lsb.toNat + wm1.toNat + 1) * 2 ^ (lsb.toNat + wm1.toNat + 1)))) ∧
    (∃ n, n ≤ 64 ∧ n = ((List.range 64).filter (fun k => decide (hasBit v k))).length ∧
      Writes s a 1 (.cnt a rd ra 0) rd (BitVec.ofNat 64 n)) ∧
    (∃ n, n ≤ 64 ∧ (∀ k, k < 64 → 64 - n ≤ k → ¬ hasBit v k) ∧ (n < 64 → hasBit v (63 - n)) ∧
      Writes s a 1 (.cnt a rd ra 1) rd (BitVec.ofNat 64 n)) ∧
    (∃ n, n ≤ 64 ∧ (∀ k, k < n → ¬ hasBit v k) ∧ (n < 64 → hasBit v n) ∧
      Writes s a 1 (.cnt a rd ra 2) rd (BitVec.ofNat 64 n)) ∧
    Writes s a 1 (.bswap a rd ra 0) rd (BitVec.ofNat 64 (little (bytes v.toNat 2).reverse)) ∧
    Writes s a 1 (.bswap a rd ra 1) rd (BitVec.ofNat 64 (little (bytes v.toNat 4).reverse)) ∧
    Writes s a 1 (.bswap a rd ra 2) rd (BitVec.ofNat 64 (little (bytes v.toNat 8).reverse))

/-- R38: cmp and cmpi set Z where the operands are equal, N to bit 63 of their difference, C where the first is below unsigned, and V where
the signed subtraction overflows; no general register changes. nop changes nothing. -/
def Sys2Proof.Spec.ComparisonSetsFlags : Prop :=
  ∀ (s : State) (a : Agent) (ra rb : GReg) (imm : BitVec 16), CanIssue s a 1 →
    let x := (s.cpu a).get ra
    let flags := fun (y : Quad) => { s.cpu a with
      z := decide (x.toNat = y.toNat), n := decide (2 ^ 63 ≤ (x - y).toNat), c := decide (x.toNat < y.toNat)
      v := decide (¬ (-2 ^ 63 ≤ x.toInt - y.toInt ∧ x.toInt - y.toInt ≤ 2 ^ 63 - 1)) }
    Leaves s a 1 (.cmp a ra rb) (flags ((s.cpu a).get rb)) ∧
    Leaves s a 1 (.cmpi a ra imm) (flags (BitVec.ofInt 64 imm.toInt)) ∧
    Leaves s a 1 (.nop a) (s.cpu a)

/-- R62: the condition that a code names on the flags. -/
def Sys2Proof.Spec.condition (z n c v : Bool) : Nat → Option Bool
  | 0 => some z
  | 1 => some (!z)
  | 2 => some (n != v)
  | 3 => some (n == v)
  | 4 => some (!z && n == v)
  | 5 => some (z || n != v)
  | 6 => some c
  | 7 => some (!c)
  | 8 => some (!c && !z)
  | 9 => some (c || z)
  | 0xE => some true
  | _ => none

/-- R61, R62: sel writes ra where its condition holds on the flags, else rb; a code that R62 does not list traps ILLOP with the word. -/
def Sys2Proof.Spec.SelectionByCondition : Prop :=
  ∀ (s : State) (a : Agent) (rd ra rb : GReg) (k : BitVec 4), CanIssue s a 1 →
    let x := s.cpu a
    match condition x.z x.n x.c x.v k.toNat with
    | some true => Writes s a 1 (.sel a rd ra rb k) rd (x.get ra)
    | some false => Writes s a 1 (.sel a rd ra rb k) rd (x.get rb)
    | none => Traps s a (.sel a rd ra rb k) 1 (wordOf (.sel a rd ra rb k))

/-- R61, R64: divu and remu divide unsigned; a divisor of zero traps DIVZERO with the dividend. -/
def Sys2Proof.Spec.DivisionAndDivideByZero : Prop :=
  ∀ (s : State) (a : Agent) (rd ra rb : GReg), CanIssue s a 16 →
    let x := (s.cpu a).get ra
    let y := (s.cpu a).get rb
    (y ≠ 0 →
      Writes s a 16 (.divu a rd ra rb) rd (BitVec.ofNat 64 (x.toNat / y.toNat)) ∧
      Writes s a 16 (.remu a rd ra rb) rd (BitVec.ofNat 64 (x.toNat % y.toNat))) ∧
    (y = 0 → Traps s a (.divu a rd ra rb) 7 x ∧ Traps s a (.remu a rd ra rb) 7 x)

/-- The bit-field instructions, and division with its trap (of R61, R64). -/
def Obligations.BitFieldAndDivisionResults : Prop := Spec.BitFieldResults ∧ Spec.DivisionAndDivideByZero

/-- What `done` leaves alone, seen through the model's reads: after an instruction that only computes, every general register of every agent
but the destination's agent, every byte of L, S and HBM, every control register, the trap registers, the authority and the mailboxes are as
before; the agent's registers are exactly those stated, and g0 reads 0 and discards what is written to it. -/
def Obligations.ComputingLeavesTheRest : Prop :=
  ∀ (s : State) (a : Agent) (cost : Nat) (x : Cpu),
    let t := done s a cost x
    t.cpu a = x ∧ (∀ b, b ≠ a → t.cpu b = s.cpu b) ∧ SameMemory s t ∧ SameUnits s t ∧ SameRegisters s t [] ∧
    (∀ b, t.agentState b = s.agentState b ∧ t.mailbox b = s.mailbox b ∧ t.postedOf b = s.postedOf b) ∧
    (∀ c, (t.ctx c).tpc = (s.ctx c).tpc ∧ (t.ctx c).tcause = (s.ctx c).tcause ∧ (t.ctx c).tval = (s.ctx c).tval ∧
      (t.ctx c).tscratch = (s.ctx c).tscratch ∧ (t.ctx c).hmode = (s.ctx c).hmode ∧ (t.ctx c).auth = (s.ctx c).auth) ∧
    x.get 0 = 0 ∧ (∀ v, x.put 0 v = x) ∧
    (∀ (r q : GReg) (v : Quad), r ≠ 0 → (x.put r v).get r = v ∧ (q ≠ r → (x.put r v).get q = x.get q))

/-! ## Preoth: control flow -/

/-- R60, R61: a branch on registers: taken (2 steps) to its own address plus four times its offset where that lies inside instruction
memory, else (1 step) on to the next word. -/
def Sys2Proof.Spec.BranchesOnRegisters : Prop :=
  ∀ (s : State) (a : Agent) (ra rb : GReg) (off : BitVec 16),
    let x := (s.cpu a).get ra
    let y := (s.cpu a).get rb
    let dest : Int := ((s.cpu a).pc.toNat : Int) + 4 * off.toInt
    let branch := fun (i : Instr) (taken : Prop) =>
      (taken → CanIssue s a 2 → 0 ≤ dest → dest + 4 ≤ codeSize a → exec i s = .next (done s a 2 (at_ (s.cpu a) dest.toNat))) ∧
      (taken → CanIssue s a 2 → (dest < 0 ∨ codeSize a < dest + 4) → Traps s a i 4 (BitVec.ofInt 64 dest)) ∧
      (¬ taken → CanIssue s a 1 → Leaves s a 1 i (s.cpu a))
    branch (.beq a ra rb off) (x = y) ∧
    branch (.bne a ra rb off) (x ≠ y) ∧
    branch (.blt a ra rb off) (x.toInt < y.toInt) ∧
    branch (.bge a ra rb off) (y.toInt ≤ x.toInt) ∧
    branch (.bltu a ra rb off) (x.toNat < y.toNat) ∧
    branch (.bgeu a ra rb off) (y.toNat ≤ x.toNat)

/-- R60, R62: bc branches where its condition holds on the flags, and goes on to the next word where it does not. -/
def Sys2Proof.Spec.BranchOnCondition : Prop :=
  ∀ (s : State) (a : Agent) (k : BitVec 4) (off : BitVec 16),
    let x := s.cpu a
    let dest : Int := (x.pc.toNat : Int) + 4 * off.toInt
    (condition x.z x.n x.c x.v k.toNat = some true → CanIssue s a 2 → 0 ≤ dest → dest + 4 ≤ codeSize a →
      exec (.bc a k off) s = .next (done s a 2 (at_ x dest.toNat))) ∧
    (condition x.z x.n x.c x.v k.toNat = some false → CanIssue s a 1 → Leaves s a 1 (.bc a k off) x) ∧
    (condition x.z x.n x.c x.v k.toNat = none → CanIssue s a 1 → Traps s a (.bc a k off) 1 (wordOf (.bc a k off)))

/-- cmp and cmpi set Z, N, C and V, and sel and bc choose by a condition on them, a condition outside the table trapping (of R38, R61, R62). -/
def Obligations.ComparisonAndSelection : Prop := Spec.ComparisonSetsFlags ∧ Spec.SelectionByCondition ∧ Spec.BranchOnCondition

/-- R60, R61: j and call go to their own address plus four times the offset, jr and jalr to the address in ra; call leaves the address of the
next instruction in g31, jalr in rd. A register target that is not a multiple of 4 traps ALIGN, and one past instruction memory BOUNDS. -/
def Sys2Proof.Spec.JumpsAndLinks : Prop :=
  ∀ (s : State) (a : Agent) (rd ra : GReg) (off : BitVec 26), CanIssue s a 2 →
    let x := s.cpu a
    let dest : Int := (x.pc.toNat : Int) + 4 * off.toInt
    let link := BitVec.ofNat 64 (x.pc.toNat + 4)
    let v := x.get ra
    (0 ≤ dest → dest + 4 ≤ codeSize a →
      exec (.j a off) s = .next (done s a 2 (at_ x dest.toNat)) ∧
      exec (.call a off) s = .next (done s a 2 (at_ (x.put 31 link) dest.toNat))) ∧
    (v.toNat % 4 = 0 → v.toNat < codeSize a →
      exec (.jr a ra) s = .next (done s a 2 (at_ x v.toNat)) ∧
      exec (.jalr a rd ra) s = .next (done s a 2 (at_ (x.put rd link) v.toNat))) ∧
    (v.toNat % 4 ≠ 0 → Traps s a (.jr a ra) 3 v ∧ Traps s a (.jalr a rd ra) 3 v) ∧
    (v.toNat % 4 = 0 → codeSize a ≤ v.toNat → Traps s a (.jr a ra) 4 v ∧ Traps s a (.jalr a rd ra) 4 v)

/-- Where the control-flow instructions lead (of R61). -/
def Obligations.BranchesAndJumps : Prop := Spec.BranchesOnRegisters ∧ Spec.JumpsAndLinks

/-- R50, R56, R61: yield goes on to the next word and gives up the context's next turn, which counts as taken; time reads TB_NS and the top 8 fraction bits, with bit 63
set while time-stamps are not valid. -/
def Sys2Proof.Spec.YieldAndTime : Prop :=
  ∀ (s : State) (a : Agent) (rd : GReg), CanIssue s a 1 →
    Writes s a 1 (.timeNow a rd) rd
      (BitVec.ofNat 64 (s.ns.toNat * 256 + s.frac.toNat + if s.tsValid = true then 0 else 2 ^ 63)) ∧
    ∃ t, exec (.yield a) s = .next t ∧ t.cpu a = onward a (s.cpu a) ∧ t.agentState a = .ready ∧ SameMemory s t ∧
      ∀ c, a = .ctx c → Tab.get (t.eng (c / 8)).turns 0 (c % 8) = 2 ∧
        t.setEng (c / 8) { t.eng (c / 8) with turns := turnsAfter s c 1 } = done s a 1 (onward a (s.cpu a))

/-- R39: mfs reads FLAGS (Z, N, C, V, and H in bit 8), TPC, TCAUSE, TVAL, the context's own number, generation and profile, STEPS and TSCRATCH;
mts writes Z, N, C and V from bits 3 to 0 of FLAGS, and TSCRATCH. Any other number traps ILLOP. -/
def Obligations.SpecialRegisters : Prop :=
  ∀ (s : State) (c : Nat) (rd ra : GReg), CanIssue s (.ctx c) 1 →
    let a : Agent := .ctx c
    let x := s.ctx c
    let f := x.cpu
    let one := fun (b : Bool) (n : Nat) => if b = true then n else 0
    Writes s a 1 (.mfs a rd 0) rd (BitVec.ofNat 64 (one f.z 1 + one f.n 2 + one f.c 4 + one f.v 8 + one x.hmode 256)) ∧
    Writes s a 1 (.mfs a rd 1) rd (BitVec.ofNat 64 x.tpc.toNat) ∧
    Writes s a 1 (.mfs a rd 2) rd (BitVec.ofNat 64 x.tcause.toNat) ∧
    Writes s a 1 (.mfs a rd 3) rd x.tval ∧
    Writes s a 1 (.mfs a rd 4) rd (BitVec.ofNat 64 (c + x.gen.toNat * 2 ^ 10 + one x.packet (2 ^ 18))) ∧
    Writes s a 1 (.mfs a rd 5) rd x.steps ∧
    Writes s a 1 (.mfs a rd 6) rd x.tscratch ∧
    (let v := f.get ra
     Leaves s a 1 (.mts a 0 ra)
       { f with z := decide (hasBit v 0), n := decide (hasBit v 1), c := decide (hasBit v 2), v := decide (hasBit v 3) } ∧
     exec (.mts a 6 ra) s = .next ((done s a 1 (onward a f)).setCtx c
       { (done s a 1 (onward a f)).ctx c with tscratch := v })) ∧
    (∀ n : BitVec 8, 7 ≤ n.toNat → Traps s a (.mfs a rd n) 1 (wordOf (.mfs a rd n))) ∧
    (∀ n : BitVec 8, n ≠ 0 → n ≠ 6 → Traps s a (.mts a n ra) 1 (wordOf (.mts a n ra)))

/-- R64, R66, R67, R69: sys traps SOFT with its immediate, and the saved pc is the next instruction's; eret in the handler returns to TPC and
clears H, and outside it traps ILLOP. -/
def Sys2Proof.Spec.SystemTrapAndReturn : Prop :=
  ∀ (s : State) (c : Nat) (imm : BitVec 16),
    (CanIssue s (.ctx c) 1 →
      ∃ t, exec (.sysTrap (.ctx c) imm) s = .next t ∧
        TrapSaved (s.ctx c) (t.ctx c) ((s.ctx c).cpu.pc + 4) 9 (BitVec.ofNat 64 imm.toNat) 1 ∧ SameMemory s t) ∧
    (CanIssue s (.ctx c) 2 → (s.ctx c).hmode = true →
      exec (.eret (.ctx c)) s = .next ((done s (.ctx c) 2 { (s.ctx c).cpu with pc := (s.ctx c).tpc, ranOff := false }).setCtx c
        { (done s (.ctx c) 2 { (s.ctx c).cpu with pc := (s.ctx c).tpc, ranOff := false }).ctx c with hmode := false })) ∧
    (CanIssue s (.ctx c) 2 → (s.ctx c).hmode = false → Traps s (.ctx c) (.eret (.ctx c)) 1 (wordOf (.eret (.ctx c))))

/-- R59, R76: a word that the table does not list traps ILLOP with the word, on every agent; the instructions that the gate profile lacks
trap PROFILE on a gate sequencer, twait and recv trap PROFILE in a packet-profile context. -/
def Sys2Proof.Spec.IllegalAndUnpermittedTrap : Prop :=
  ∀ (s : State) (a : Agent) (w : Word) (rd ra rb : GReg) (off : BitVec 12), 
    (CanIssue s a 1 → decodeListed a w = none → Traps s a (.reservedOpcode a w) 1 (BitVec.ofNat 64 w.toNat)) ∧
    (CanIssue s a 1 → ∀ p, a = .gate p →
      Traps s a (.fence a) 2 (wordOf (.fence a)) ∧
      Traps s a (.sysTrap a 0) 2 (wordOf (.sysTrap a 0)) ∧
      Traps s a (.creg a rd ra) 2 (wordOf (.creg a rd ra)) ∧
      Traps s a (.cwr a ra rb) 2 (wordOf (.cwr a ra rb)) ∧
      Traps s a (.ld a rd ra .s .b64 off .clean) 2 (wordOf (.ld a rd ra .s .b64 off .clean))) ∧
    (CanIssue s a 1 → ∀ c, a = .ctx c → (s.ctx c).packet = true →
      Traps s a (.twait a ra) 2 (wordOf (.twait a ra)) ∧ Traps s a (.recv a rd ra rb) 2 (wordOf (.recv a rd ra rb)))

/-- R52, R74, R100: halt leaves the agent Halted at the next word; a context's packet is discarded, and it waits for nothing. -/
def Sys2Proof.Spec.HaltStopsTheAgent : Prop :=
  ∀ (s : State) (a : Agent), CanIssue s a 1 →
    ∃ t, exec (.halt a) s = .next t ∧ t.agentState a = .halted ∧ t.agentWait a = none ∧ t.cpu a = onward a (s.cpu a) ∧
      (∀ b, t.cpu b = if b = a then onward a (s.cpu a) else s.cpu b) ∧ SameMemory s t ∧
      ∀ c, a = .ctx c → (s.ctx c).packet = true → (t.ctx c).pkt = none

/-- R57: twait goes on at once where its target (bits [39:8] of ra) is not later than TB_NS by signed difference, else it waits; TWAIT_EXPIRY
ends the wait once the target is reached and the agent's domain is awake, and does nothing before. -/
def Sys2Proof.Spec.TimedWait : Prop :=
  ∀ (s : State) (a : Agent) (ra : GReg) (target : BitVec 32),
    (CanIssue s a 1 → (∀ c, a = .ctx c → (s.ctx c).packet = false) →
      let g := BitVec.ofNat 32 (((s.cpu a).get ra).toNat / 2 ^ 8)
      ((g - s.ns).toInt ≤ 0 → Leaves s a 1 (.twait a ra) (s.cpu a)) ∧
      (0 < (g - s.ns).toInt → ∃ t, exec (.twait a ra) s = .next t ∧ t.agentState a = .waiting ∧ t.agentWait a = some (.twait g) ∧
        t.cpu a = s.cpu a ∧ SameMemory s t)) ∧
    (∀ c, c < 1024 → (s.ctx c).wait = some (.twait target) → (s.ctx c).after = .go →
      (s.asleep (ctxDomain c) = false → (target - s.ns).toInt ≤ 0 →
        ∃ t, exec (.twaitExpiry (.ctx c)) s = .next t ∧
          OnlyContext s t c { s.ctx c with cpu := onward (.ctx c) (s.ctx c).cpu, st := .ready, wait := none }) ∧
      (0 < (target - s.ns).toInt → exec (.twaitExpiry (.ctx c)) s = .next s)) ∧
    (∀ p, p < 145 → (s.gate p).wait = some (.twait target) → (s.gate p).after = .go →
      (s.asleep (portDomain p) = false → (target - s.ns).toInt ≤ 0 →
        ∃ t, exec (.twaitExpiry (.gate p)) s = .next t ∧
          t.gate p = { s.gate p with cpu := onward (.gate p) (s.gate p).cpu, st := .ready, wait := none } ∧
          SameMemory s t ∧ (∀ c, t.ctx c = s.ctx c) ∧ (∀ q, q ≠ p → t.gate q = s.gate q)) ∧
      (0 < (target - s.ns).toInt → exec (.twaitExpiry (.gate p)) s = .next s))

/-- R71: STEPLIMIT_TRAP stops a Ready packet-profile context whose next instruction would pass STEPLIMIT: the trap's value is the count, its
pc the pc of the instruction that did not issue; no issue step is charged, and the count stops. -/
def Sys2Proof.Spec.StepLimitTraps : Prop :=
  ∀ (s : State) (c cost : Nat), Turn s (.ctx c) → s.fetchBad (.ctx c) = false → (s.ctx c).packet = true → (s.ctx c).counting = true →
    s.rd Fld.PR_ENG_CTRL_STEPLIMIT (c / 8) ≠ 0 → s.rd Fld.PR_ENG_CTRL_STEPLIMIT (c / 8) < (s.ctx c).pktSteps + cost →
    ∃ t, exec (.steplimitTrap c cost) s = .next t ∧
      TrapSaved (s.ctx c) (t.ctx c) (s.ctx c).cpu.pc 0x0A (BitVec.ofNat 64 (s.ctx c).pktSteps) 0 ∧ (t.ctx c).counting = false

/-- R49, R64, R65: a parity error in the word at the pc traps PARITY with the pc, whatever the word is and whichever agent fetches it, before the
word is looked at. -/
def Sys2Proof.Spec.FetchParityTraps : Prop :=
  ∀ (s : State) (a : Agent) (i : Instr), agentOf i = some a → spelled i = true → Turn s a → s.fetchBad a = true → WithinLimit s a 1 →
    Traps s a i 8 ((s.cpu a).pc.zeroExtend 64)

/-- What traps, what a trap saves and where it leads, and the return from it (of R49, R64 to R71). -/
def Obligations.TrapsAndReturn : Prop := Spec.SystemTrapAndReturn ∧ Spec.IllegalAndUnpermittedTrap ∧ Spec.StepLimitTraps ∧ Spec.FetchParityTraps

/-- R50: the turns of an engine pass in rotating order from the place after the last to issue: of the contexts that take part the first in that order
issues, where its latest instruction has no turn left to take; one whose latest instruction takes further turns lets the other issue first; with
none that takes part nothing issues. -/
def Sys2Proof.Spec.TurnsRotate : Prop :=
  ∀ (s : State) (e j : Nat), e < 128 → j < 8 →
    let place := fun (k : Nat) => ((s.eng e).last + 1 + k) % 8
    let part := fun (k : Nat) => s.inRotation (8 * e + place k) = true
    let owed := fun (k : Nat) => Tab.get (s.eng e).turns 0 (place k)
    ((∀ k, k < 8 → ¬ part k) → s.nextTurn e = none) ∧
    (part j → (∀ k, k < j → ¬ part k) → owed j ≤ 1 → ∃ t, s.nextTurn e = some (8 * e + place j, t)) ∧
    (∀ i, i < 8 → i ≠ j → part i → part j → (∀ k, k < 8 → k ≠ i → k ≠ j → ¬ part k) → 1 < owed i → owed j ≤ 1 →
      ∃ t, s.nextTurn e = some (8 * e + place j, t) ∧ (i < j → Tab.get t 0 (place i) = owed i - 1)) ∧
    (∀ i, i < 8 → part i → (∀ k, k < 8 → k ≠ i → ¬ part k) → ∃ t, s.nextTurn e = some (8 * e + place i, t))
/-! ## Preoth: memory -/

/-- yield, time, halt and twait, and the rotation of the issue slot (of R50, R51, R57, R61). -/
def Obligations.YieldTimeHaltAndWait : Prop := Spec.YieldAndTime ∧ Spec.HaltStopsTheAgent ∧ Spec.TimedWait ∧ Spec.TurnsRotate

/-- The number of bytes of an access size (R58). -/
def Sys2Proof.Spec.size : MemSize → Nat
  | .b8 => 1
  | .b16 => 2
  | .b32 => 4
  | .b64 => 8

/-- The size of L of an agent (R41, R104). -/
def Sys2Proof.Spec.localSize : Agent → Nat
  | .ctx _ => 0x20000
  | .gate _ => 0x1000

/-- The effective address of a base register and a signed 12-bit offset, modulo 2⁶⁴ (R42). -/
def Sys2Proof.Spec.address (s : State) (a : Agent) (ra : GReg) (off : BitVec 12) : Quad :=
  BitVec.ofInt 64 ((((s.cpu a).get ra).toNat : Int) + off.toInt)

/-- An address is aligned to `n` bytes and its `n` bytes lie in a space of `room` bytes (R42, R43). -/
abbrev Sys2Proof.Spec.Fits (ea : Quad) (n room : Nat) : Prop := ea.toNat % n = 0 ∧ ea.toNat + n ≤ room

/-- A number of `n` bytes read as a signed number. -/
def Sys2Proof.Spec.signedValue (n v : Nat) : Int := if 2 ^ (8 * n - 1) ≤ v then (v : Int) - 2 ^ (8 * n) else v

/-- R40, R42, R55, R61: a load from L completes at once: ld extends the bytes, least significant first, with zeros, lds with their sign; the
bytes are what the context itself sees (R47). An address that is not aligned traps ALIGN, one outside L traps BOUNDS, and a double-bit error
traps PARITY, each with the effective address. -/
def Sys2Proof.Spec.LoadsFromL : Prop :=
  ∀ (s : State) (a : Agent) (rd ra : GReg) (sz : MemSize) (off : BitVec 12), CanIssue s a 1 →
    let ea := address s a ra off
    let n := size sz
    let v := little (s.readOwn a .l ea.toNat n)
    (Fits ea n (localSize a) →
      Writes s a 1 (.ld a rd ra .l sz off .clean) rd (BitVec.ofNat 64 v) ∧
      Writes s a 1 (.lds a rd ra .l sz off .clean) rd (BitVec.ofInt 64 (signedValue n v)) ∧
      Traps s a (.ld a rd ra .l sz off .double) 8 ea ∧ Traps s a (.lds a rd ra .l sz off .double) 8 ea) ∧
    (∀ err, ea.toNat % n ≠ 0 → Traps s a (.ld a rd ra .l sz off err) 3 ea ∧ Traps s a (.lds a rd ra .l sz off err) 3 ea) ∧
    (∀ err, ea.toNat % n = 0 → localSize a < ea.toNat + n →
      Traps s a (.ld a rd ra .l sz off err) 4 ea ∧ Traps s a (.lds a rd ra .l sz off err) 4 ea)

/-- R49: a single-bit error in L is corrected: the load completes with the same value, and PR_ENG_ECC.LCORR of the engine counts it. -/
def Sys2Proof.Spec.CorrectedErrorIsCounted : Prop :=
  ∀ (s : State) (c : Nat) (rd ra : GReg) (sz : MemSize) (off : BitVec 12), CanIssue s (.ctx c) 1 →
    let ea := address s (.ctx c) ra off
    Fits ea (size sz) 0x20000 →
    ∃ t, exec (.ld (.ctx c) rd ra .l sz off .single) s = .next t ∧
      t.cpu (.ctx c) = onward (.ctx c) ((s.cpu (.ctx c)).put rd (BitVec.ofNat 64 (little (s.readOwn (.ctx c) .l ea.toNat (size sz))))) ∧
      t.rd Fld.PR_ENG_ECC_LCORR (c / 8) = min (s.rd Fld.PR_ENG_ECC_LCORR (c / 8) + 1) 65535 ∧ SameMemory s t

/-- Loads from L and their checks (of R40 to R43, R55). -/
def Obligations.LoadsFromL : Prop := Spec.LoadsFromL ∧ Spec.CorrectedErrorIsCounted

/-- R42, R48, R55: a load from S or from the Preoth data partition waits, with its steps charged and the pc at the load; MEMORY_ACCESS_COMPLETE
brings the value once the domain that the access reaches and the context's own are awake. -/
def Obligations.LoadsThatWait : Prop :=
  ∀ (s : State) (c : Nat) (rd ra : GReg) (sz : MemSize) (off : BitVec 12) (sp : MemSpace), sp = .s ∨ sp = .h →
    let a : Agent := .ctx c
    let ea := address s a ra off
    let n := size sz
    (CanIssue s a 1 → Fits ea n (if sp = .s then 0x1000000 else s.partBytes 3) →
      (∃ t, exec (.ld a rd ra sp sz off .clean) s = .next t ∧
        OnlyContext s t c (waiting (s.ctx c) 1 (.load rd sp ea.toNat n false .clean))) ∧
      (∃ t, exec (.lds a rd ra sp sz off .clean) s = .next t ∧
        OnlyContext s t c (waiting (s.ctx c) 1 (.load rd sp ea.toNat n true .clean)))) ∧
    (∀ addr len, c < 1024 → (s.ctx c).wait = some (.load rd sp addr len false .clean) → (s.ctx c).after = .go →
      s.asleep (ctxDomain c) = false → s.asleep (if sp = .s then 1 else interleavedDomain addr) = false →
      ∃ t, exec (.memoryAccessComplete a) s = .next t ∧
        OnlyContext s t c (resumed c (s.ctx c) rd (BitVec.ofNat 64 (little (s.readOwn a sp addr len)))))

/-- R40, R42, R47: a store to L writes the low bytes of rs, least significant first, and every other byte of L, and all of S and HBM, reads as
before; a store to S or to the data partition is posted behind the context's earlier stores, and no byte of memory changes yet. -/
def Sys2Proof.Spec.StoresToMemory : Prop :=
  ∀ (s : State) (a : Agent) (rs ra : GReg) (sz : MemSize) (off : BitVec 12), CanIssue s a 1 →
    let ea := address s a ra off
    let n := size sz
    let v := ((s.cpu a).get rs).toNat
    (Fits ea n (localSize a) →
      ∃ t, exec (.st a rs ra .l sz off) s = .next t ∧ t.cpu a = onward a (s.cpu a) ∧ t.readL a ea.toNat n = bytes v n ∧
        (∀ m, m < ea.toNat ∨ ea.toNat + n ≤ m → t.readL a m 1 = s.readL a m 1) ∧
        (∀ m k, t.readS m k = s.readS m k) ∧ (∀ p m k, t.hbmRead p m k = s.hbmRead p m k) ∧ SameRegisters s t [] ∧ SameUnits s t) ∧
    (∀ sp c, a = .ctx c → (sp = .s ∨ sp = .h) → Fits ea n (if sp = .s then 0x1000000 else s.partBytes 3) →
      ∃ t, exec (.st a rs ra sp sz off) s = .next t ∧
        OnlyContext s t c { charged (s.ctx c) 1 with
          cpu := onward a (s.cpu a), posted := (s.ctx c).posted ++ [({ sp := sp, addr := ea.toNat, data := bytes v n } : Posted)] }) ∧
    (∀ sp, sp ≠ .k → (sp = .l ∨ ∃ c, a = .ctx c) → ea.toNat % n ≠ 0 → Traps s a (.st a rs ra sp sz off) 3 ea) ∧
    (ea.toNat % n = 0 → localSize a < ea.toNat + n → Traps s a (.st a rs ra .l sz off) 4 ea)

/-- R47, R48: POSTED_STORE_COMPLETE applies a context's oldest posted store once the domain it reaches is awake: its bytes read so in S, every
other byte of S as before; with the last store a waiting fence completes. fence completes at once where no store of the context is pending,
else it waits. -/
def Sys2Proof.Spec.PostedStoresAndFence : Prop :=
  ∀ (s : State) (c : Nat),
    (∀ addr data rest, c < 1024 → (s.ctx c).posted = ({ sp := .s, addr := addr, data := data } : Posted) :: rest → s.asleep 1 = false →
      ∃ t, exec (.postedStoreComplete (.ctx c)) s = .next t ∧ t.readS addr data.length = data ∧
        (∀ m, m < addr ∨ addr + data.length ≤ m → t.readS m 1 = s.readS m 1) ∧ (∀ p m k, t.hbmRead p m k = s.hbmRead p m k) ∧
        (rest ≠ [] → t.ctx c = { s.ctx c with posted := rest }) ∧
        (rest = [] → (s.ctx c).wait = some .fence → (s.ctx c).after = .go →
          t.ctx c = { s.ctx c with posted := [], cpu := onward (.ctx c) (s.ctx c).cpu, st := .ready, wait := none })) ∧
    (CanIssue s (.ctx c) 1 →
      ((s.ctx c).posted = [] → Leaves s (.ctx c) 1 (.fence (.ctx c)) (s.ctx c).cpu) ∧
      ((s.ctx c).posted ≠ [] → ∃ t, exec (.fence (.ctx c)) s = .next t ∧ OnlyContext s t c (waiting (s.ctx c) 1 .fence)))

/-- R46: an atomic on L takes 2 steps: rd takes the old value, zero-extended; aadd leaves old + rd in memory, and cas leaves rb there where the
old value equals rd, the old value otherwise; every other byte of L reads as before. On K or H, or on 8 or 16 bits, the word is not listed and
traps ILLOP. -/
def Sys2Proof.Spec.AtomicsOnL : Prop :=
  ∀ (s : State) (c : Nat) (rd ra rb : GReg) (sz : MemSize) (off : BitVec 12), CanIssue s (.ctx c) 2 →
    let a : Agent := .ctx c
    let x := s.cpu a
    (sz = .b32 ∨ sz = .b64 → Fits (address s a ra off) (size sz) 0x20000 →
      let n := size sz
      let ea := (address s a ra off).toNat
      let old := little (s.readL a ea n)
      ∃ t, exec (.aadd a rd ra .l sz off .clean) s = .next t ∧ t.cpu a = onward a (x.put rd (BitVec.ofNat 64 old)) ∧
        t.readL a ea n = bytes (old + (x.get rd).toNat) n ∧ (∀ m, m < ea ∨ ea + n ≤ m → t.readL a m 1 = s.readL a m 1) ∧
        (t.ctx c).steps = (s.ctx c).steps + 2 ∧ SameRegisters s t [] ∧ SameUnits s t) ∧
    (Fits (x.get ra) 8 0x20000 →
      let ea := (x.get ra).toNat
      let old := little (s.readL a ea 8)
      ∃ t, exec (.cas a rd ra rb .l .clean) s = .next t ∧ t.cpu a = onward a (x.put rd (BitVec.ofNat 64 old)) ∧
        t.readL a ea 8 = (if old = (x.get rd).toNat then bytes (x.get rb).toNat 8 else s.readL a ea 8) ∧
        (∀ m, m < ea ∨ ea + 8 ≤ m → t.readL a m 1 = s.readL a m 1) ∧ (t.ctx c).steps = (s.ctx c).steps + 2 ∧
        SameRegisters s t [] ∧ SameUnits s t) ∧
    (∀ sp, sp = .k ∨ sp = .h →
      Traps s a (.aadd a rd ra sp sz off .clean) 1 (wordOf (.aadd a rd ra sp sz off .clean)) ∧
      Traps s a (.cas a rd ra rb sp .clean) 1 (wordOf (.cas a rd ra rb sp .clean))) ∧
    (∀ sp, sz = .b8 ∨ sz = .b16 → Traps s a (.aadd a rd ra sp sz off .clean) 1 (wordOf (.aadd a rd ra sp sz off .clean)))

/-- R43, R44, R45, R55: a packet-profile context's accesses to the frame it holds, which K shows from its first byte; they need no alignment, take a
second step where they cross an 8-byte boundary, and trap BOUNDS past the frame. Bytes 0 to 255 are the window's and are read and written at once;
bytes from 256 on are in the cells: a load of them waits, a store of them is posted. -/
def Sys2Proof.Spec.PacketSpaceAccesses : Prop :=
  ∀ (s : State) (c : Nat) (rd ra : GReg) (sz : MemSize) (off : BitVec 12) (p : Packet) (err : EccErr),
    let a : Agent := .ctx c
    let x := s.ctx c
    let ea := address s a ra off
    let n := size sz
    let cost := if 8 < ea.toNat % 8 + n then 2 else 1
    let v := ((s.cpu a).get rd).toNat
    CanIssue s a cost → x.packet = true → x.pkt = some p →
    (ea.toNat + n ≤ p.len - 4 → ea.toNat + n ≤ 256 →
      Writes s a cost (.ld a rd ra .k sz off err) rd (BitVec.ofNat 64 (little (s.readOwn a .k ea.toNat n))) ∧
      Writes s a cost (.lds a rd ra .k sz off err) rd (BitVec.ofInt 64 (signedValue n (little (s.readOwn a .k ea.toNat n)))) ∧
      ∃ t w, exec (.st a rd ra .k sz off) s = .next t ∧ OnlyContext s t c { charged x cost with cpu := onward a (s.cpu a), win := w } ∧
        (∀ k, k < n → w.getD (ea.toNat + k) 0 = (bytes v n).getD k 0) ∧
        (∀ k, k < ea.toNat ∨ ea.toNat + n ≤ k → w.getD k 0 = x.win.getD k 0)) ∧
    (ea.toNat + n ≤ p.len - 4 → 256 ≤ ea.toNat →
      (∃ t, exec (.ld a rd ra .k sz off err) s = .next t ∧ OnlyContext s t c (waiting x cost (.load rd .k ea.toNat n false err))) ∧
      (∃ t, exec (.st a rd ra .k sz off) s = .next t ∧ OnlyContext s t c { charged x cost with
        cpu := onward a (s.cpu a), posted := x.posted ++ [({ sp := .k, addr := ea.toNat, data := bytes v n } : Posted)] })) ∧
    (p.len - 4 < ea.toNat + n → Traps s a (.ld a rd ra .k sz off err) 4 ea ∧ Traps s a (.lds a rd ra .k sz off err) 4 ea ∧
      Traps s a (.st a rd ra .k sz off) 4 ea)

/-- Stores, posted stores and fence, and the accesses to a packet (of R43 to R48). -/
def Obligations.StoresAndFence : Prop := Spec.StoresToMemory ∧ Spec.PostedStoresAndFence ∧ Spec.PacketSpaceAccesses

/-- R46 to R48, R55: an atomic on S waits with its first step charged; with D1 and the context's own domain awake and no store of its own pending,
MEMORY_ACCESS_COMPLETE takes its effect: rd takes the old value, S holds the new one, every other byte of S reads as before, the second step is charged
and the context goes on. -/
def Sys2Proof.Spec.AtomicsOnS : Prop :=
  ∀ (s : State) (c : Nat) (rd ra rb : GReg) (sz : MemSize) (off : BitVec 12), c < 1024 →
    let a : Agent := .ctx c
    let x := s.cpu a
    (CanIssue s a 2 → sz = .b32 ∨ sz = .b64 → Fits (address s a ra off) (size sz) 0x1000000 →
      ∃ t, exec (.aadd a rd ra .s sz off .clean) s = .next t ∧
        OnlyContext s t c (waiting (s.ctx c) 1 (.atomic rd (address s a ra off).toNat (size sz) false 0 (x.get rd) .clean))) ∧
    (CanIssue s a 2 → Fits (x.get ra) 8 0x1000000 →
      ∃ t, exec (.cas a rd ra rb .s .clean) s = .next t ∧
        OnlyContext s t c (waiting (s.ctx c) 1 (.atomic rd (x.get ra).toNat 8 true (x.get rd) (x.get rb) .clean))) ∧
    (∀ addr n cas want v, (s.ctx c).wait = some (.atomic rd addr n cas want v .clean) → (s.ctx c).after = .go → (s.ctx c).posted = [] →
      n ≤ 8 → s.asleep (ctxDomain c) = false → s.asleep 1 = false →
      let old := little (s.readS addr n)
      ∃ t, exec (.memoryAccessComplete a) s = .next t ∧
        t.readS addr n = bytes (if cas = true then (if BitVec.ofNat 64 old = want then v.toNat else old) else old + v.toNat) n ∧
        (∀ m, m < addr ∨ addr + n ≤ m → t.readS m 1 = s.readS m 1) ∧
        t.cpu a = onward a (x.put rd (BitVec.ofNat 64 old)) ∧ (t.ctx c).st = .ready ∧ (t.ctx c).steps = (s.ctx c).steps + 1)
/-! ## Preoth: messages, timers and register access -/

/-- aadd and cas on L and on S (of R46, R47). -/
def Obligations.AtomicsOnLAndS : Prop := Spec.AtomicsOnL ∧ Spec.AtomicsOnS

/-- R81: the agent that a destination word names: bits [9:0] the number and [19:18] the kind, 0 a context and 1 the gate sequencer of a port up
to 144; none where bits [63:45] are not zero, the kind is another, or PCHK names a port above 143. -/
def Sys2Proof.Spec.destination (w : Quad) : Option Agent :=
  let n := w.toNat
  if 2 ^ 45 ≤ n ∨ (hasBit w 36 ∧ 143 < n / 2 ^ 20 % 256) then none
  else if n / 2 ^ 18 % 4 = 0 then some (.ctx (n % 1024))
  else if n / 2 ^ 18 % 4 = 1 ∧ n % 1024 ≤ 144 then some (.gate (n % 1024))
  else none

/-- A message on its way: its sender, the tag of its destination word (bits [44:37]), its body and where it goes (R81, R82). -/
def Sys2Proof.Spec.sent (x : Sender) (d : Quad) (body : List Quad) (b : Agent) : Flight :=
  { msg := { sender := x, tag := d.toNat / 2 ^ 37 % 256, body := body, dword := some d }, dest := b }

/-- R84, R85: send checks its body in L (8-byte aligned, len + 1 words inside L) and takes 2 steps; with no store pending it reads the words at
once and its message is under way, with the context's number, generation and authority and the tag of the destination word; the context waits
for the status. A destination word that R81 refuses returns status 0x0C with nothing sent. -/
def Sys2Proof.Spec.SendLaunchesMessage : Prop :=
  ∀ (s : State) (c : Nat) (rd ra rb : GReg) (len : BitVec 3), CanIssue s (.ctx c) 2 →
    let a : Agent := .ctx c
    let d := (s.cpu a).get ra
    let addr := ((s.cpu a).get rb).toNat
    let k := len.toNat + 1
    (addr % 8 ≠ 0 → Traps s a (.send a rd ra rb len) 3 ((s.cpu a).get rb)) ∧
    (addr % 8 = 0 → 0x20000 < addr + 8 * k → Traps s a (.send a rd ra rb len) 4 ((s.cpu a).get rb)) ∧
    (addr % 8 = 0 → addr + 8 * k ≤ 0x20000 → (s.ctx c).posted = [] →
      (∀ b, destination d = some b →
        ∃ t, exec (.send a rd ra rb len) s = .next t ∧ t.ctx c = waiting (s.ctx c) 2 (.send rd none none) ∧ SameMemory s t ∧
          (∀ e, e ≠ c → t.ctx e = s.ctx e) ∧
          t.pre.flights = s.pre.flights ++ [sent (.ctx c (s.ctx c).gen.toNat (s.ctx c).auth.toNat) d
            ((List.range k).map (fun j => BitVec.ofNat 64 (little (s.readL a (addr + 8 * j) 8)))) b]) ∧
      (destination d = none →
        ∃ t, exec (.send a rd ra rb len) s = .next t ∧ t.ctx c = waiting (s.ctx c) 2 (.send rd none (some 0x0C)) ∧
          t.pre.flights = s.pre.flights))

/-- R83, R84, R91: MESSAGE_ARRIVE at an awake context that is loaded, with the generation the word names and at least 3 entries free: the
message joins the tail of the mailbox, is no longer under way, and its sending context learns status 0; with fewer entries free it is refused
(status 0x0B) and counted; to a context that is not loaded the status is 0x0C. SEND_STATUS_RETURN then puts 0, or bit 63 and the code, in rd. -/
def Sys2Proof.Spec.MessageArrivalAndStatus : Prop :=
  ∀ (s : State) (c d n : Nat) (rd : GReg) (f : Flight), c < 1024 → d < 1024 → c ≠ d →
    (s.pre.flights[n]? = some f → f.dest = .ctx d → s.asleep (ctxDomain d) = false →
      (s.ctx c).wait = some (.send rd none none) → (∃ g au, f.msg.sender = .ctx c g au) →
      ∃ t, exec (.messageArrive n) s = .next t ∧ t.pre.flights = s.pre.flights.eraseIdx n ∧
        ((s.ctx d).loader = 0 → (t.ctx c).wait = some (.send rd none (some 0x0C)) ∧ (t.ctx d).mbx = (s.ctx d).mbx) ∧
        ((s.ctx d).loader ≠ 0 → (f.msg.dword.getD 0).toNat / 2 ^ 10 % 256 = (s.ctx d).gen.toNat → ¬ hasBit (f.msg.dword.getD 0) 36 →
          ((s.ctx d).mbx.length ≤ 13 → (t.ctx c).wait = some (.send rd none (some 0)) ∧ (t.ctx d).mbx = (s.ctx d).mbx ++ [f.msg]) ∧
          (13 < (s.ctx d).mbx.length → (t.ctx c).wait = some (.send rd none (some 0x0B)) ∧ (t.ctx d).mbx = (s.ctx d).mbx ∧
            t.rd Fld.PR_CTX_MBX_REFUSED d = min (s.rd Fld.PR_CTX_MBX_REFUSED d + 1) (2 ^ 16 - 1)))) ∧
    (∀ k, (s.ctx c).wait = some (.send rd none (some k)) → (s.ctx c).after = .go → s.asleep (ctxDomain c) = false →
      ∃ t, exec (.sendStatusReturn c) s = .next t ∧
        OnlyContext s t c (resumed c (s.ctx c) rd (if k = 0 then 0 else BitVec.ofNat 64 (2 ^ 63 + k))))

/-- A message from its send to its arrival and its status (of R81 to R84, R91). -/
def Obligations.MessagesSentAndArriving : Prop := Spec.SendLaunchesMessage ∧ Spec.MessageArrivalAndStatus

/-- R85 to R87: recv waits; RECV_MESSAGE_TAKEN hands the head of the mailbox over: the body to L from the address in ra, the header to rd, and
the message leaves the mailbox; RECV_DEADLINE with an empty mailbox returns 0 once the deadline is reached, and with a message takes it then. (A role of
the base set that the device carries out takes its messages itself, log 89.) -/
def Sys2Proof.Spec.ReceiveTakesHeadMessage : Prop :=
  ∀ (s : State) (c : Nat) (rd ra rb : GReg) (addr : Nat) (dl : Option (BitVec 32)),
    let a : Agent := .ctx c
    (CanIssue s a 1 → (s.ctx c).packet = false → ((s.cpu a).get ra).toNat % 8 = 0 → ((s.cpu a).get ra).toNat + 8 ≤ 0x20000 →
      ∃ t, exec (.recv a rd ra rb) s = .next t ∧ OnlyContext s t c (waiting (s.ctx c) 1 (.recv rd ((s.cpu a).get ra).toNat
        (if rb = 0 then none else some (BitVec.ofNat 32 (((s.cpu a).get rb).toNat / 2 ^ 8)))))) ∧
    (c < 1024 → s.asleep (ctxDomain c) = false → (s.ctx c).wait = some (.recv rd addr dl) → (s.ctx c).after = .go →
      (∀ m rest, s.roleRuns c = false → (s.ctx c).mbx = m :: rest → addr + 8 * m.body.length ≤ 0x20000 →
        ∃ t, exec (.recvMessageTaken a) s = .next t ∧ t.ctx c = resumed c { s.ctx c with mbx := rest } rd m.header ∧
          t.readL a addr (8 * m.body.length) = m.body.flatMap (fun w => bytes w.toNat 8) ∧
          (∀ k, k < addr ∨ addr + 8 * m.body.length ≤ k → t.readL a k 1 = s.readL a k 1)) ∧
      (∀ g, dl = some g → (s.ctx c).mbx = [] → (g - s.ns).toInt ≤ 0 →
        ∃ t, exec (.recvDeadline a) s = .next t ∧ OnlyContext s t c (resumed c (s.ctx c) rd 0)) ∧
      (∀ g m rest, dl = some g → (s.ctx c).mbx = m :: rest → (g - s.ns).toInt ≤ 0 → addr + 8 * m.body.length ≤ 0x20000 →
        ∃ t, exec (.recvDeadline a) s = .next t ∧ t.ctx c = resumed c { s.ctx c with mbx := rest } rd m.header ∧
          t.readL a addr (8 * m.body.length) = m.body.flatMap (fun w => bytes w.toNat 8)))

/-- R88, R102: TIMER_EXPIRY of an armed timer whose target TB_NS has reached disarms it and, with an entry free and the domain awake, puts its
message in the context's mailbox: SRCK 4, the timer's number, its tag, and the target in bits [39:8] of the body. A pending expiry enters by
PENDING_MESSAGE_RELEASE under the same condition. -/
def Sys2Proof.Spec.TimerMessages : Prop :=
  ∀ (s : State) (c t : Nat) (k : Timer), c < 1024 → t < 4 → (s.ctx c).mbx.length < 16 → s.asleep (ctxDomain c) = false →
    (Tab.get (s.ctx c).timers {} t = k → k.armed = true → (k.target - s.ns).toInt ≤ 0 →
      (∀ e ∈ s.pre.expiries, e.c ≠ c ∨ e.t ≠ t) →
      ∃ u m, exec (.timerExpiry c t) s = .next u ∧ (u.ctx c).mbx = (s.ctx c).mbx ++ [m] ∧ Tab.get (u.ctx c).timers {} t = {} ∧
        m.sender = .timer t ∧ m.tag = k.tag ∧ m.body = [BitVec.ofNat 64 (k.target.toNat * 256)] ∧ m.bounce = none ∧
        u.cpu (.ctx c) = s.cpu (.ctx c) ∧ SameMemory s u) ∧
    (∀ e n, s.pre.expiries[n]? = some e → e.c = c →
      ∃ u m, exec (.pendingMessageRelease n) s = .next u ∧ u.pre.expiries.length + 1 = s.pre.expiries.length ∧
        (e.stored = false → u.pre.expiries = s.pre.expiries.eraseIdx n) ∧ (u.ctx c).mbx = (s.ctx c).mbx ++ [m] ∧
        m.sender = .timer e.t ∧ m.tag = e.tag ∧ m.body = [BitVec.ofNat 64 (e.target.toNat * 256 + min e.missed 0xFFFF * 2 ^ 40)])

/-- What recv returns, and the messages of timers (of R82, R85 to R88). -/
def Obligations.MessagesReceivedAndTimers : Prop := Spec.ReceiveTakesHeadMessage ∧ Spec.TimerMessages

/-- The registers whose write does more than change their fields, or whose stated range refuses with an event: their own statements say what. -/
def Sys2Proof.Spec.effectRegs : List Reg :=
  [.PR_CTX_STATE, .PR_CTX_PC, .PR_CTX_TRAPVEC, .PR_CTX_TRAP, .PR_CTX_GREG, .PR_MEM_DATA, .PR_STM_DATA, .PR_HMSG_CTRL, .PR_LOAD_CTRL,
   .GT_LOAD_CTRL, .GT_CTRL, .KT_BOOT_CTRL, .KT_RESET, .KT_WDOG, .KT_SITE_VENDOR, .KT_SITE_SERIAL, .KT_SITE_CTRL, .KT_ESTOP, .KT_SAVE_DATA] ++
  [.OP_WD_CTRL, .TB_INCR, .TB_STEP, .TB_CTRL, .TB_PPSOUT_NEXT, .TT_TOD_INFO, .TT_HO_CTRL, .TT_BC_ID, .TT_ASYM_MODEL, .TC_DS_MODE, .TC_RNG_EQD,
   .TC_DS_GRP_CTRL, .TC_ACT_CTRL, .TC_DSC_SNAPREQ, .TM_ALLOC_MAP, .TM_HOLD_FORCE, .TM_PRED_VAL, .TM_SHP_SEL, .TM_SHP_RATE, .TM_SHP_BURST] ++
  [.TM_SHP_CTRL, .TM_POL_SEL, .TM_POL_RATE, .TM_POL_BURST, .TM_POL_CTRL, .LN_CTRL, .LN_PRBS_CTRL, .MC_PREEMPT, .MC_ROLE, .SV_RS_CTRL, .SV_EM_WORD,
   .SV_TR_WORD, .SV_ACT_WORD, .SV_WHISK_SEED, .LD_PART_PS, .LD_PART_RO, .LD_PART_PD, .LD_PART_LS, .LD_POOL_REGION, .LD_REQ_RSV, .LD_REQ_CAP] ++
  [.LD_LOOK, .CX_SC_CFG, .CX_SC_PN, .CX_SC_THR, .CX_LANE_CTRL, .CX_PON_GEN, .CX_ROOT_KEY, .CX_ROOT_CTRL, .CX_KEK_CLEAR, .CX_BLOB_W, .CX_BLOB_GO,
   .PW_CTRL, .MG_LATCH_CTRL, .MG_MSIX_CTRL, .PR_MEM_ADDR, .PR_STM_ADDR, .PR_ENG_CTRL, .TM_ALLOC_Q, .TC_SLEEP_CTRL, .TM_PRED_CFG, .TT_BC_PORT] ++
  [.TM_Q_CFG, .TM_HOLD_DRAIN, .LD_POOL_LOW, .PW_DOM_TARGET, .PW_DOM_WAKE, .PW_NEED, .PW_PICK_DEST, .PW_VOTE_HOST, .PW_VOTE_SER, .PW_THERM,
   .TT_ASYM_STAT, .TT_ASYM_CTRL, .MG_DELEG, .MG_RING_CTRL, .CX_SC_SSCI, .CX_SC_SCI, .MG_RING_BASE, .TB_TODOUT_BUF, .TM_LOAD_CFG, .TM_LR_BASE,
   .TM_CR_BASE, .MG_PROXY_CTRL, .TC_VPLOAM_CTRL]

/-- The registers that show state which has its home elsewhere, and the windows. -/
def Sys2Proof.Spec.viewRegs : List Reg :=
  [.PR_ENG_STATUS, .PR_CTX_STATE, .PR_CTX_PC, .PR_CTX_TRAPVEC, .PR_CTX_TRAP, .PR_CTX_TVAL, .PR_CTX_STEPS, .PR_CTX_ROLE, .PR_CTX_MBX, .PR_CTX_AUTH,
   .PR_CTX_GREG, .PR_MEM_DATA, .PR_STM_DATA, .KT_SAVE_DATA, .TB_NS, .TB_FRAC, .TB_WRAP, .TB_INCR, .TB_INCR_NOM, .TM_ALLOC_HELD, .TM_HOLD_USED] ++
  [.TM_Q_DEPTH, .TM_SHP_SEL, .TM_SHP_RATE, .TM_SHP_BURST, .TM_SHP_CTRL, .TM_SHP_CREDIT, .TM_SHP_STAT, .TM_POL_SEL, .TM_POL_RATE, .TM_POL_BURST,
   .TM_POL_CTRL, .TM_POL_PASS, .TM_POL_DROP, .TM_HWM_DEPTH, .TM_HWM_DELAY, .TM_HWM_LAST, .LD_POOL_FREE, .LD_PART_CAP, .LD_REQ_USED, .LD_XF_STAT] ++
  [.SV_EM_WORD, .SV_EM_COUNT, .SV_TR_WORD, .SV_ACT_WORD, .SV_FS_BYTES, .SV_FS_PKTS, .SV_RS_PIN, .SV_RS_STATUS, .SV_BB_FRAGS, .LN_STATUS, .LN_BUDGET,
   .LN_GRP_SUM, .LN_OPT, .OP_DS_POWER, .KT_OVEN_CASE, .GT_STATUS, .CX_ROOT_STAT, .CX_ROOT_KCV, .CX_KEK_STAT, .CX_BLOB_SEQ, .PW_DOM_VOTES] ++
  [.MG_LATCH_STAT, .MG_LATCH_CTRL, .MG_LATCH_HEAD, .CX_LANE_STAT]

/-- A state in which a context has issued an instruction of one step and waits with `w`, before anything else happens. -/
def Sys2Proof.Spec.parked (s : State) (c : Nat) (w : Wait) : State :=
  (s.setEng (c / 8) { s.eng (c / 8) with last := c % 8, turns := turnsAfter s c 1, stepDue := false }).setCtx c (waiting (s.ctx c) 1 w)

/-- R65, R68: creg and cwr of a control context trap ALIGN, BOUNDS, AUTH and ASLEEP, in this order of check, with the offset as TVAL (for ASLEEP with the
domain in bits [35:32]). Otherwise the access is made in the context's name, one step is charged and the context waits at its pc. What creg brings: 0
from an offset without a register; from a register word what the read of that word answers, which, for a register that shows no other state and has
no clear-on-read field, is the half addressed of the value it holds, with nothing else changed. A cwr to a mapped offset without a register changes
nothing, and one to a register without an effect of its own gives it the merged value, where that is in its stated range, and changes no other register
but those that follow the votes. MEMORY_ACCESS_COMPLETE then puts the word in rd and the context goes on. The last clauses
say the same of PR_STM_ADDR, where the hypotheses are on the context's authority and the domain alone. -/
def Obligations.RegisterAccessFromProgram : Prop :=
  ∀ (s : State) (c : Nat) (rd ra rb : GReg), (s.ctx c).packet = false →
    let a : Agent := .ctx c
    let a' : Src := .ctx c
    let v := (s.cpu a).get ra
    let y := ((s.cpu a).get rb).toNat
    let fine := fun (w : Option Nat) => v.toNat % 4 = 0 ∧ v.toNat < 2 ^ 28 ∧ s.reach a' v.toNat w ≠ .auth ∧
      ∀ d, s.reach a' v.toNat w ≠ .asleep d
    (CanIssue s a 1 →
      (fine none → ∃ t w, exec (.creg a rd ra) s = .next t ∧ (t.ctx c).st = .waiting ∧ (t.ctx c).wait = some (.access rd w) ∧
        (t.ctx c).cpu = (s.ctx c).cpu ∧ (t.ctx c).steps = (s.ctx c).steps + 1 ∧ SameMemory s t ∧
        (mapped v.toNat = false ∨ Loc.find v.toNat = none → w = 0) ∧
        (∀ l, mapped v.toNat = true → Loc.find v.toNat = some l →
          w = BitVec.ofNat 64 ((parked s c (.access rd 0)).readWord a' l).2 ∧
          (l.reg ∉ viewRegs → l.reg.isSlot = false → l.reg.slotOf l.i l.k = none → l.reg.mask (fun x => x = .rc) = 0 →
            w.toNat = (s.rdReg l.reg l.i l.k).toNat / (if l.high = true then 2 ^ 32 else 1) % 2 ^ 32 ∧
            OnlyContext s t c (waiting (s.ctx c) 1 (.access rd w))))) ∧
      (fine (some (y % 2 ^ 32)) → ∃ t, exec (.cwr a ra rb) s = .next t ∧
        (mapped v.toNat = true → Loc.find v.toNat = none → ∃ w, OnlyContext s t c (waiting (s.ctx c) 1 (.access 0 w))) ∧
        (∀ l, Loc.find v.toNat = some l → l.reg ∉ effectRegs → l.reg ∉ voteRegs →
          let new := l.reg.merged (ttReg l.reg) l.high (s.rdReg l.reg l.i l.k).toNat (y % 2 ^ 32)
          (t.ctx c).st = .waiting ∧ (t.ctx c).cpu = (s.ctx c).cpu ∧ (t.ctx c).steps = (s.ctx c).steps + 1 ∧ SameMemory s t ∧
          t.rdReg l.reg l.i l.k = (if l.reg.inRange new = true then BitVec.ofNat 64 new else s.rdReg l.reg l.i l.k) ∧
          SameRegisters s t (l.reg :: voteRegs))) ∧
      (v.toNat % 4 ≠ 0 → Traps s a (.creg a rd ra) 3 v ∧ Traps s a (.cwr a ra rb) 3 v) ∧
      (v.toNat % 4 = 0 → 2 ^ 28 ≤ v.toNat → Traps s a (.creg a rd ra) 4 v ∧ Traps s a (.cwr a ra rb) 4 v) ∧
      (v.toNat % 4 = 0 → v.toNat < 2 ^ 28 → (s.reach a' v.toNat none = .auth → Traps s a (.creg a rd ra) 5 v) ∧
        (s.reach a' v.toNat (some (y % 2 ^ 32)) = .auth → Traps s a (.cwr a ra rb) 5 v) ∧
        ∀ d, (s.reach a' v.toNat none = .asleep d → Traps s a (.creg a rd ra) 6 (BitVec.ofNat 64 (v.toNat + d * 2 ^ 32))) ∧
          (s.reach a' v.toNat (some (y % 2 ^ 32)) = .asleep d → Traps s a (.cwr a ra rb) 6 (BitVec.ofNat 64 (v.toNat + d * 2 ^ 32)))) ∧
      (v = 0x01400000 → (s.ctx c).auth = 0 → Traps s a (.creg a rd ra) 5 v ∧ Traps s a (.cwr a ra rb) 5 v) ∧
      (v = 0x01400000 → (s.ctx c).auth = 2 → s.asleep 1 = true →
        Traps s a (.creg a rd ra) 6 (v + 0x100000000) ∧ Traps s a (.cwr a ra rb) 6 (v + 0x100000000)) ∧
      (v = 0x01400000 → (s.ctx c).auth = 2 → s.asleep 1 = false →
        (∃ t w, exec (.creg a rd ra) s = .next t ∧ OnlyContext s t c (waiting (s.ctx c) 1 (.access rd w)) ∧
          w.toNat % 2 ^ 24 = s.rd Fld.PR_STM_ADDR_ADDR) ∧
        (∃ t, exec (.cwr a ra rb) s = .next t ∧ (t.ctx c).st = .waiting ∧ (t.ctx c).cpu = (s.ctx c).cpu ∧
          (t.ctx c).steps = (s.ctx c).steps + 1 ∧ t.rd Fld.PR_STM_ADDR_ADDR = y % 2 ^ 24 / 4 * 4 ∧ SameMemory s t ∧
          SameRegisters s t (.PR_STM_ADDR :: voteRegs)))) ∧
    (∀ w, c < 1024 → (s.ctx c).wait = some (.access rd w) → (s.ctx c).after = .go → s.asleep (ctxDomain c) = false →
      ∃ t, exec (.memoryAccessComplete a) s = .next t ∧ OnlyContext s t c (resumed c (s.ctx c) rd w))

/-! ## Preoth: hardware calls -/

/-- A call has taken effect: its result waits to be returned, the context's registers are as they were and its steps are charged (R52, R94). -/
def Sys2Proof.Spec.Answered (s t : State) (a : Agent) (rd : GReg) (n : Nat) (arg r : Quad) : Prop :=
  t.agentState a = .waiting ∧ t.agentWait a = some (.hcall rd n arg (some r)) ∧ t.cpu a = s.cpu a

/-- A status of R94: bit 63 and its code. -/
def Sys2Proof.Spec.status (code : Nat) : Quad := BitVec.ofNat 64 (2 ^ 63 + code)

/-- R52, R94, R95: HCALL_COMPLETE puts the result of a call that has taken effect in rd, and the agent goes on; only pw.vote with WAIT keeps
waiting while its domain is not at Full. -/
def Sys2Proof.Spec.CallResultIsReturned : Prop :=
  ∀ (s : State) (c n : Nat) (rd : GReg) (arg r : Quad), c < 1024 → s.asleep (ctxDomain c) = false →
    (s.ctx c).wait = some (.hcall rd n arg (some r)) → (s.ctx c).after = .go →
    (n ≠ 0x60 ∨ ¬ hasBit arg 8 ∨ hasBit r 63 ∨ s.asleep (arg.toNat % 16) = false →
      ∃ t, exec (.hcallComplete (.ctx c)) s = .next t ∧ OnlyContext s t c (resumed c (s.ctx c) rd r)) ∧
    (n = 0x60 → hasBit arg 8 → ¬ hasBit r 63 → s.asleep (arg.toNat % 16) = true → exec (.hcallComplete (.ctx c)) s = .next s)

/-- R102: in a control context, tb.timer with no bit of its argument above 47 arms the lowest free timer with the time in [39:8] and the tag in [47:40] and
answers its number, or NOSLOT (7) with all four armed; tb.cancel with an argument of 0 to 3 disarms that timer; pw.next with no bit above 39 declares the
known event in [39:8], or clears it with 0. Each answers at once. -/
def Sys2Proof.Spec.TimerCalls : Prop :=
  ∀ (s : State) (c : Nat) (rd ra : GReg) (k : Nat), (s.ctx c).packet = false →
    let a : Agent := .ctx c
    let arg := (s.cpu a).get ra
    let timer := fun (x : State) (j : Nat) => Tab.get (x.ctx c).timers {} j
    let time := BitVec.ofNat 32 (arg.toNat / 2 ^ 8)
    (CanIssue s a 2 → arg.toNat < 2 ^ 48 → k < 4 → (timer s k).armed = false → (∀ j, j < k → (timer s j).armed = true) →
      ∃ t, exec (.tbTimer a rd ra) s = .next t ∧ Answered s t a rd 0x50 arg (BitVec.ofNat 64 k) ∧
        timer t k = { armed := true, target := time, tag := arg.toNat / 2 ^ 40 % 256 } ∧ (∀ j, j ≠ k → timer t j = timer s j)) ∧
    (CanIssue s a 2 → arg.toNat < 2 ^ 48 → (∀ j, j < 4 → (timer s j).armed = true) →
      ∃ t, exec (.tbTimer a rd ra) s = .next t ∧ Answered s t a rd 0x50 arg (status 7) ∧ (t.ctx c).timers = (s.ctx c).timers) ∧
    (CanIssue s a 2 → arg.toNat < 4 →
      ∃ t, exec (.tbCancel a rd ra) s = .next t ∧ Answered s t a rd 0x51 arg 0 ∧ timer t arg.toNat = {} ∧
        (∀ j, j ≠ arg.toNat → timer t j = timer s j)) ∧
    (CanIssue s a 1 → arg.toNat < 2 ^ 40 →
      ∃ t, exec (.pwNext a rd ra) s = .next t ∧ Answered s t a rd 0x62 arg 0 ∧
        (t.ctx c).pnext = if arg = 0 then none else some time)

/-- R103, R496, R497: pw.vote of a serial- or host-authority context takes the lowest free program slot of domain d and answers its ticket, the slot
in [4:0] and the domain in [11:8]; pw.unvote of a ticket that the context holds frees it; head-end authority is answered AUTH (5), a domain
outside 1 to 12 RANGE (6). (pw.vote here with no other bit of its argument set.) -/
def Sys2Proof.Spec.VoteCalls : Prop :=
  ∀ (s : State) (c : Nat) (rd ra : GReg) (k : Nat), (s.ctx c).packet = false →
    let a : Agent := .ctx c
    let arg := (s.cpu a).get ra
    let d := arg.toNat
    let owner := fun (x : State) (n : Nat) => Tab.get x.pow.owner 0 n
    (CanIssue s a 2 → (s.ctx c).auth = 1 ∨ (s.ctx c).auth = 2 →
      (1 ≤ d → d ≤ 12 → k < 28 → owner s (32 * d + k) = 0 → (∀ j, j < k → owner s (32 * d + j) ≠ 0) → s.votesOf c < 32 →
        ∃ t, exec (.pwVote a rd ra) s = .next t ∧ Answered s t a rd 0x60 arg (BitVec.ofNat 64 (k + d * 256)) ∧
          owner t (32 * d + k) = c + 1 ∧ (∀ n, n ≠ 32 * d + k → owner t n = owner s n)) ∧
      (d = 0 ∨ (12 < d ∧ d < 16) →
        ∃ t, exec (.pwVote a rd ra) s = .next t ∧ Answered s t a rd 0x60 arg (status 6) ∧ ∀ n, owner t n = owner s n) ∧
      (d = 256 * (d / 256) + k → d < 4096 → k < 32 → owner s (32 * (d / 256) + k) = c + 1 →
        ∃ t, exec (.pwUnvote a rd ra) s = .next t ∧ Answered s t a rd 0x61 arg 0 ∧ owner t (32 * (d / 256) + k) = 0 ∧
          (∀ n, n ≠ 32 * (d / 256) + k → owner t n = owner s n))) ∧
    (CanIssue s a 2 → (s.ctx c).auth = 3 →
      (∃ t, exec (.pwVote a rd ra) s = .next t ∧ Answered s t a rd 0x60 arg (status 5) ∧ ∀ n, owner t n = owner s n) ∧
      (∃ t, exec (.pwUnvote a rd ra) s = .next t ∧ Answered s t a rd 0x61 arg (status 5) ∧ ∀ n, owner t n = owner s n))

/-- The hardware calls on timers and on votes (of R85, R95, R103, R497). -/
def Obligations.TimerAndVoteCalls : Prop := Spec.TimerCalls ∧ Spec.VoteCalls

/-- R459, R477, R408, R400: in a control context of host authority, with the call's domain awake and an argument in range: tm.depth answers the depth in bytes
and packets of a queue, each saturating; tm.delay its newest sample, NOMATCH (8) before the first, and neither changes the traffic manager; sv.flowstat a
flow's bytes and packets as programs have gathered them, which it clears, and not the host's; sv.lookup of a formed key at an aligned L address the action of
the matching entry, NOMATCH where none matches, and changes nothing of Sieve; cx.pnleft how many more PNs a context has, and changes nothing of the cipher. -/
def Sys2Proof.Spec.QueryCalls : Prop :=
  ∀ (s : State) (c : Nat) (rd ra : GReg), CanIssue s (.ctx c) 2 → (s.ctx c).packet = false → (s.ctx c).auth = 2 →
    let a : Agent := .ctx c
    let arg := (s.cpu a).get ra
    let n := arg.toNat
    (s.asleep 5 = false → n < 4096 →
      (∃ t, exec (.tmDepth a rd ra) s = .next t ∧ t.tm = s.tm ∧ Answered s t a rd 0x30 arg
        (BitVec.ofNat 64 (min (s.depth n) (2 ^ 32 - 1) + min (s.queue n).length (2 ^ 24 - 1) * 2 ^ 32))) ∧
      (∃ t, exec (.tmDelay a rd ra) s = .next t ∧ t.tm = s.tm ∧ Answered s t a rd 0x31 arg
        (match (s.qstat n).last with | some d => BitVec.ofNat 64 d | none => status 8))) ∧
    (s.asleep 4 = false →
      (n < 2 ^ 16 →
        ∃ t, exec (.svFlowstat a rd ra) s = .next t ∧ Tab.get t.sv.fsProg (0, 0) n = (0, 0) ∧ t.sv.fsHost = s.sv.fsHost ∧
          Answered s t a rd 0x21 arg
            (BitVec.ofNat 64 ((Tab.get s.sv.fsProg (0, 0) n).1 + (Tab.get s.sv.fsProg (0, 0) n).2 * 2 ^ 40))) ∧
      (n % 8 = 0 → n + 64 ≤ 0x20000 →
        let key := (List.range 8).map (fun k => little (s.readL a (n + 8 * k) 8))
        keyFormed key = true →
        ∃ t, exec (.svLookup a rd ra) s = .next t ∧ t.sv = s.sv ∧ Answered s t a rd 0x20 arg
          (match s.emLookup key with | some f => BitVec.ofNat 64 (s.action f) | none => status 8))) ∧
    (s.asleep 8 = false → n < 1024 →
      ∃ t, exec (.cxPnleft a rd ra) s = .next t ∧ t.cx = s.cx ∧ Answered s t a rd 0x41 arg (BitVec.ofNat 64 (s.pnLeft n)))

/-- R420, R424, R426, R487: in a control context of host authority. With D5 awake, ld.alloc of a pool answers NONE (3), or a handle whose ledger entry then shows the
calling engine, the handle's generation and the pool, allocated; ld.free of an allocated buffer of the handle's generation that the engine owns answers 0
and clears ALLOC, and one of another owner answers STALE (4) and changes nothing of Ladle. With D8 awake, cx.unwrap of a blob at an aligned L address with
fewer than 16 unwraps pending answers the next sequence number and puts the blob behind the others, else BUSY (1), with nothing of the cipher changed. -/
def Sys2Proof.Spec.BufferAndUnwrapCalls : Prop :=
  ∀ (s : State) (c : Nat) (rd ra : GReg), CanIssue s (.ctx c) 2 → (s.ctx c).packet = false → (s.ctx c).auth = 2 →
    let a : Agent := .ctx c
    let arg := (s.cpu a).get ra
    let n := arg.toNat
    (s.asleep 5 = false → n < 4 →
      ∃ t r, exec (.ldAlloc a rd ra) s = .next t ∧ Answered s t a rd 0x10 arg r ∧
        (r = status 3 ∨ ∃ idx g, r = BitVec.ofNat 64 (n * 2 ^ 38 + g * 2 ^ 30 + idx) ∧
          t.ledger idx = ({ owner := c / 8, gen := g, pool := n, alloc := true } : Ledger))) ∧
    (s.asleep 5 = false → n < 2 ^ 40 → s.handleFormed n = true →
      let e := s.ledger (n % 2 ^ 27)
      e.alloc = true → e.quar = false → n / 2 ^ 30 % 2 ^ 8 = e.gen →
      (e.owner = c / 8 →
        ∃ t, exec (.ldFree a rd ra) s = .next t ∧ Answered s t a rd 0x11 arg 0 ∧ (t.ledger (n % 2 ^ 27)).alloc = false) ∧
      (e.owner ≠ c / 8 →
        ∃ t, exec (.ldFree a rd ra) s = .next t ∧ Answered s t a rd 0x11 arg (status 4) ∧ t.ld = s.ld)) ∧
    (s.asleep 8 = false → n % 8 = 0 → n + 64 ≤ 0x20000 →
      (s.cx.unwraps.length < 16 →
        ∃ t, exec (.cxUnwrap a rd ra) s = .next t ∧ Answered s t a rd 0x40 arg (BitVec.ofNat 64 s.cx.nextSeq) ∧
          ∃ u, t.cx.unwraps = s.cx.unwraps ++ [u] ∧ u.seq = s.cx.nextSeq ∧ t.cx.nextSeq = (s.cx.nextSeq + 1) % 65536 ∧
            u.blob = (List.range 8).map (fun j => BitVec.ofNat 64 (little (s.readL a (n + 8 * j) 8)))) ∧
      (16 ≤ s.cx.unwraps.length → ∃ t, exec (.cxUnwrap a rd ra) s = .next t ∧ Answered s t a rd 0x40 arg (status 1) ∧ t.cx = s.cx))

/-- The hardware calls that look something up, and those on buffers and unwraps (of R95, R96). -/
def Obligations.QueryBufferAndUnwrapCalls : Prop := Spec.QueryCalls ∧ Spec.BufferAndUnwrapCalls

/-- R96 to R101, R398: in a packet-profile context with host authority that holds a packet, no other packet of whose flow its engine holds, with no store
on its way and the domain the call needs awake: pkt.drop takes the packet from the context and counts PR_ENG_PROGDROP; pkt.recirc puts it behind the packets
that wait for their second pass, once, and answers PASS2 (9) the second time; pkt.send takes it from the context and answers 0, with the packet at the tail of the
queue (or of the hold queue the queue is diverted to), or ADMIT (0x0A). pkt.dup and pkt.emit leave the context its packet: answered 0, a copy of its length
and flow, or the frame that the record at the L address spells, stands at the tail; else the answer is NONE (3), RANGE (6, for pkt.dup) or ADMIT. pkt.emit
of an address that is not aligned answers RANGE. -/
def Sys2Proof.Spec.PacketReleaseCalls : Prop :=
  ∀ (s : State) (c : Nat) (rd ra : GReg) (p : Packet), (s.ctx c).packet = true → (s.ctx c).auth = 2 → (s.ctx c).pkt = some p →
    (s.ctx c).posted = [] → (∀ x ∈ (s.eng (c / 8)).order, x.1 ≠ c → x.2 ≠ p.flow) →
    let a : Agent := .ctx c
    let arg := (s.cpu a).get ra
    (CanIssue s a 2 →
      (s.asleep 5 = false → arg = 0 → ∃ t, exec (.pktDrop a rd ra) s = .next t ∧ Answered s t a rd 0x03 arg 0 ∧ (t.ctx c).pkt = none ∧
        t.rd Fld.PR_ENG_PROGDROP_COUNT (c / 8) = min (s.rd Fld.PR_ENG_PROGDROP_COUNT (c / 8) + 1) (2 ^ 32 - 1)) ∧
      (s.asleep 4 = false → arg = 0 → p.pass2 = false → ∃ t, exec (.pktRecirc a rd ra) s = .next t ∧ Answered s t a rd 0x04 arg 0 ∧
        (t.ctx c).pkt = none ∧ ∃ x, Tab.get t.sv.rx [] 145 = Tab.get s.sv.rx [] 145 ++ [x] ∧ x.pass2 = true ∧ x.handle = p.handle ∧ x.flow = p.flow) ∧
      (s.asleep 4 = false → arg = 0 → p.pass2 = true → ∃ t, exec (.pktRecirc a rd ra) s = .next t ∧ Answered s t a rd 0x04 arg (status 9) ∧
        (t.ctx c).pkt = some p) ∧
      (s.asleep 5 = false → arg.toNat < 4096 → ∃ t r, exec (.pktSend a rd ra) s = .next t ∧ Answered s t a rd 0x02 arg r ∧
        (r = 0 ∨ r = status 0x0A) ∧ (t.ctx c).pkt = none ∧ t.cpu a = s.cpu a ∧
        (r = 0 → p.handle ≠ 0 → ∃ x, t.queue (s.divert arg.toNat) = s.queue (s.divert arg.toNat) ++ [x] ∧ x.handle = p.handle ∧ x.flow = p.flow ∧
          x.len = p.len))) ∧
    (CanIssue s a 4 → s.asleep 5 = false →
      (arg.toNat < 4096 → ∃ t r, exec (.pktDup a rd ra) s = .next t ∧ Answered s t a rd 0x05 arg r ∧
        (r = 0 ∨ r = status 3 ∨ r = status 6 ∨ r = status 0x0A) ∧ (t.ctx c).pkt = some p ∧
        (r = 0 → ∃ x, t.queue (s.divert arg.toNat) = s.queue (s.divert arg.toNat) ++ [x] ∧ x.flow = p.flow ∧ x.len = p.len)) ∧
      (arg.toNat % 8 ≠ 0 → ∃ t, exec (.pktEmit a rd ra) s = .next t ∧ Answered s t a rd 0x06 arg (status 6) ∧ (t.ctx c).pkt = some p) ∧
      (let w := little (s.readL a arg.toNat 8)
       let n := w / 2 ^ 12 % 2 ^ 14
       arg.toNat % 8 = 0 → arg.toNat + 8 + n ≤ 0x20000 → w < 2 ^ 35 → 14 ≤ n → n ≤ 256 →
        ∃ t r, exec (.pktEmit a rd ra) s = .next t ∧ Answered s t a rd 0x06 arg r ∧ (r = 0 ∨ r = status 3 ∨ r = status 0x0A) ∧
          (t.ctx c).pkt = some p ∧ (r = 0 → ∃ x, t.queue (s.divert (w % 2 ^ 12)) = s.queue (s.divert (w % 2 ^ 12)) ++ [x] ∧ x.len = n + 4 ∧
            x.data = s.readL a (arg.toNat + 8) n ∧ x.inport = 255)))

/-- R96: pkt.next without a packet waits for one, and with one answers BUSY (1); PACKET_DELIVERY of the head of the engine's input queue to the
context that waits, with the domains it needs awake, opens K on the packet, puts the descriptor words in g1 to g3 and word 0 in rd, and starts the
packet's step count. (A packet role of the base set that the device carries out takes its packets itself, log 89.) -/
def Sys2Proof.Spec.PacketNextAndDelivery : Prop :=
  ∀ (s : State) (c e : Nat) (rd ra : GReg),
    let a : Agent := .ctx c
    let arg := (s.cpu a).get ra
    (CanIssue s a 2 → (s.ctx c).packet = true → arg = 0 →
      ((s.ctx c).pkt = none → ∃ t, exec (.pktNext a rd ra) s = .next t ∧ OnlyContext s t c (waiting (s.ctx c) 2 (.pktNext rd))) ∧
      ((s.ctx c).pkt ≠ none → ∃ t, exec (.pktNext a rd ra) s = .next t ∧
        OnlyContext s t c (waiting (s.ctx c) 2 (.hcall rd 0x01 0 (some (status 1)))))) ∧
    (∀ p rest, e < 128 → s.nextTaker e = some c → s.roleRuns c = false → (s.ctx c).wait = some (.pktNext rd) → (s.ctx c).after = .go →
      s.queue (3200 + e) = p :: rest → s.asleep 5 = false → s.asleep (engineDomain e) = false →
      s.asleep (cellDomain (p.handle % 2 ^ 30)) = false →
      ∃ t, exec (.packetDelivery e) s = .next t ∧ (t.ctx c).pkt = some p ∧ (t.ctx c).win = p.data.take 256 ∧
        (t.ctx c).st = .ready ∧ (t.ctx c).wait = none ∧ (t.ctx c).counting = true ∧ (t.ctx c).pktSteps = 0 ∧
        (rd ≠ 0 → (t.ctx c).cpu.get rd = p.words.1) ∧ (rd ≠ 1 → (t.ctx c).cpu.get 1 = p.words.1) ∧
        (rd ≠ 2 → (t.ctx c).cpu.get 2 = p.words.2.1) ∧ (rd ≠ 3 → (t.ctx c).cpu.get 3 = p.words.2.2) ∧
        (∀ g : GReg, 4 ≤ g.toNat → g ≠ rd → (t.ctx c).cpu.get g = (s.ctx c).cpu.get g) ∧ t.queue (3200 + e) = rest)

/-- The hardware calls on packets and the delivery of a packet (of R95 to R101). -/
def Obligations.PacketCalls : Prop := Spec.PacketReleaseCalls ∧ Spec.PacketNextAndDelivery

/-- R77, R79, R105, R112: ev.raise of an event outside 912 to 959 answers RANGE (6) and raises none; inside it 0, and where the event is enabled without a rate limit
and D12 sleeps, its record, with the context and the argument's payload, is next in the Kettle's latch. auth.narrow completes at once, lowers the
authority in the order serial, host, head end, and answers RANGE otherwise; an hcall number that the table lacks traps HCALL with the number;
gt.edge with a slot free answers 0 and puts the edge behind the pending ones, and gt.flush answers the number of pending edges later than its time, which are gone. -/
def Sys2Proof.Spec.EventAuthorityAndGateCalls : Prop :=
  ∀ (s : State) (a : Agent) (rd ra : GReg),
    let arg := (s.cpu a).get ra
    (CanIssue s a 2 → ∀ c, a = .ctx c →
      (let n := arg.toNat % 1024
       arg.toNat / 2 ^ 10 % 2 ^ 6 = 0 →
        (912 ≤ n → n ≤ 959 → ∃ t, exec (.evRaise a rd ra) s = .next t ∧ Answered s t a rd 0x78 arg 0 ∧
          (s.on Fld.MG_EVT_CFG_EN 0 n = true → s.rd Fld.MG_EVT_CFG_RATE 0 n = 0 → s.asleep 12 = true → s.cp.latch.length < 64 →
            t.cp.latch[s.cp.latch.length]? = some { ev := n, count := 1, tsv := s.tsValid, latched := true, ns := s.ns
                                                    payload := BitVec.ofNat 64 (c % 65536 + arg.toNat / 65536 * 65536) })) ∧
        (n < 912 ∨ 959 < n → ∃ t, exec (.evRaise a rd ra) s = .next t ∧ Answered s t a rd 0x78 arg (status 6) ∧ t.cp = s.cp))) ∧
    (CanIssue s a 1 → ∀ c, a = .ctx c →
      ((s.ctx c).auth ≠ 0 → (s.ctx c).auth.toNat < arg.toNat → arg.toNat < 4 →
        exec (.authNarrow a rd ra) s = .next ((done s a 1 (onward a ((s.cpu a).put rd 0))).setCtx c
          { (done s a 1 (onward a ((s.cpu a).put rd 0))).ctx c with auth := BitVec.ofNat 2 arg.toNat })) ∧
      ((s.ctx c).auth = 0 ∨ arg.toNat ≤ (s.ctx c).auth.toNat ∨ 4 ≤ arg.toNat → Writes s a 1 (.authNarrow a rd ra) rd (status 6))) ∧
    (∀ n : BitVec 8, n.toNat ∉ [1, 2, 3, 4, 5, 6, 0x10, 0x11, 0x20, 0x21, 0x30, 0x31, 0x40, 0x41, 0x50, 0x51, 0x60, 0x61, 0x62, 0x70, 0x78, 0x80, 0x81] →
      CanIssue s a 1 → Traps s a (.unknownHcall a rd ra n) 0x0B (BitVec.ofNat 64 n.toNat)) ∧
    (CanIssue s a 2 → ∀ p, a = .gate p →
      (arg.toNat < 2 ^ 48 → (s.gate p).edges.length < 16 → ∃ t, exec (.gtEdge a rd ra) s = .next t ∧ Answered s t a rd 0x80 arg 0 ∧
        (t.gate p).edges = (s.gate p).edges ++ [(BitVec.ofNat 32 (arg.toNat / 2 ^ 8), BitVec.ofNat 8 (arg.toNat / 2 ^ 40))]) ∧
      (arg.toNat < 2 ^ 40 →
        let kept := (s.gate p).edges.filter (fun e => decide ((e.1 - BitVec.ofNat 32 (arg.toNat / 2 ^ 8)).toInt ≤ 0))
        ∃ t, exec (.gtFlush a rd ra) s = .next t ∧ (t.gate p).edges = kept ∧
          Answered s t a rd 0x81 arg (BitVec.ofNat 64 ((s.gate p).edges.length - kept.length))))

/-- R51, R76, R94, R95: every hardware call of the table, on every argument, where its agent's profile permits it: it issues with the steps of the table, the
agent waits at the call with its argument, and no general register changes; where its domain is awake and it need wait for nothing its result stands ready
at once. Where the profile does not permit it, it traps PROFILE. -/
def Sys2Proof.Spec.HardwareCallsIssue : Prop :=
  ∀ (s : State) (a : Agent) (rd ra : GReg),
    let arg := (s.cpu a).get ra
    let control := ∃ c, a = .ctx c ∧ (s.ctx c).packet = false
    let packet := ∃ c, a = .ctx c ∧ (s.ctx c).packet = true
    let call := fun (i : Instr) (cost n : Nat) (permitted : Prop) => CanIssue s a cost →
      (permitted → ∃ t w, exec i s = .next t ∧ t.agentState a = .waiting ∧ t.agentWait a = some (.hcall rd n arg w) ∧ t.cpu a = s.cpu a ∧
        (s.asleep (callDomain n) = true → w = none) ∧
        (s.asleep (callDomain n) = false → 0x10 ≤ n → n < 0x80 → w ≠ none) ∧
        ∀ c, a = .ctx c → (t.ctx c).steps = (s.ctx c).steps + BitVec.ofNat 64 cost) ∧
      (¬ permitted → Traps s a i 2 (wordOf i))
    call (.pktSend a rd ra) 2 0x02 packet ∧ call (.pktDrop a rd ra) 2 0x03 packet ∧ call (.pktRecirc a rd ra) 2 0x04 packet ∧
    call (.pktDup a rd ra) 4 0x05 packet ∧ call (.pktEmit a rd ra) 4 0x06 (control ∨ packet) ∧
    call (.ldAlloc a rd ra) 2 0x10 (control ∨ packet) ∧ call (.ldFree a rd ra) 2 0x11 (control ∨ packet) ∧
    call (.svLookup a rd ra) 2 0x20 (control ∨ packet) ∧ call (.svFlowstat a rd ra) 2 0x21 control ∧
    call (.tmDepth a rd ra) 2 0x30 (control ∨ packet) ∧ call (.tmDelay a rd ra) 2 0x31 control ∧
    call (.cxUnwrap a rd ra) 2 0x40 control ∧ call (.cxPnleft a rd ra) 2 0x41 control ∧
    call (.tbTimer a rd ra) 2 0x50 control ∧ call (.tbCancel a rd ra) 2 0x51 control ∧
    call (.pwVote a rd ra) 2 0x60 control ∧ call (.pwUnvote a rd ra) 2 0x61 control ∧ call (.pwNext a rd ra) 1 0x62 control ∧
    call (.evRaise a rd ra) 2 0x78 (control ∨ packet) ∧
    call (.gtEdge a rd ra) 2 0x80 (∃ p, a = .gate p) ∧ call (.gtFlush a rd ra) 2 0x81 (∃ p, a = .gate p)

/-- R84, R95: HCALL_COMPLETE of a call that still waits for a sleeping domain, once that is awake: the call takes its effect and its result is returned, in every
state and for every argument; here for the calls that only look something up. -/
def Sys2Proof.Spec.WaitingCallTakesEffect : Prop :=
  ∀ (s : State) (c : Nat) (rd : GReg) (arg : Quad), c < 1024 → s.asleep (ctxDomain c) = false → (s.ctx c).after = .go → (s.ctx c).auth = 2 →
    (s.asleep 5 = false → arg.toNat < 4096 → (s.ctx c).wait = some (.hcall rd 0x30 arg none) →
      ∃ t, exec (.hcallComplete (.ctx c)) s = .next t ∧ OnlyContext s t c (resumed c (s.ctx c) rd
        (BitVec.ofNat 64 (min (s.depth arg.toNat) (2 ^ 32 - 1) + min (s.queue arg.toNat).length (2 ^ 24 - 1) * 2 ^ 32)))) ∧
    (s.asleep 8 = false → arg.toNat < 1024 → (s.ctx c).wait = some (.hcall rd 0x41 arg none) →
      ∃ t, exec (.hcallComplete (.ctx c)) s = .next t ∧ OnlyContext s t c (resumed c (s.ctx c) rd (BitVec.ofNat 64 (s.pnLeft arg.toNat)))) ∧
    (s.asleep 5 = true → (s.ctx c).wait = some (.hcall rd 0x30 arg none) → exec (.hcallComplete (.ctx c)) s = .next s)
/-! ## Preoth: commands and loading -/

/-- How a call issues, waits and returns its result, and the calls on events, authority and gates (of R94, R95, R105). -/
def Obligations.CallResultEventAndGateCalls : Prop := Spec.CallResultIsReturned ∧ Spec.EventAuthorityAndGateCalls ∧ Spec.HardwareCallsIssue ∧ Spec.WaitingCallTakesEffect

/-- A register write by `src` at a flat offset is carried out: its block is listed, the source may make it and the domain answers (R21, R499,
R528). A host-link request has first cast D12's data-path vote (R500). -/
abbrev Sys2Proof.Spec.Accepted (s : State) (src : Src) (offset v : Nat) : Prop := (s.portVote src).reach src offset (some v) = .ok

/-- A register read by `src` at a flat offset is carried out. -/
abbrev Sys2Proof.Spec.Readable (s : State) (src : Src) (offset : Nat) : Prop := (s.portVote src).reach src offset none = .ok

/-- The command runs, and the next state is as `P` says. -/
def Sys2Proof.Spec.Runs (i : Instr) (s : State) (P : State → Prop) : Prop := ∃ t, exec i s = .next t ∧ P t

/-- What a command that acts outside Preoth leaves alone: every context, engine and gate sequencer, every memory, the waiting commands, and
every control register but the ones listed, those that follow the votes and those that events write. -/
def Sys2Proof.Spec.Only (s t : State) (rs : List Reg) : Prop :=
  t.pre = s.pre ∧ t.hbm = s.hbm ∧ t.save = s.save ∧ t.pending = s.pending ∧ SameRegisters s t (rs ++ voteRegs ++ eventRegs)

/-- The flat offset of the block of an engine: C0 to C15 in D1, P0 to P55 in D2, P56 to P111 in D3 (R20, R72). -/
def Sys2Proof.Spec.engineBlock (e : Nat) : Nat :=
  if e < 16 then 0x01000000 + 0x10000 * e else if e < 72 then 0x02000000 + 0x10000 * (e - 16) else 0x03000000 + 0x10000 * (e - 72)

/-- The flat offset of the registers of a context (R72). -/
def Sys2Proof.Spec.contextBlock (c : Nat) : Nat := engineBlock (c / 8) + 0x100 + 0x40 * (c % 8)

/-- The flat offset of the block of a client port, or of port 144 (R22, R377). -/
def Sys2Proof.Spec.portBlock (p : Nat) : Nat :=
  if p < 72 then 0x0A000000 + 0x10000 * p else if p < 144 then 0x0B000000 + 0x10000 * (p - 72) else 0x09200000

/-- R52, R53: START of a context that is neither Ready nor Waiting makes it Ready outside its handler with STEPS 0, and from Idle with flags
clear; STOP of a Ready context without a packet, or of one that waits in twait, leaves it Stopped, and of one that waits in fence is kept for its
boundary; RESET of one that does not wait clears pc, flags, general registers, the trap registers, STEPS, timers and its known event and leaves it Idle, with its
authority and generation. (A context that the base program set is bound to runs its role, to its first wait, log 89.) -/
def Sys2Proof.Spec.ContextCommands : Prop :=
  ∀ (s : State) (src : Src) (c : Nat), c < 1024 →
    (Accepted s src (contextBlock c) 0x10 → (s.ctx c).st ≠ .ready → (s.ctx c).st ≠ .waiting → (s.ctx c).loader = 3 →
      ∃ t, exec (.contextStart src c) s = .next t ∧ (t.ctx c).st = .waiting ∧ (t.ctx c).auth = (s.ctx c).auth ∧ (t.ctx c).gen = (s.ctx c).gen) ∧
    (Accepted s src (contextBlock c) 0x10 → (s.ctx c).st ≠ .ready → (s.ctx c).st ≠ .waiting → (s.ctx c).loader ≠ 3 →
      ∃ t, exec (.contextStart src c) s = .next t ∧ (t.ctx c).st = .ready ∧ (t.ctx c).hmode = false ∧ (t.ctx c).steps = 0 ∧
        (t.ctx c).cpu.pc = (s.ctx c).cpu.pc ∧ (t.ctx c).cpu.g = (s.ctx c).cpu.g ∧
        ((s.ctx c).st = .idle → (t.ctx c).cpu.flagBits = 0) ∧ (∀ d, d ≠ c → t.ctx d = s.ctx d)) ∧
    (Accepted s src (contextBlock c) 0x20 →
      ((s.ctx c).st = .ready → (s.ctx c).pkt = none →
        ∃ t, exec (.contextStop src c) s = .next t ∧ t.ctx c = { s.ctx c with st := .stopped, wait := none, after := .go }) ∧
      ((s.ctx c).st = .waiting → (∀ g, (s.ctx c).wait = some (.twait g) → (s.ctx c).pkt = none →
        ∃ t, exec (.contextStop src c) s = .next t ∧ t.ctx c = { s.ctx c with st := .stopped, wait := none, after := .go })) ∧
      ((s.ctx c).st = .waiting → (s.ctx c).wait = some .fence → (s.ctx c).after = .go →
        ∃ t, exec (.contextStop src c) s = .next t ∧ t.ctx c = { s.ctx c with after := .stop })) ∧
    (Accepted s src (contextBlock c) 0x30 → (s.ctx c).st ≠ .waiting →
      ∃ t, exec (.contextReset src c) s = .next t ∧ (t.ctx c).st = .idle ∧ (t.ctx c).cpu = {} ∧ (t.ctx c).hmode = false ∧
        (t.ctx c).tpc = 0 ∧ (t.ctx c).tcause = 0 ∧ (t.ctx c).tval = 0 ∧ (t.ctx c).tscratch = 0 ∧ (t.ctx c).steps = 0 ∧
        (t.ctx c).timers = [] ∧ (t.ctx c).pnext = none ∧ (t.ctx c).gen = (s.ctx c).gen ∧ (t.ctx c).auth = (s.ctx c).auth)

/-- R364: START of a gate sequencer that does not run makes it Ready at the pc written; STOP of a Ready one leaves it Stopped; RESET of one that
does not wait discards its edges, clears its registers, opens every gate of the port and leaves it Idle. -/
def Sys2Proof.Spec.GateCommands : Prop :=
  ∀ (s : State) (src : Src) (p : Nat) (v : Word), p < 145 → Accepted s src (portBlock p + 0x3000) v.toNat →
    (v.toNat % 16 = 1 → (s.gate p).st ≠ .ready → (s.gate p).st ≠ .waiting →
      ∃ t, exec (.gateStart src p v) s = .next t ∧ (t.gate p).st = .ready ∧ (t.gate p).cpu.g = (s.gate p).cpu.g ∧
        (t.gate p).cpu.pc = BitVec.ofNat 16 (v.toNat / 2 ^ 18 * 4)) ∧
    (v.toNat % 16 = 2 → (s.gate p).st = .ready →
      ∃ t, exec (.gateStop src p v) s = .next t ∧ t.gate p = { s.gate p with st := .stopped, wait := none, after := .go }) ∧
    (v.toNat % 16 = 3 → (s.gate p).st ≠ .waiting →
      ∃ t, exec (.gateReset src p v) s = .next t ∧ (t.gate p).st = .idle ∧ (t.gate p).edges = [] ∧ (t.gate p).cpu = {} ∧
        t.rd Fld.GT_GATES_OPEN p = 0xFF)

/-- START, STOP and RESET of contexts and of gate sequencers (of R52, R53, R364). -/
def Obligations.ContextAndGateCommands : Prop := Spec.ContextCommands ∧ Spec.GateCommands

/-- R89: a write of GO to PR_HMSG_CTRL while DONE is set sends the body registers to the destination in PR_HMSG_DEST: DONE falls and the message
is under way from the host, or, where R81 refuses the destination, its status is 0x0C; HOST_MESSAGE_DONE makes the code valid. -/
def Sys2Proof.Spec.HostMailbox : Prop :=
  ∀ (s : State) (src : Src) (e : Nat) (v : Word), e < 128 →
    (Accepted s src (engineBlock e + 0x20) v.toNat → hasBit (v.zeroExtend 64) 3 → s.on Fld.PR_HMSG_STATUS_DONE e = true →
      ∃ t, exec (.hostMessageGo src e v) s = .next t ∧ t.on Fld.PR_HMSG_STATUS_DONE e = false ∧
        t.rd Fld.PR_HMSG_CTRL_LEN e = v.toNat % 8 ∧
        (∀ b, destination (s.rdReg .PR_HMSG_DEST e) = some b →
          t.pre.flights = s.pre.flights ++ [sent (.host e) (s.rdReg .PR_HMSG_DEST e)
            ((List.range (v.toNat % 8 + 1)).map (fun k => s.rdReg .PR_HMSG_BODY e k)) b] ∧ (t.eng e).hmsg = none) ∧
        (destination (s.rdReg .PR_HMSG_DEST e) = none → (t.eng e).hmsg = some 0x0C ∧ t.pre.flights = s.pre.flights)) ∧
    (∀ k, k < 16 → (s.eng e).hmsg = some k → s.on Fld.PR_HMSG_STATUS_DONE e = false →
      ∃ t, exec (.hostMessageDone e) s = .next t ∧ t.on Fld.PR_HMSG_STATUS_DONE e = true ∧ t.rd Fld.PR_HMSG_STATUS_CODE e = k ∧
        (t.eng e).hmsg = none)

/-- R73, R129: the windows onto memory: PR_MEM_DATA reads and writes the word at PR_MEM_ADDR of the engine's instruction memory (SPACE 0) or L
(SPACE 1; here its write), PR_STM_DATA the word of S at PR_STM_ADDR. A write changes no other word; one of instruction memory while a context of the
engine is Ready changes no memory. -/
def Sys2Proof.Spec.MemoryWindows : Prop :=
  ∀ (s : State) (src : Src) (e : Nat) (v : Word), e < 128 →
    let a := s.rd Fld.PR_MEM_ADDR_ADDR e / 4 * 4
    (Accepted s src (engineBlock e + 0x14) v.toNat →
      (s.on Fld.PR_MEM_ADDR_SPACE e = true → ∃ t, exec (.prMemDataAccess src e (some v)) s = .next t ∧
        Tab.read (t.eng e).lmem 0 a 4 = bytes v.toNat 4 ∧ (t.eng e).imem = (s.eng e).imem ∧
        (∀ m, m < a ∨ a + 4 ≤ m → Tab.get (t.eng e).lmem 0 m = Tab.get (s.eng e).lmem 0 m)) ∧
      (s.on Fld.PR_MEM_ADDR_SPACE e = false → (∀ k, k < 8 → (s.ctx (8 * e + k)).st ≠ .ready ∧ (s.ctx (8 * e + k)).st ≠ .waiting) →
        ∃ t, exec (.prMemDataAccess src e (some v)) s = .next t ∧ Tab.get (t.eng e).imem 0 (a % 65536 / 4) = v ∧
          (t.eng e).lmem = (s.eng e).lmem ∧ (∀ m, m ≠ a % 65536 / 4 → Tab.get (t.eng e).imem 0 m = Tab.get (s.eng e).imem 0 m)) ∧
      (s.on Fld.PR_MEM_ADDR_SPACE e = false → (∃ k, k < 8 ∧ (s.ctx (8 * e + k)).st = .ready) →
        ∃ t, exec (.prMemDataAccess src e (some v)) s = .next t ∧ (t.eng e).imem = (s.eng e).imem ∧ (t.eng e).lmem = (s.eng e).lmem)) ∧
    (Readable s src (engineBlock e + 0x14) → s.on Fld.PR_MEM_ADDR_SPACE e = false →
      ∃ t, exec (.prMemDataAccess src e none) s = .next t ∧ t.outs = .regRead src (Tab.get (s.eng e).imem 0 (a % 65536 / 4)) :: s.outs ∧
        t.pre = s.pre) ∧
    (let b := s.rd Fld.PR_STM_ADDR_ADDR / 4 * 4
     (Accepted s src 0x01400004 v.toNat → ∃ t, exec (.prStmDataAccess src (some v)) s = .next t ∧ t.readS b 4 = bytes v.toNat 4 ∧
        (∀ m, m < b ∨ b + 4 ≤ m → t.readS m 1 = s.readS m 1)) ∧
     (Readable s src 0x01400004 → ∃ t, exec (.prStmDataAccess src none) s = .next t ∧ SameMemory s t ∧
        ∃ w, t.outs = .regRead src w :: s.outs ∧ w.toNat = little (s.readS b 4)))

/-- R127 to R132, R365: a write of GO while no load runs starts one: BUSY is set, a load is in progress, and no memory or context
changes. Its completion, with the domains it needs awake, clears BUSY and reports the load's code. A load that failed changes no instruction memory, no L and
no context; one that succeeded has written its code words and data bytes, and each context that its mask names (for a gate sequencer: mask 1) is
Idle at the entry address, a context with the loader's authority and the next generation. -/
def Sys2Proof.Spec.ImageLoads : Prop :=
  ∀ (s : State) (src : Src) (e p : Nat) (v : Word), e < 128 → p < 145 → hasBit (v.zeroExtend 64) 0 →
    (Accepted s src (engineBlock e + 0x38) v.toNat → s.on Fld.PR_LOAD_STATUS_BUSY e = false →
      ∃ t j, exec (.engineLoadGo src e v) s = .next t ∧ t.on Fld.PR_LOAD_STATUS_BUSY e = true ∧ (t.eng e).load = some j ∧
        (t.eng e).imem = (s.eng e).imem ∧ (t.eng e).lmem = (s.eng e).lmem ∧ ∀ c, t.ctx c = s.ctx c) ∧
    (Accepted s src (portBlock p + 0x3018) v.toNat → s.on Fld.GT_LOAD_STATUS_BUSY p = false →
      ∃ t j, exec (.gateLoadGo src p v) s = .next t ∧ t.on Fld.GT_LOAD_STATUS_BUSY p = true ∧ (t.gate p).load = some j ∧
        (t.gate p).imem = (s.gate p).imem ∧ (t.gate p).lmem = (s.gate p).lmem ∧ ∀ c, t.ctx c = s.ctx c) ∧
    (∀ j, (s.eng e).load = some j → (∀ d ∈ loadDomains (s.rdReg .PR_LOAD_SRC e) (engineDomain e), s.asleep d = false) → j.code < 256 →
      ∃ t, exec (.engineLoadComplete e) s = .next t ∧ t.on Fld.PR_LOAD_STATUS_BUSY e = false ∧
        t.rd ⟨.PR_LOAD_STATUS, 0, 8⟩ e = j.code ∧ (t.eng e).load = none ∧
        (j.code ≠ 0 → (t.eng e).imem = (s.eng e).imem ∧ (t.eng e).lmem = (s.eng e).lmem ∧ ∀ c, t.ctx c = s.ctx c) ∧
        (j.code = 0 → (∀ k w, j.codeWords[k]? = some w → Tab.get (t.eng e).imem 0 (j.codeAddr / 4 + k) = w) ∧
          ∀ k b, j.dataBytes[k]? = some b → Tab.get (t.eng e).lmem 0 (j.dataAddr + k) = b) ∧
        (j.code = 0 → ∀ k, k < 8 → hasBit (BitVec.ofNat 64 j.mask) k →
          (t.ctx (8 * e + k)).st = .idle ∧ (t.ctx (8 * e + k)).cpu.pc = BitVec.ofNat 16 (j.entry / 4 * 4) ∧ (t.ctx (8 * e + k)).packet = decide (16 ≤ e) ∧
          (t.ctx (8 * e + k)).auth = BitVec.ofNat 2 j.loader ∧ (t.ctx (8 * e + k)).gen = (s.ctx (8 * e + k)).gen + 1)) ∧
    (∀ j, (s.gate p).load = some j → (∀ d ∈ loadDomains (s.rdReg .GT_LOAD_SRC p) (portDomain p), s.asleep d = false) → j.code < 256 →
      ∃ t, exec (.gateLoadComplete p) s = .next t ∧ t.on Fld.GT_LOAD_STATUS_BUSY p = false ∧
        t.rd ⟨.GT_LOAD_STATUS, 0, 8⟩ p = j.code ∧ (t.gate p).load = none ∧
        (j.code ≠ 0 → (t.gate p).imem = (s.gate p).imem ∧ (t.gate p).lmem = (s.gate p).lmem ∧ (t.gate p).cpu = (s.gate p).cpu) ∧
        (j.code = 0 → (∀ k w, j.codeWords[k]? = some w → Tab.get (t.gate p).imem 0 (j.codeAddr / 4 + k) = w) ∧
          (∀ k b, j.dataBytes[k]? = some b → Tab.get (t.gate p).lmem 0 (j.dataAddr + k) = b) ∧
          (j.mask = 1 → (t.gate p).st = .idle ∧ (t.gate p).edges = [] ∧ t.rd Fld.GT_CTRL_PC p = j.entry / 4 * 4 % 2 ^ 16)))

/-- The host mailbox, the windows onto memory and image loads (of R73, R89, R127 to R132, R365). -/
def Obligations.MailboxWindowsAndLoads : Prop := Spec.HostMailbox ∧ Spec.MemoryWindows ∧ Spec.ImageLoads

/-- R50, R73: ENGINE_SINGLE_STEP is the write of PR_ENG_CTRL; in single mode a write of STEP then lets exactly one instruction issue: that of the word at the pc of
the context whose turn it is, decoded, whatever it is; a write without STEP only writes the register. -/
def Obligations.SingleStepIssuesOneWord : Prop :=
  ∀ (s : State) (src : Src) (e : Nat) (v : Word), e < 128 → Accepted s src (engineBlock e) v.toNat → (s.eng e).stepDue = false →
    (∀ s1, exec (.registerWrite src (BitVec.ofNat 32 (engineBlock e)) v) s = .next s1 →
      ((s1.eng e).stepDue = false ∨ s1.nextTurn e = none → exec (.engineSingleStep src e v) s = .next s1) ∧
      (∀ c t, (s1.eng e).stepDue = true → s1.nextTurn e = some (c, t) → exec (.engineSingleStep src e v) s =
        exec (decodeWord (.ctx c) (Tab.get (s1.eng e).imem 0 ((s1.ctx c).cpu.pc.toNat / 4))) s1)) ∧
    (¬ hasBit (v.zeroExtend 64) 9 ∨ ¬ hasBit (v.zeroExtend 64) 8 →
      ∃ t, exec (.engineSingleStep src e v) s = .next t ∧ (∀ c, t.ctx c = s.ctx c) ∧ t.rd Fld.PR_ENG_CTRL_CTXEN e = v.toNat % 256 ∧
        t.rd Fld.PR_ENG_CTRL_STEPLIMIT e = v.toNat / 65536 ∧ (t.eng e).imem = (s.eng e).imem) ∧
    (∀ c, c / 8 = e → hasBit (v.zeroExtend 64) 9 → hasBit (v.zeroExtend 64) 8 → hasBit (v.zeroExtend 64) (c % 8) →
      (s.ctx c).st = .ready → (s.ctx c).cpu.ranOff = false → (s.ctx c).packet = false → s.fetchBad (.ctx c) = false → s.asleep (engineDomain e) = false →
      (s.portVote src).asleep (engineDomain e) = false →
      (∀ d, d / 8 = e → d ≠ c → (s.ctx d).st ≠ .ready) →
      Tab.get (s.eng e).imem 0 ((s.ctx c).cpu.pc.toNat / 4) = 0b000001_00000_00000_00000_00000000000 →
      ∃ t, exec (.engineSingleStep src e v) s = .next t ∧ (t.ctx c).cpu = onward (.ctx c) (s.ctx c).cpu ∧
        (t.ctx c).steps = (s.ctx c).steps + 1 ∧ (t.eng e).stepDue = false ∧ (t.eng e).last = c % 8)

/-! ## Start-up and the Kettle -/

/-- R113, R117 to R119: the boot sequence. INPUT_VALID starts stage 1, samples BOOT_HOLD and shows the serial port's address; each stage's good end starts the next
one: stage 1's with the timebase at 0, stage 2's with the core supply at 0.86 V (also where calibration was bad), stage 3's with every domain powered and the first
receiver on, stage 5's with no buffer allocated, in the hold where HOLD is set and else in stage 7, stage 7's ends boot with COMPLETE, the supervisor
bound and the watchdog enabled; a failed self-test, entropy test or HBM training sets FAIL with its domain and block and keeps the stage; a write of GO in the hold ends it. -/
def Obligations.BootSequence : Prop :=
  ∀ (s : State) (src : Src) (v : Word) (hold : Bool) (ser : BitVec 3) (d : BitVec 4) (b : Byte) (st : Bool),
    let stage := fun (x : State) => x.rd Fld.KT_BOOT_STATUS_STAGE
    let moves := fun (r : BootResult) (n : Nat) (p : State → Prop) => ∃ t, exec (.bootStageComplete r) s = .next t ∧ stage t = n ∧ p t
    let fails := fun (dom blk : Nat) (t : State) => t.on Fld.KT_BOOT_STATUS_FAIL = true ∧ t.rd Fld.KT_BOOT_STATUS_FAILDOM = dom ∧
      t.rd Fld.KT_BOOT_STATUS_FAILBLK = blk
    (s.boot.inputValid = false →
      ∃ t, exec (.inputValid hold ser) s = .next t ∧ stage t = 1 ∧ t.boot.inputValid = true ∧ t.on Fld.KT_BOOT_CTRL_HOLD = hold ∧
        t.rd Fld.MG_SER_STATUS_ADDR = 0x58 + ser.toNat ∧ t.pre = s.pre) ∧
    (s.boot.inputValid = true → s.on Fld.KT_BOOT_STATUS_FAIL = false → s.on Fld.PW_THERM_TRIPPED = false →
      (stage s = 1 → moves .ok 2 (fun t => t.tb.acc = 0)) ∧
      (stage s = 2 → moves .ok 3 (fun t => t.pre = s.pre ∧ t.rd Fld.PW_GOV_STATUS_VCORE = 860) ∧
        moves .calibBad 3 (fun t => t.boot.calibBad = true ∧ t.tb.incr = t.nominal ∧ t.rd Fld.PW_GOV_STATUS_VCORE = 860)) ∧
      (stage s = 3 → moves .ok 4 (fun t => (∀ k, k ≤ 12 → bit t.boot.powered k = true) ∧ bit (t.rd Fld.OP_DS_STATUS_RXON) 0 = true)) ∧
      (stage s = 4 → moves .ok 5 (fun t => t.pre = s.pre) ∧ moves (.memFail d b) 4 (fails d.toNat b.toNat) ∧ moves .entropyFail 4 (fails 0 0)) ∧
      (stage s = 5 → s.on Fld.KT_BOOT_CTRL_HOLD = true → moves .ok 6 (fun t => t.on Fld.KT_BOOT_STATUS_HOLDING = true ∧ ∀ n, (t.ledger n).alloc = false)) ∧
      (stage s = 5 → s.on Fld.KT_BOOT_CTRL_HOLD = false → moves .ok 7 (fun t => ∀ n, (t.ledger n).alloc = false)) ∧
      (stage s = 5 → s.boot.warm = false → moves (.hbmFail st) 5 (fails (if st = true then 7 else 6) 0)) ∧
      (stage s = 7 → moves .ok 8 (fun t => t.on Fld.KT_BOOT_STATUS_COMPLETE = true ∧ (t.ctx 0).loader = 3 ∧ (t.ctx 0).auth = 2 ∧
        t.on Fld.KT_WDOG_EN = true))) ∧
    (Accepted s src 0x00000004 v.toNat → hasBit (v.zeroExtend 64) 1 → stage s = 6 → s.on Fld.KT_BOOT_STATUS_HOLDING = true →
      ∃ t, exec (.bootGo src v) s = .next t ∧ stage t = 7 ∧ t.on Fld.KT_BOOT_STATUS_HOLDING = false)

/-- Every register of D1 to D12 is at its reset value, but for the ones that `kept` names, which are as they were. -/
def Sys2Proof.Spec.DomainsReset (s t : State) (kept : Reg → Bool) : Prop :=
  ∀ r i k, i < 4096 → k < 4096 → 1 ≤ r.domain i → r.domain i ≤ 12 →
    t.rdReg r i k = if kept r = true then s.rdReg r i k else BitVec.ofNat 64 (Reg.reset r i k)

/-- The registers of the Kettle that a cold or a warm reset itself sets, with those that follow votes and that events write. -/
def Sys2Proof.Spec.resetRegs : List Reg :=
  [.KT_RESET_CAUSE, .KT_BOOT_CTRL, .KT_BOOT_STATUS, .KT_WDOG, .PW_THERM, .PW_GOV_STATUS, .PW_STATUS] ++ voteRegs ++ eventRegs

/-- R121 to R123: a write of KT_RESET with CONFIRM 0x5A starts a warm (KIND 1) or a cold (KIND 2) reset, where the junctions are not above 100 °C, no
trip stands and no one-time memory is being programmed; while a boot failure stands a warm one is a cold one (R117). The boot stage is 3, the cause names the kind
and the source, HOLD is sampled anew; Preoth, Sieve, the lanes and the MACs start empty, with D0 alone powered; save memory
keeps its history area only; root-key slots and the timebase stay. A cold reset empties HBM; a warm one keeps the Preoth data and capture partitions
and no other. Where no emergency stop is latched the traffic manager and the shared fibre start empty and every register of D1 to D12 is at its reset value (a warm reset keeps the
partition sizes with D6 and D7, log 49, DEDUCED), and every other register of D0 is kept. Without CONFIRM, or with
another KIND, the write changes nothing. -/
def Sys2Proof.Spec.ResetRequests : Prop :=
  ∀ (s : State) (src : Src) (v : Word), Accepted s src 0x00000008 v.toNat →
    let cause := fun (serial ctx other : Nat) => match src with | .serial => serial | .ctx _ => ctx | _ => other
    let started := fun (t : State) (k : Nat) (kept : Reg → Bool) => t.rd Fld.KT_BOOT_STATUS_STAGE = 3 ∧ t.rd Fld.KT_RESET_CAUSE_CAUSE = k ∧ t.pre = {} ∧
      t.boot.powered = 1 ∧ t.sv = {} ∧ t.lanes = [] ∧ t.macs = [] ∧ t.tb = s.tb ∧ t.cx = { roots := s.cx.roots } ∧
      t.pending = s.pending ∧ t.on Fld.KT_BOOT_CTRL_HOLD = Config.bootHold s.draws ∧
      (∀ n, n < 0x70000 → Tab.get t.save 0 n = 0) ∧ (∀ n, 0x70000 ≤ n → n < 0x80000 → Tab.get t.save 0 n = Tab.get s.save 0 n) ∧
      (s.on Fld.KT_ESTOP_LATCH = false → t.fib = {} ∧ t.tm = {} ∧ DomainsReset s t kept ∧
        ∀ r i k, i < 4096 → k < 4096 → r.domain i = 0 → r ∉ resetRegs → t.rdReg r i k = s.rdReg r i k)
    let cold := fun (t : State) => started t (cause 3 4 2) (fun _ => false) ∧ t.hbm = []
    let free := s.tooHot = false ∧ s.on Fld.PW_THERM_TRIPPED = false ∧ s.cx.rootJob = none
    (v.toNat / 256 % 256 = 0x5A → v.toNat % 4 = 1 → free → s.on Fld.KT_BOOT_STATUS_FAIL = false →
      ∃ t, exec (.warmResetRequest src v) s = .next t ∧
        started t (cause 6 8 5) (fun r => r = .LD_PART_PS || r = .LD_PART_RO || r = .LD_PART_PD || r = .LD_PART_LS || r = .LD_POOL_REGION) ∧
        (∀ p n, p = 0 ∨ p = 1 ∨ p = 2 ∨ p = 4 → n < 0x10000000000 → t.hbmRead p n 1 = [0]) ∧
        ∀ n, n < 0x10000000000 → t.hbmRead 3 n 1 = s.hbmRead 3 n 1 ∧ t.hbmRead 5 n 1 = s.hbmRead 5 n 1) ∧
    (v.toNat / 256 % 256 = 0x5A → v.toNat % 4 = 1 → free → s.on Fld.KT_BOOT_STATUS_FAIL = true → Runs (.warmResetRequest src v) s cold) ∧
    (v.toNat / 256 % 256 = 0x5A → v.toNat % 4 = 2 → free → Runs (.coldResetRequest src v) s cold) ∧
    (v.toNat / 256 % 256 ≠ 0x5A ∨ v.toNat % 4 = 0 ∨ v.toNat % 4 = 3 →
      exec (.warmResetRequest src v) s = .next (s.portVote src) ∧ exec (.coldResetRequest src v) s = .next (s.portVote src))

/-- R121, R124, R136: power removal leaves the reset state, with one-time memory kept (a slot that was being programmed is used and
holds no key); the commands that wait, the host's own memory, what has been put out and the count of free values are no state of the terminal's
own and stay. A PCIe reset, and the loss of a link that is up, returns every register of D12 to its reset value and changes no other register but those
that follow the votes and that events write, nothing of Preoth, of any unit or of memory; a link that comes up while D12 is awake shows UP, its speed and its
width, and changes no more than that; a loss of a link that is down, and a link that comes up while D12 sleeps, change nothing. -/
def Sys2Proof.Spec.PowerRemovalAndHostLink : Prop :=
  ∀ (s : State) (speed width : BitVec 3),
    let removed := fun (roots : List RootSlot) => ({ State.reset with pending := s.pending, draws := s.draws, outs := s.outs
                                                                      cp := { State.reset.cp with hostMem := s.cp.hostMem }
                                                                      cx := { State.reset.cx with roots := roots } } : State)
    let linkReset := fun (t : State) => t.pre = s.pre ∧ SameMemory s t ∧ SameUnits s t ∧ t.on Fld.MG_PCIE_STATUS_UP = false ∧
      (∀ r i k, i < 4096 → k < 4096 → r.domain i = 12 → t.rdReg r i k = BitVec.ofNat 64 (Reg.reset r i k)) ∧
      (∀ r i k, i < 4096 → k < 4096 → r.domain i ≠ 12 → r ∉ voteRegs ++ eventRegs → t.rdReg r i k = s.rdReg r i k)
    (s.cx.rootJob = none → exec .powerRemoval s = .next (removed s.cx.roots)) ∧
    (∀ key (below above : List RootSlot), s.cx.rootJob = some key → below.length < 4 → (∀ r ∈ below, r.used = true) →
      s.cx.roots = below ++ [{ used := false, key := none }] ++ above →
      exec .powerRemoval s = .next (removed (below ++ [{ used := true, key := none }] ++ above))) ∧
    Runs .pcieReset s linkReset ∧
    (s.on Fld.MG_PCIE_STATUS_UP = true → Runs (.hostLinkChange false speed width) s linkReset) ∧
    (s.on Fld.MG_PCIE_STATUS_UP = false → exec (.hostLinkChange false speed width) s = .next s) ∧
    (s.asleep 12 = false → Runs (.hostLinkChange true speed width) s (fun t => t.on Fld.MG_PCIE_STATUS_UP = true ∧
      t.rd Fld.MG_PCIE_STATUS_SPEED = speed.toNat ∧ t.rd Fld.MG_PCIE_STATUS_WIDTH = width.toNat ∧ t.pre = s.pre ∧ SameMemory s t ∧ SameUnits s t ∧
      SameRegisters s t (.MG_PCIE_STATUS :: voteRegs ++ eventRegs))) ∧
    (s.asleep 12 = true → exec (.hostLinkChange true speed width) s = .next s)

/-- Resets, power removal and the host link (of R121 to R124). -/
def Obligations.ResetsAndPowerRemoval : Prop := Spec.ResetRequests ∧ Spec.PowerRemovalAndHostLink

/-- R125, R260, R261, R557 to R559: the Kettle's own events. A write of KT_WDOG sets EN, ACTION and TIMEOUT, and FEED restarts its count; before TIMEOUT seconds have
been counted an expiry changes nothing; then, outside Timekeep, with ACTION set (no trip standing and no one-time memory being programmed) it starts a reset with
cause 7, with ACTION clear it starts none. The oven's first stable point, 20 s or more after power-on with the sensor within 0.05 K, or its timeout after
240 s, makes time-stamps valid; a band change sets DEV and HEATER, and INBAND where the sensor agrees. WARNING sets above the threshold and clears at or below it;
above 125 °C a trip switches D1 to D12 off and sets TRIPPED, and is marked as one that stays until power removal where it comes within 600 s of leaving one. -/
def Obligations.KettleEvents : Prop :=
  ∀ (s : State) (src : Src) (v : Word) (tj dev : BitVec 16) (heater : BitVec 8) (band : Bool) (dom : BitVec 4),
    let due := s.boot.fed + max 1 (s.rd Fld.KT_WDOG_TIMEOUT) * 1000000000
    let signed : Nat → Int := fun n => if 2 ^ 15 ≤ n then (n : Int) - 2 ^ 16 else n
    (Accepted s src 0x00000010 v.toNat →
      ∃ t, exec (.watchdogFeed src v) s = .next t ∧ (t.on Fld.KT_WDOG_EN = true ↔ hasBit (v.zeroExtend 64) 0) ∧
        (t.on Fld.KT_WDOG_ACTION = true ↔ hasBit (v.zeroExtend 64) 1) ∧ t.rd Fld.KT_WDOG_TIMEOUT = v.toNat / 256 % 256 ∧
        (hasBit (v.zeroExtend 64) 2 → t.boot.fed = s.ns64) ∧ t.pre = s.pre) ∧
    (s.on Fld.KT_WDOG_EN = true → s.ns64 < due → exec .kettleWatchdogExpired s = .next s) ∧
    (s.on Fld.KT_WDOG_EN = true → s.pow.timekeep = false → due ≤ s.ns64 →
      (s.on Fld.KT_WDOG_ACTION = true → s.on Fld.PW_THERM_TRIPPED = false → s.cx.rootJob = none →
        ∃ t, exec .kettleWatchdogExpired s = .next t ∧ t.rd Fld.KT_BOOT_STATUS_STAGE = 3 ∧ t.rd Fld.KT_RESET_CAUSE_CAUSE = 7) ∧
      (s.on Fld.KT_WDOG_ACTION = false → ∃ t, exec .kettleWatchdogExpired s = .next t ∧ t.pre = s.pre ∧
        t.rd Fld.KT_BOOT_STATUS_STAGE = s.rd Fld.KT_BOOT_STATUS_STAGE)) ∧
    (s.on Fld.KT_OVEN_STATUS_FIRST = false → 2 ≤ s.rd Fld.KT_BOOT_STATUS_STAGE →
      (20000000000 ≤ s.ns64 → dev.toInt.natAbs ≤ 5 → ∃ t, exec (.ovenFirstStable dev heater) s = .next t ∧ t.on Fld.KT_OVEN_STATUS_FIRST = true ∧ t.tsValid = true ∧
        t.on Fld.KT_OVEN_STATUS_INBAND = true) ∧
      (240000000000 ≤ s.ns64 → ∃ t, exec (.ovenStabilityTimeout dev heater) s = .next t ∧ t.on Fld.KT_OVEN_STATUS_FIRST = true ∧ t.tsValid = true ∧
        t.on Fld.KT_OVEN_STATUS_TIMEOUT = true)) ∧
    (s.on Fld.KT_OVEN_STATUS_FIRST = true →
      ∃ t, exec (.ovenBandChange band dev heater) s = .next t ∧
        ((dev.toInt.natAbs ≤ 50 ↔ band = true) → t.on Fld.KT_OVEN_STATUS_INBAND = band) ∧
        t.rd Fld.KT_OVEN_STATUS_DEV = dev.toNat ∧ t.rd Fld.KT_OVEN_STATUS_HEATER = heater.toNat) ∧
    (∃ t, exec (.overTemperature tj) s = .next t ∧ t.rd Fld.PW_GOV_TJ_TJ = tj.toNat ∧
      (signed (s.rd Fld.PW_THERM_WARN) < tj.toInt → t.on Fld.PW_THERM_WARNING = true)) ∧
    (s.boot.pendingReset = none → ∃ t, exec (.warningCleared tj) s = .next t ∧ t.rd Fld.PW_GOV_TJ_TJ = tj.toNat ∧
      (tj.toInt ≤ signed (s.rd Fld.PW_THERM_WARN) → t.on Fld.PW_THERM_WARNING = false)) ∧
    (s.on Fld.PW_THERM_TRIPPED = false → 12500 < signed (s.rd Fld.PW_GOV_TJ_TJ) →
      ∃ t, exec (.thermalTrip dom) s = .next t ∧ (t.pow.tripsKept = true ↔ s.pow.tripsKept = true ∨
          ∃ n, s.pow.leftTrip = some n ∧ s.ns64 < n + 600000000000) ∧ t.on Fld.PW_THERM_TRIPPED = true ∧ t.boot.powered = 1 ∧ t.pre = {} ∧
        ∀ d, 1 ≤ d → d ≤ 12 → t.rd Fld.PW_DOM_STATUS_DEPTH d = 4)

/-- R133 to R136, R213, R481: the site identity is written before LOCK and before the terminal has an ONU-ID, and sets its valid bit; under LOCK a
write of KT_SITE_VENDOR is refused and counted; LOCK, once written, stays. A write of KT_ESTOP.CLEAR releases a latched emergency stop. A write of CX_ROOT_CTRL with PROG
and CONFIRM, while none runs, starts the programming of the staged key, most significant byte first, and clears the staging words; any other changes
nothing of the cipher; the end uses up the lowest free slot, which holds the key where its check has passed; the staging words go 1 s after they were written. -/
def Obligations.SiteIdentityAndRootKey : Prop :=
  ∀ (s : State) (src : Src) (v : Word) (ok : Bool),
    (s.on Fld.KT_SITE_CTRL_LOCK = false → s.rd Fld.TC_ACT_STATUS_STATE ≤ 2 → s.headEnd src = false →
      (Accepted s src 0x00000020 v.toNat → ∃ t, exec (.siteVendorWrite src v) s = .next t ∧
        t.rdReg .KT_SITE_VENDOR = BitVec.ofNat 64 v.toNat ∧ t.on Fld.KT_SITE_CTRL_VVALID = true) ∧
      (Accepted s src 0x00000024 v.toNat → ∃ t, exec (.siteSerialWrite src v) s = .next t ∧
        t.rdReg .KT_SITE_SERIAL = BitVec.ofNat 64 v.toNat ∧ t.on Fld.KT_SITE_CTRL_SVALID = true)) ∧
    (s.on Fld.KT_SITE_CTRL_LOCK = true → Accepted s src 0x00000020 v.toNat → ∃ t, exec (.siteVendorWrite src v) s = .next t ∧
      t.rdReg .KT_SITE_VENDOR = s.rdReg .KT_SITE_VENDOR ∧
      t.rd Fld.KT_SITE_CTRL_REFUSED = min (s.rd Fld.KT_SITE_CTRL_REFUSED + 1) 255) ∧
    (Accepted s src 0x00000028 v.toNat → ∃ t, exec (.siteLockWrite src v) s = .next t ∧
      (t.on Fld.KT_SITE_CTRL_LOCK = true ↔ s.on Fld.KT_SITE_CTRL_LOCK = true ∨ hasBit (v.zeroExtend 64) 2)) ∧
    (Accepted s src 0x00000030 v.toNat → hasBit (v.zeroExtend 64) 1 → s.on Fld.KT_ESTOP_LATCH = true →
      ∃ t, exec (.estopClear src v) s = .next t ∧ t.on Fld.KT_ESTOP_LATCH = false) ∧
    (Accepted s src 0x08200020 v.toNat → s.cx.rootJob = none →
      (hasBit (v.zeroExtend 64) 0 → v.toNat / 256 % 256 = 0x5A → ∃ t, exec (.rootKeyProgram src v) s = .next t ∧ t.cx = { s.cx with
        rootStage := [], rootJob := some ((List.range 8).flatMap fun k => (bytes (Tab.get s.cx.rootStage 0 k).toNat 4).reverse) }) ∧
      (¬ hasBit (v.zeroExtend 64) 0 ∨ v.toNat / 256 % 256 ≠ 0x5A → ∃ t, exec (.rootKeyProgram src v) s = .next t ∧ t.cx = s.cx)) ∧
    (∀ key n (below : List RootSlot) (above : List RootSlot), s.cx.rootJob = some key → s.boot.pendingReset = none → n < 4 →
      below.length = n → s.cx.roots = below ++ [{ used := false, key := none }] ++ above → (∀ r ∈ below, r.used = true) →
      ∃ t, exec (.rootKeyProgramDone ok) s = .next t ∧ t.cx = { s.cx with
        rootJob := none, roots := below ++ [{ used := true, key := if ok = true then some key else none }] ++ above }) ∧
    (s.cx.rootAt + 1000000000 ≤ s.ns64 → ∃ t, exec .rootStagingTimeout s = .next t ∧ t.cx.rootStage = [] ∧ t.cx.roots = s.cx.roots ∧ t.pre = s.pre)

/-! ## The timebase and time transfer -/

/-- R263 to R268: TB_INCR and TB_STEP are staged at their low word and taken at the high one; an increment further than a 1,024th from
the nominal, or a step after the set, is discarded and counted. A waiting step is added at the next tick, before its increment; it disarms the PPS edge (where no context of the base set has to be restarted then) and shifts the scheduled bursts (where neither event triage nor
the sleep agreement runs). REARM clears SETDONE only with CONFIRM, and then BASEV where the servo runs. A read of
TB_NS latches the fraction and the wraps for its requester alone. -/
def Sys2Proof.Spec.TimebaseIncrementAndStep : Prop :=
  ∀ (s : State) (src : Src) (v : Word),
    let nom := s.nominal.toNat
    let refused := fun (t : State) => t.tb = s.tb ∧ t.rd Fld.TB_STATUS_REFUSED = min (s.rd Fld.TB_STATUS_REFUSED + 1) 255 ∧ Only s t [.TB_STATUS]
    (Accepted s src 0x00010010 v.toNat →
      Runs (.tbIncrWrite src false v) s (fun t => t.tb = { s.tb with incrLow := v } ∧ Only s t [])) ∧
    (Accepted s src 0x00010014 v.toNat →
      let x := v.toNat % 2 ^ 16 * 2 ^ 32 + s.tb.incrLow.toNat
      (x ≤ nom + nom / 1024 → nom ≤ x + nom / 1024 →
        Runs (.tbIncrWrite src true v) s (fun t => t.tb = { s.tb with incrNext := some (BitVec.ofNat 48 x) } ∧ Only s t [])) ∧
      (nom + nom / 1024 < x ∨ x + nom / 1024 < nom → Runs (.tbIncrWrite src true v) s refused)) ∧
    (Accepted s src 0x00010020 v.toNat →
      Runs (.tbStepWrite src false v) s (fun t => t.tb = { s.tb with stepLow := v } ∧ Only s t [])) ∧
    (Accepted s src 0x00010024 v.toNat →
      (s.on Fld.TB_STATUS_SETDONE = false → s.tb.step = none →
        Runs (.tbStepWrite src true v) s (fun t => Only s t [] ∧ t.tb.acc = s.tb.acc ∧
          t.tb.step.map Prod.fst = some (BitVec.ofNat 40 (v.toNat % 2 ^ 8 * 2 ^ 32 + s.tb.stepLow.toNat)))) ∧
      (s.on Fld.TB_STATUS_SETDONE = true ∨ s.tb.step ≠ none → Runs (.tbStepWrite src true v) s refused)) ∧
    (∀ off k, s.tb.step = some (off, k) →
      Runs .timebaseStepApply s (fun t =>
        t.tb.acc = s.tb.acc + BitVec.ofInt 108 (off.toInt * 2 ^ 36) + (s.tb.incrNext.getD s.tb.incr).zeroExtend 108 ∧ t.tb.step = none ∧
        t.on Fld.TB_STATUS_SETDONE = true ∧ t.rdReg .TB_STEP_LAST = BitVec.ofNat 64 off.toNat ∧ t.hbm = s.hbm ∧
        ((∀ c, (s.ctx c).st ≠ .trapped) → t.on Fld.TB_PPSOUT_CTRL_ARMED = false) ∧
        (s.roleRuns 2 = false → s.roleRuns 19 = false → t.fib.bursts.map (fun b => (b.t : Int)) = s.fib.bursts.map (fun b => ((b.t : Int) + off.toInt) % 2 ^ 40)))) ∧
    (s.tb.step = none → exec .timebaseStepApply s = .next s) ∧
    (Accepted s src 0x00010034 v.toNat →
      let confirmed := hasBit (v.zeroExtend 64) 0 ∧ v.toNat / 2 ^ 8 % 2 ^ 8 = 0x5A
      Runs (.tbRearm src v) s (fun t => t.tb.acc = s.tb.acc ∧
        t.on Fld.TB_STATUS_SETDONE = (if confirmed then false else s.on Fld.TB_STATUS_SETDONE) ∧
        (confirmed → s.roleRuns 24 = true → t.on Fld.TT_SERVO_UTC_BASEV = false) ∧
        (s.roleRuns 24 = false → s.roleRuns 26 = false → s.roleRuns 27 = false → t.tb = s.tb ∧ Only s t [.TB_STATUS]))) ∧
    (Readable s src 0x00010000 →
      Runs (.tbNsRead src) s (fun t => t.outs = .regRead src s.ns :: s.outs ∧ Only s t [] ∧
        Tab.get t.tb.latch (0, 0) (requesterOf src) = (s.frac.toNat, s.wrap.toNat) ∧
        ∀ k, k ≠ requesterOf src → Tab.get t.tb.latch (0, 0) k = Tab.get s.tb.latch (0, 0) k))

/-- R281, R282, R285, R287, R288: A write of TB_PPSOUT_NEXT 1,000 ns or more ahead arms the edge; a nearer one changes no register. An edge whose
instant NEXT - COMP has come copies NEXT to LAST, drives the pulse while EN = 1, and arms the next second with AUTO, else disarms. From boot stage 2 an edge of
PPS_IN less than 900 ms after the last is only counted, any other is stamped, completes its slot and ends a loss; 1.5 s without one is a loss. DELAY ms
after an edge the sentence goes out, outside Timekeep, where it is FULL, and else counts as missed. A line that is a sentence fills the receive buffer and its slot; any other is counted. -/
def Sys2Proof.Spec.TimingSignals : Prop :=
  ∀ (s : State) (src : Src) (v : Word) (fine : Int) (line : List Byte) (framing : Bool) (lasted : Nat),
    let slot := fun (t : State) (r : Reg) (seq : Fld) => t.on ⟨r, 0, 1⟩ = true ∧ t.on ⟨r, 1, 1⟩ = false ∧ t.on ⟨r, 2, 1⟩ = false ∧
      t.rd seq = (s.rd seq + 1) % 256
    let next := s.rd Fld.TB_PPSOUT_NEXT_NS
    let now : Int := s.ns.toNat * 256 + s.frac.toNat
    (Accepted s src 0x00010040 v.toNat →
      (1000 ≤ (v - s.ns).toInt → Runs (.ppsOutNextWrite src v) s (fun t =>
        t.rdReg .TB_PPSOUT_NEXT = BitVec.ofNat 64 v.toNat ∧ t.on Fld.TB_PPSOUT_CTRL_ARMED = true ∧ Only s t [.TB_PPSOUT_NEXT, .TB_PPSOUT_CTRL])) ∧
      ((v - s.ns).toInt < 1000 → Runs (.ppsOutNextWrite src v) s (fun t => t.tb = s.tb ∧ Only s t []))) ∧
    (s.on Fld.TB_PPSOUT_CTRL_ARMED = true →
      (BitVec.ofInt 40 (next * 256 - (BitVec.ofNat 24 (s.rd Fld.TB_PPSOUT_COMP_COMP)).toInt - now)).toInt ≤ 0 →
      Runs .ppsOutEdge s (fun t => t.rdReg .TB_PPSOUT_LAST = BitVec.ofNat 64 next ∧ Only s t [.TB_PPSOUT_LAST, .TB_PPSOUT_NEXT, .TB_PPSOUT_CTRL] ∧
        (s.on Fld.TB_PPSOUT_CTRL_EN = true → t.outs = .pps (s.rd Fld.TB_PPSOUT_CTRL_WIDTH) :: s.outs) ∧
        (s.on Fld.TB_PPSOUT_CTRL_EN = false → t.outs = s.outs) ∧
        (s.on Fld.TB_PPSOUT_CTRL_AUTO = true →
          t.rd Fld.TB_PPSOUT_NEXT_NS = (next + 1000000000) % 2 ^ 32 ∧ t.on Fld.TB_PPSOUT_CTRL_ARMED = true) ∧
        (s.on Fld.TB_PPSOUT_CTRL_AUTO = false → t.rd Fld.TB_PPSOUT_NEXT_NS = next ∧ t.on Fld.TB_PPSOUT_CTRL_ARMED = false))) ∧
    (2 ≤ s.rd Fld.KT_BOOT_STATUS_STAGE →
      ((∀ a, s.tb.ppsAt = some a → a + 900000000 ≤ s.ns64) → Runs (.ppsInEdge fine) s (fun t => t.tb.ppsAt = some s.ns64 ∧
        slot t .TB_PPSIN_STAT Fld.TB_PPSIN_STAT_SEQ ∧ t.on Fld.TB_PPSIN_STAT_LOST = false ∧ Only s t [.TB_PPSIN_TS, .TB_PPSIN_STAT] ∧
        t.rd Fld.TB_PPSIN_TS_TS = (BitVec.ofInt 40 (now + fine - (BitVec.ofNat 24 (s.rd Fld.TB_PPSIN_COMP_COMP)).toInt)).toNat)) ∧
      (∀ a, s.tb.ppsAt = some a → s.ns64 < a + 900000000 → Runs (.ppsInEdge fine) s (fun t => t.tb = s.tb ∧ Only s t [.TB_IO_CNT] ∧
        t.rd Fld.TB_IO_CNT_PPSGLITCH = min (s.rd Fld.TB_IO_CNT_PPSGLITCH + 1) 255))) ∧
    ((∀ a, s.tb.ppsAt = some a → s.on Fld.TB_PPSIN_STAT_LOST = false → a + 1500000000 ≤ s.ns64 →
        Runs .ppsInLoss s (fun t => t.on Fld.TB_PPSIN_STAT_LOST = true ∧ Only s t [.TB_PPSIN_STAT])) ∧
      (s.tb.ppsAt = none → exec .ppsInLoss s = .next s)) ∧
    (∀ a, s.tb.todDue = some a → a + s.rd Fld.TB_TODOUT_CTRL_DELAY * 1000000 ≤ s.ns64 → s.on Fld.TB_TODOUT_CTRL_EN = true →
      Runs .todOutSend s (fun t => t.tb.todDue = none ∧
        (s.on Fld.TB_TODOUT_CTRL_FULL = true → s.keepsTime = false → Only s t [] ∧
          t.tb.todUntil = some (s.ns64 + s.rd Fld.TB_TODOUT_CTRL_LEN * 10000000000 / 115200) ∧
          t.outs = .tod (((List.range 16).flatMap fun k => bytes (s.rdReg .TB_TODOUT_BUF 0 k).toNat 4).take (s.rd Fld.TB_TODOUT_CTRL_LEN))
            :: s.outs) ∧
        (s.on Fld.TB_TODOUT_CTRL_FULL = false → Only s t [.TB_IO_CNT] ∧
          t.rd Fld.TB_IO_CNT_TODOUTMISS = min (s.rd Fld.TB_IO_CNT_TODOUTMISS + 1) 255))) ∧
    (todLineOk line = true → framing = false → Runs (.todInLine line framing lasted) s (fun t => slot t .TB_TODIN_STAT Fld.TB_TODIN_STAT_SEQ ∧
      (∀ k, k < 12 → (t.rdReg .TB_TODIN_BUF 0 k).toNat = little ((line.drop (4 * k)).take 4)) ∧
      Only s t [.TB_TODIN_BUF, .TB_TODIN_PPS, .TB_TODIN_STAT])) ∧
    (todLineOk line = false ∨ framing = true → Runs (.todInLine line framing lasted) s (fun t => Only s t [.TB_IO_CNT] ∧
      t.rd Fld.TB_IO_CNT_TODINERR = min (s.rd Fld.TB_IO_CNT_TODINERR + 1) 255))

/-- R202, R209, R294, R307, R312: A commit in O5 of a second within 480,000 frames of the present frame, its
nanoseconds below 10⁹, makes the statement valid, taken from the registers; any other is counted and changes no statement. A model reset with CONFIRM loads the
seed and unqualifies the model, else nothing changes; a write of a half of TT_BC_ID writes it and sets CIDV. In O5 a refit sets FORCEPROG as
written and, where the ranging role runs and has pairs to ask for, asks anew. A fibre model in its ranges is taken. -/
def Sys2Proof.Spec.TimeTransferCommands : Prop :=
  ∀ (s : State) (src : Src) (v : Word),
    let sfc := (s.rdReg .TT_TOD_SFC).toNat
    let now := s.rd Fld.TC_DSC_SFC_SFC s.refChan
    (Accepted s src 0x01500114 v.toNat → hasBit (v.zeroExtend 64) 31 →
      (s.rd Fld.TC_ACT_STATUS_STATE = 5 → sfc ≤ now + 480000 → now ≤ sfc + 480000 → s.rd Fld.TT_TOD_NSEC_NS < 1000000000 →
        Runs (.todCommit src v) s (fun t => t.on Fld.TT_TOD_STAT_VALID = true ∧ t.rd Fld.TT_TOD_STAT_SEQ = (s.rd Fld.TT_TOD_STAT_SEQ + 1) % 256 ∧
          t.rdReg .TT_TOD_INFO = BitVec.ofNat 64 (v.toNat % 2 ^ 26) ∧
          t.base.stmt = { sfc := sfc, sec := (s.rdReg .TT_TOD_SEC).toNat, nsec := s.rd Fld.TT_TOD_NSEC_NS, info := v.toNat % 2 ^ 26
                          gmid := (s.rdReg .TT_TOD_GMID).toNat } ∧ Only s t [.TT_TOD_INFO, .TT_TOD_STAT])) ∧
      (s.rd Fld.TC_ACT_STATUS_STATE ≠ 5 ∨ now + 480000 < sfc ∨ sfc + 480000 < now ∨ 1000000000 ≤ s.rd Fld.TT_TOD_NSEC_NS →
        Runs (.todCommit src v) s (fun t => Only s t [.TT_TOD_STAT] ∧ t.base = s.base ∧ t.on Fld.TT_TOD_STAT_VALID = s.on Fld.TT_TOD_STAT_VALID ∧
          t.rd Fld.TT_TOD_STAT_REFUSED = min (s.rd Fld.TT_TOD_STAT_REFUSED + 1) 255))) ∧
    (Accepted s src 0x01500214 v.toNat →
      Runs (.holdoverModelReset src v) s (fun t => t.pre = s.pre ∧ t.hbm = s.hbm ∧
        SameRegisters s t ([.TT_HO_COEF, .TT_HO_STATUS, .TT_SERVO_STATUS] ++ voteRegs ++ eventRegs) ∧
        (hasBit (v.zeroExtend 64) 0 ∧ v.toNat / 2 ^ 8 % 2 ^ 8 = 0x5A →
          t.on Fld.TT_HO_STATUS_QUAL = false ∧ t.on Fld.TT_SERVO_STATUS_QUAL = false ∧ t.base.ho.lock = 0 ∧ t.base.ho.t0 = s.ns64 ∧
          t.rdReg .TT_HO_COEF 0 0 = BitVec.ofInt 64 (nearest (-s.base.servo.u) 1000000000) ∧
          t.rdReg .TT_HO_COEF 0 1 = 0 ∧ ∀ k, 2 ≤ k → k ≤ 4 → t.rdReg .TT_HO_COEF 0 k = Config.holdoverSeed s.boot.calibBad k) ∧
        (¬ (hasBit (v.zeroExtend 64) 0 ∧ v.toNat / 2 ^ 8 % 2 ^ 8 = 0x5A) → Only s t []))) ∧
    (∀ high : Bool, Accepted s src (if high = true then 0x01500304 else 0x01500300) v.toNat →
      Runs (.bcIdWrite src high v) s (fun t => t.on Fld.TT_BC_CTRL_CIDV = true ∧
        (s.roleRuns 26 = false → s.roleRuns 27 = false → Only s t [.TT_BC_ID, .TT_BC_CTRL]) ∧
        t.rd ⟨.TT_BC_ID, if high = true then 32 else 0, 32⟩ = v.toNat ∧
        t.rd ⟨.TT_BC_ID, if high = true then 0 else 32, 32⟩ = s.rd ⟨.TT_BC_ID, if high = true then 0 else 32, 32⟩)) ∧
    (Accepted s src 0x01500400 v.toNat → hasBit (v.zeroExtend 64) 0 → s.rd Fld.TC_ACT_STATUS_STATE = 5 →
      Runs (.asymRefit src v) s (fun t => (t.on Fld.TT_ASYM_CTRL_FORCEPROG = true ↔ hasBit (v.zeroExtend 64) 1) ∧ t.pre = s.pre ∧ t.tb = s.tb ∧
        (s.rangingRole = true → s.pairMask ≠ 0 → t.fib.pairWant = s.pairMask ∧ t.fib.pairGot = 0 ∧ t.fib.pairAt = s.ns64))) ∧
    (Accepted s src 0x01500404 v.toNat → 128000 ≤ v.toNat % 2 ^ 18 → v.toNat % 2 ^ 18 ≤ 134000 → 1 ≤ v.toNat / 2 ^ 18 → v.toNat / 2 ^ 18 ≤ 12000 →
      Runs (.asymModelWrite src v) s (fun t => t.rdReg .TT_ASYM_MODEL = BitVec.ofNat 64 v.toNat ∧
        Only s t [.TT_ASYM_MODEL, .TT_ASYM_FIT, .TT_ASYM_DS, .TT_ASYM_US, .TT_ASYM_STAT]))

/-- The timebase's own writes, its pulses and time-of-day messages, and the commands of time transfer (of R262 to R312). -/
def Obligations.TimebaseAndTimeTransfer : Prop := Spec.TimebaseIncrementAndStep ∧ Spec.TimingSignals ∧ Spec.TimeTransferCommands

/-! ## The shared fibre: downstream -/

/-- A counter field has grown by `n`, up to all-ones (R9). -/
abbrev Sys2Proof.Spec.Counts (s t : State) (f : Fld) (n : Nat) (i k : Nat := 0) : Prop := t.rd f i k = min (s.rd f i k + n) (2 ^ f.len - 1)

/-- What a frame position does to a channel whose receiver is on (of R146, R166, R177): in Hunt a PSync with a good counter leads to PreSync, anything else
leaves Hunt; in PreSync the expected counter leads to Sync and anything else to Hunt, and where the channel is the reference and role 4 runs the activation
state moves with it (O1.1 to O1.2, O6 to O5, O5 to O6); in Sync a miss leads to ReSync, in ReSync the second miss stays and the third, the row
DS_FRAME_SYNC_LOST, leads to Hunt, where the channel is no member; a good position in Sync or ReSync leaves it in Sync and enters the frame's counter, or stores
the frame while D9 sleeps. The positions in Hunt and PreSync and the first miss of Sync are counted as lost. Outside this: a Frozen channel and a receiver that is off
do nothing; eight frames in Sync make a member in bonded mode; FROZEN_GRACE_EXPIRY ends the grace of R510 once 500 µs have passed. -/
def Sys2Proof.Spec.DownstreamSynchronisation : Prop :=
  ∀ (s : State) (ch : Nat) (f : DsFrame) (v : BitVec 51), ch < 4 →
    let sync := fun (x : State) => x.rd Fld.TC_DSC_STATUS_SYNC ch
    let missed := fun (x : State) => x.rd Fld.TC_DSC_STATUS_MISSED ch
    let good := f.psync = true ∧ f.sfc = some v ∧ v.toNat = (s.chan ch).next
    let bad := f.psync = false ∨ f.sfc = none ∨ (f.sfc = some v ∧ v.toNat ≠ (s.chan ch).next)
    let other := s.rd Fld.TC_ACT_STATUS_REF ≠ ch
    (bit (s.rd Fld.OP_DS_STATUS_RXON) ch = true →
      (sync s = 0 → f.psync = true → f.sfc = some v → Runs (.dsFrame ch f) s (fun t => sync t = 1 ∧
        (t.chan ch).next = (v.toNat + 1) % 2 ^ 51 ∧ Counts s t Fld.TC_DSC_FRLOST_COUNT 1 ch ∧ t.pre = s.pre ∧ t.hbm = s.hbm)) ∧
      (sync s = 0 → f.psync = false ∨ f.sfc = none → Runs (.dsFrame ch f) s (fun t => sync t = 0 ∧ t.fib = s.fib ∧
        Counts s t Fld.TC_DSC_FRLOST_COUNT 1 ch ∧ Only s t [.TC_DSC_FRLOST, .TC_DSC_HEC] ∧
        (f.psync = false → t.rdReg .TC_DSC_HEC ch = s.rdReg .TC_DSC_HEC ch))) ∧
      (sync s = 1 → good → Runs (.dsFrame ch f) s (fun t => sync t = 2 ∧ missed t = 0 ∧ Counts s t Fld.TC_DSC_FRLOST_COUNT 1 ch ∧
        (s.rd Fld.TC_ACT_STATUS_REF = ch → s.activationRole = true → s.rd Fld.TC_ACT_STATUS_STATE = 1 → s.fib.wdFailed = 0 →
          t.rd Fld.TC_ACT_STATUS_STATE = 2) ∧
        (s.rd Fld.TC_ACT_STATUS_REF = ch → s.activationRole = true → s.rd Fld.TC_ACT_STATUS_STATE = 6 → t.rd Fld.TC_ACT_STATUS_STATE = 5) ∧
        (other ∨ s.activationRole = false → t.rd Fld.TC_ACT_STATUS_STATE = s.rd Fld.TC_ACT_STATUS_STATE))) ∧
      (sync s = 1 → bad → other → Runs (.dsFrame ch f) s (fun t => sync t = 0)) ∧
      (sync s = 1 → bad → ¬ other → s.activationRole = true → s.rd Fld.TC_ACT_STATUS_STATE = 5 → s.rd Fld.TC_SLEEP_STATUS_STATE = 0 →
        s.on Fld.TC_DSC_STATUS_MEMBER ch = false → (s.chan ch).grace = false →
        Runs (.dsFrame ch f) s (fun t => sync t = 0 ∧ t.rd Fld.TC_ACT_STATUS_STATE = 6)) ∧
      (sync s = 2 ∨ sync s = 3 → good → f.ploam = [] → f.xgem = [] → f.map = [] → s.asleep 9 = false → (s.chan ch).store = [] →
        s.rd Fld.TC_SLEEP_STATUS_STATE ≠ 2 →
        Runs (.dsFrame ch f) s (fun t => sync t = 2 ∧ missed t = (if sync s = 3 then 0 else missed s) ∧ t.rd Fld.TC_DSC_SFC_SFC ch = v.toNat ∧
          (t.chan ch).run = (s.chan ch).run + 1 ∧ t.rd Fld.TC_DSC_FRLOST_COUNT ch = s.rd Fld.TC_DSC_FRLOST_COUNT ch)) ∧
      (sync s = 2 → good → s.asleep 9 = true → s.dsBytes ch + frameBytes f ≤ 262144 →
        Runs (.dsFrame ch f) s (fun t => t.rd Fld.TC_DSC_SFC_SFC ch = v.toNat ∧ ∃ y : DsStored, y.sfc = v.toNat ∧ y.frame = f ∧
          (s.rd Fld.TC_SLEEP_STATUS_STATE ≠ 2 → (t.chan ch).store = (s.chan ch).store ++ [y]))) ∧
      (sync s = 2 → bad → Runs (.dsFrame ch f) s (fun t => sync t = 3 ∧ missed t = 1 ∧ Counts s t Fld.TC_DSC_FRLOST_COUNT 1 ch)) ∧
      (sync s = 3 → bad → missed s < 2 → Runs (.dsFrame ch f) s (fun t => sync t = 3 ∧ missed t = missed s + 1)) ∧
      (sync s = 4 → exec (.dsFrame ch f) s = .next s)) ∧
    (bit (s.rd Fld.OP_DS_STATUS_RXON) ch = false → exec (.dsFrame ch f) s = .next s) ∧
    (sync s = 3 → 2 ≤ missed s → other → Runs (.dsFrameSyncLost ch) s (fun t => sync t = 0 ∧ missed t = 3 ∧
      Counts s t Fld.TC_DSC_FRLOST_COUNT 1 ch ∧ ((s.chan ch).grace = false → t.on Fld.TC_DSC_STATUS_MEMBER ch = false))) ∧
    (sync s ≠ 3 ∨ missed s < 2 → exec (.dsFrameSyncLost ch) s = .next s) ∧
    (s.on Fld.TC_DS_MODE_BONDED = true → sync s = 2 → 8 ≤ (s.chan ch).run →
      Runs (.bondChannelJoined ch) s (fun t => t.on Fld.TC_DSC_STATUS_MEMBER ch = true ∧ sync t = 2)) ∧
    (s.on Fld.TC_DS_MODE_BONDED = false ∨ sync s ≠ 2 ∨ (s.chan ch).run < 8 → exec (.bondChannelJoined ch) s = .next s) ∧
    ((s.chan ch).grace = true → (s.chan ch).onAt + 500000 ≤ s.ns64 → sync s = 0 → other →
      Runs (.frozenGraceExpiry ch) s (fun t => t.on Fld.TC_DSC_STATUS_MEMBER ch = false ∧ sync t = 0)) ∧
    ((s.chan ch).grace = true → (s.chan ch).onAt + 500000 ≤ s.ns64 → sync s ≠ 0 →
      exec (.frozenGraceExpiry ch) s = .next (s.setChan ch { s.chan ch with grace := false })) ∧
    ((s.chan ch).grace = false ∨ s.ns64 < (s.chan ch).onAt + 500000 → exec (.frozenGraceExpiry ch) s = .next s)

/-- The other events of a downstream channel and the writes that govern them (of R140, R148, R150, R151, R160, R165, R173). LOS of a receiver that is on follows
the row, of one that is off it does nothing; a window of 8,000 frames is evaluated no more than once per second and sets CORR1S, SD and SF by their
thresholds; REORDER_TIMEOUT, where an SDU has waited TIMEOUT, releases at least the group's first held SDU and counts the BSNs missing before it, and
does nothing earlier; a write of TC_DS_MODE that sets BONDED is discarded where BONDEN was 0 and else sets both bits; a cap is taken where its group
holds nothing and the caps fit the partition, and else discarded; a snapshot is armed for a later frame, or missed at once for one that has passed. -/
def Sys2Proof.Spec.DownstreamChannelEvents : Prop :=
  ∀ (s : State) (src : Src) (v : Word) (ch : Nat) (los : Bool), ch < 4 →
    let x := s.chan ch
    let held := (s.group ch).held
    let limit := s.rd ⟨.TC_DS_REORDER, 0, 16⟩ * 1000
    let total := (List.range 4).foldl (fun a k => a + (if k = ch then v.toNat % 2 ^ 16 else s.rd Fld.TC_DS_GRP_CTRL_CAP k)) 0
    let corr := x.win.foldl (fun n w => n + w.1) 0
    let uncorr := x.win.foldl (fun n w => n + w.2) 0
    let target := v.toNat % 2 ^ 19 * 2 ^ 32 + s.rd ⟨.TC_DSC_SNAPREQ, 0, 32⟩ ch
    (bit (s.rd Fld.OP_DS_STATUS_RXON) ch = true →
      Runs (.dsLosChange ch los) s (fun t => bit (t.rd Fld.OP_DS_STATUS_LOS) ch = los ∧ Only s t [.OP_DS_STATUS] ∧
        t.rd Fld.OP_DS_STATUS_RXON = s.rd Fld.OP_DS_STATUS_RXON)) ∧
    (bit (s.rd Fld.OP_DS_STATUS_RXON) ch = false → exec (.dsLosChange ch los) s = .next s) ∧
    (8000 ≤ x.win.length → (∀ e, x.evalAt = some e → e + 1000000000 ≤ s.ns64) →
      let sd := if s.rd Fld.TC_DSC_SDTHR_BITS ch < corr then true
        else if 2 * corr < s.rd Fld.TC_DSC_SDTHR_BITS ch then false else s.on Fld.TC_DSC_STATUS_SD ch
      let clean := if uncorr = 0 then x.clean + 1 else 0
      Runs (.dsSignalEval ch) s (fun t => t.rd Fld.TC_DSC_CORR1S_BITS ch = min corr (2 ^ 32 - 1) ∧ t.on Fld.TC_DSC_STATUS_SD ch = sd ∧
        (s.rd Fld.TC_DSC_SFTHR_COUNT ch < uncorr → t.on Fld.TC_DSC_STATUS_SF ch = true) ∧
        (uncorr ≤ s.rd Fld.TC_DSC_SFTHR_COUNT ch → 10 ≤ clean → t.on Fld.TC_DSC_STATUS_SF ch = false) ∧
        (uncorr ≤ s.rd Fld.TC_DSC_SFTHR_COUNT ch → clean < 10 → t.on Fld.TC_DSC_STATUS_SF ch = s.on Fld.TC_DSC_STATUS_SF ch) ∧
        t.chan ch = { x with evalAt := some s.ns64, clean := clean } ∧ Only s t [.TC_DSC_CORR1S, .TC_DSC_STATUS])) ∧
    (x.win.length < 8000 ∨ (∃ e, x.evalAt = some e ∧ s.ns64 < e + 1000000000) → exec (.dsSignalEval ch) s = .next s) ∧
    (∀ h rest, held = h :: rest → h.bsn < 2 ^ 24 → (∃ y ∈ held, limit ≤ (s.ns - y.since).toNat) →
      Runs (.reorderTimeout ch) s (fun t => (t.group ch).held.length < held.length ∧
        Counts s t Fld.TC_DS_GRP_SKIPTO_COUNT ((h.bsn + 2 ^ 24 - s.rd Fld.TC_DS_GRP_EXPECT_EXPECT ch) % 2 ^ 24) ch)) ∧
    ((∀ y ∈ held, (s.ns - y.since).toNat < limit) → exec (.reorderTimeout ch) s = .next s) ∧
    (Accepted s src 0x09100100 v.toNat →
      (hasBit (v.zeroExtend 64) 1 → s.on Fld.TC_DS_MODE_BONDEN = false → Runs (.dsModeWrite src v) s (fun t => t.fib = s.fib ∧ Only s t [])) ∧
      (¬ hasBit (v.zeroExtend 64) 1 ∨ s.on Fld.TC_DS_MODE_BONDEN = true → Runs (.dsModeWrite src v) s (fun t =>
        (t.on Fld.TC_DS_MODE_BONDEN = true ↔ hasBit (v.zeroExtend 64) 0) ∧ (t.on Fld.TC_DS_MODE_BONDED = true ↔ hasBit (v.zeroExtend 64) 1)))) ∧
    (Accepted s src (0x09100200 + 0x20 * ch) v.toNat →
      (s.rd Fld.TC_DS_GRP_HELD_BYTES ch = 0 → total * 65536 ≤ s.partBytes 2 →
        Runs (.dsGroupCapWrite src ch v) s (fun t => t.rd Fld.TC_DS_GRP_CTRL_CAP ch = v.toNat % 2 ^ 16 ∧ Only s t [.TC_DS_GRP_CTRL])) ∧
      (s.rd Fld.TC_DS_GRP_HELD_BYTES ch ≠ 0 ∨ s.partBytes 2 < total * 65536 →
        Runs (.dsGroupCapWrite src ch v) s (fun t => t.fib = s.fib ∧ Only s t []))) ∧
    (Accepted s src (0x09110040 + 0x10000 * ch + 4) v.toNat → hasBit (v.zeroExtend 64) 31 →
      (s.rd Fld.TC_DSC_SFC_SFC ch < target → Runs (.snapshotArm src ch v) s (fun t => (∃ due, (t.chan ch).snap = some (target, due)) ∧
        t.on ⟨.TC_DSC_SNAPSTAT, 0, 1⟩ ch = false ∧ t.on ⟨.TC_DSC_SNAPSTAT, 2, 1⟩ ch = true ∧ Only s t [.TC_DSC_SNAPREQ, .TC_DSC_SNAPSTAT])) ∧
      (target ≤ s.rd Fld.TC_DSC_SFC_SFC ch → Runs (.snapshotArm src ch v) s (fun t => (t.chan ch).snap = none ∧
        t.on ⟨.TC_DSC_SNAPSTAT, 0, 1⟩ ch = true ∧ t.on Fld.TC_DSC_SNAPSTAT_MISSED ch = true ∧ Only s t [.TC_DSC_SNAPREQ, .TC_DSC_SNAPSTAT])))

/-- The downstream receivers: synchronisation, frames, loss and reorder (of R139 to R176). -/
def Obligations.DownstreamReception : Prop := Spec.DownstreamSynchronisation ∧ Spec.DownstreamChannelEvents

/-! ## The shared fibre: joining, the sleep agreement and upstream bursts -/

/-- A PLOAM message can be acted on: D9 is awake and the terminal is not in O7 (R212). -/
abbrev Sys2Proof.Spec.Hears (s : State) : Prop := s.asleep 9 = false ∧ s.rd Fld.TC_ACT_STATUS_STATE ≠ 7

/-- A vendor message is acted on by role 3, in O5 while TYPE is set, after Hello (R192, R194). -/
abbrev Sys2Proof.Spec.Agrees (s : State) : Prop :=
  s.ploamRole = true ∧ s.asleep 9 = false ∧ s.rd Fld.TC_ACT_STATUS_STATE = 5 ∧ s.rd Fld.TC_VPLOAM_CTRL_TYPE ≠ 0 ∧ s.on Fld.TC_VPLOAM_CTRL_HELLO = true

/-- Where a terminal that leaves ranging goes: O1.1, and from there at once to O7 while the emergency stop stands (R177, R213). -/
def Sys2Proof.Spec.start (s : State) : Nat := if s.on Fld.KT_ESTOP_LATCH = true then 7 else 1

/-- The standard PLOAM messages that move activation, in D9 awake outside O7 where the role that acts on them runs (of R177, R185, R187, R189, R198, R211, R212): an ONU-ID
for the site's identity takes O2-3 to O4, and role 3 enters it as the alloc-ID of allocation 511; a ranging time takes O4 to O5 and sets EqD, in 2⁻²⁴ ns and
rounded to 1/256 ns (log 62, PRESUMED); deactivation in O4 or O5 leads to O1.1, and on to O7 while the emergency stop is latched; a registration request in
O4 or O5 is answered (log 97, DESIGN CHOICE); disabling the site's serial number latches the emergency stop in O7, and enabling in O7 releases it. A message whose
MIC fails, one that comes in another state, and an ONU-ID for another identity do nothing. -/
def Sys2Proof.Spec.ActivationMessages : Prop :=
  ∀ (s : State) (onu : BitVec 10) (vendor serial : Word) (eqd : Nat), Hears s →
    let act := fun (x : State) => x.rd Fld.TC_ACT_STATUS_STATE
    let site := s.rdReg .KT_SITE_VENDOR = BitVec.ofNat 64 vendor.toNat ∧ s.rdReg .KT_SITE_SERIAL = BitVec.ofNat 64 serial.toNat
    (s.activationRole = true → act s = 3 → site → Runs (.assignOnuId true onu vendor serial) s (fun t => act t = 4 ∧
      t.rd Fld.TC_ACT_STATUS_ONUID = onu.toNat ∧ t.on Fld.TC_ACT_STATUS_IDVALID = true ∧
      (s.ploamRole = true → t.rd Fld.TM_ALLOC_MAP_ALLOCID 511 = onu.toNat))) ∧
    (act s ≠ 3 ∨ ¬ site ∨ s.activationRole = false → exec (.assignOnuId true onu vendor serial) s = .next s) ∧
    (¬ (act s = 4 ∨ act s = 5) → exec (.rangingTime true eqd) s = .next s ∧ exec (.deactivateOnuId true none) s = .next s ∧
      exec (.requestRegistration true) s = .next s) ∧
    (act s = 4 ∨ act s = 5 →
      (s.rangingRole = true → Runs (.rangingTime true eqd) s (fun t => (s.activationRole = true ∨ act s = 5 → act t = 5) ∧
        t.rd Fld.TC_RNG_EQD_EQD 0 0 = (eqd + 32768) / 65536 % 2 ^ 31 ∧ t.on Fld.TC_RNG_EQD_VALID 0 0 = true)) ∧
      (s.activationRole = true →
        Runs (.deactivateOnuId true none) s (fun t => act t = start s ∧ t.on Fld.TC_ACT_STATUS_IDVALID = false) ∧
        (s.on Fld.TC_ACT_STATUS_IDVALID = true → s.rd Fld.TC_ACT_STATUS_ONUID = onu.toNat →
          Runs (.deactivateOnuId true (some onu)) s (fun t => act t = start s ∧ t.on Fld.TC_ACT_STATUS_IDVALID = false))) ∧
      (s.ploamRole = true → exec (.requestRegistration true) s = .next { s with fib := { s.fib with
        up := s.fib.up ++ [.registration ((List.range 9).flatMap fun k => (bytes (s.rd Fld.TC_ACT_REGID_REGID 0 k) 4).reverse)] } })) ∧
    (2 ≤ act s → act s ≤ 6 → site → Runs (.disableSerialNumber true vendor serial) s (fun t => act t = 7 ∧ t.on Fld.KT_ESTOP_LATCH = true)) ∧
    (exec (.assignOnuId false onu vendor serial) s = .next s ∧ exec (.rangingTime false eqd) s = .next s ∧
      exec (.deactivateOnuId false none) s = .next s ∧ exec (.requestRegistration false) s = .next s ∧
      exec (.disableSerialNumber false vendor serial) s = .next s ∧ exec (.enableSerialNumber false none) s = .next s) ∧
    (∀ (u : State) (form : Option (Word × Word)), u.asleep 9 = false → act u = 7 →
      (∀ w, form = some w → u.rdReg .KT_SITE_VENDOR = BitVec.ofNat 64 w.1.toNat ∧ u.rdReg .KT_SITE_SERIAL = BitVec.ofNat 64 w.2.toNat) →
      Runs (.enableSerialNumber true form) u (fun t => t.on Fld.KT_ESTOP_LATCH = false ∧
        (u.on Fld.OP_WD_STATUS_TRIP0 = false → act t = 1) ∧
        (u.on Fld.OP_WD_STATUS_TRIP0 = true → act t = 7 ∧ t.rd Fld.TC_ACT_STATUS_CAUSE = 7)))

/-- What else belongs to activation (of R177, R179, R181, R183, R184, R197, R199, R203, R214, R215). Where role 4 runs: TO1 ms in O4 and TO2 ms in O6 lead to O1.1 (to O7 while
the emergency stop is latched), DEACT outside O7 too, a discovery window in O2-3 is answered at the random delay or passed over while SKIP counts, and a ranging grant of UC0 in O4
is answered against the reference; where role 5 runs, a grant in O5 that starts within 10 ms of the arming of its pair is answered against the pair's channel in Sync, on UC1
without its EqD only for the reference; all with EqD = 0. A tripped UC answers no grant. The burst watchdog trips for a burst or a response that holds enable too long, and for light
without a burst; a tripped one stays until a write of CLEAR finds it dark, with no burst. (How long a response lasts: log 67, DEDUCED.) -/
def Sys2Proof.Spec.ActivationEvents : Prop :=
  ∀ (s : State) (src : Src) (v : Word) (m : BitVec 1) (light : Bool) (sfc start_ a : Nat),
    let act := fun (x : State) => x.rd Fld.TC_ACT_STATUS_STATE
    let ref := s.rd Fld.TC_ACT_STATUS_REF
    let u := m.toNat
    let trip := fun (x : State) (k : Nat) => if k = 0 then x.on Fld.OP_WD_STATUS_TRIP0 else x.on Fld.OP_WD_STATUS_TRIP1
    let reg : UpMsg := .registration ((List.range 9).flatMap fun k => (bytes (s.rd Fld.TC_ACT_REGID_REGID 0 k) 4).reverse)
    let limit := fun (n : Nat) => s.rd ⟨.TC_ACT_TIMERS, n, 16⟩ * 1000000
    (s.activationRole = true → act s = 4 → s.fib.timerAt + limit 0 ≤ s.ns64 → Runs .to1Expiry s (fun t => act t = start s)) ∧
    (act s ≠ 4 ∨ s.ns64 < s.fib.timerAt + limit 0 → exec .to1Expiry s = .next s) ∧
    (s.activationRole = true → act s = 6 → s.fib.timerAt + limit 16 ≤ s.ns64 → Runs .to2Expiry s (fun t => act t = start s)) ∧
    (act s ≠ 6 ∨ s.ns64 < s.fib.timerAt + limit 16 → exec .to2Expiry s = .next s) ∧
    (Accepted s src 0x09100004 v.toNat → act s ≠ 7 → Runs (.activationDeact src v) s (fun t =>
      (t.on Fld.TC_ACT_CTRL_HOLD = true ↔ hasBit (v.zeroExtend 64) 1) ∧
      (hasBit (v.zeroExtend 64) 0 → s.activationRole = true → act t = start s) ∧ (¬ hasBit (v.zeroExtend 64) 0 → act t = act s))) ∧
    (s.activationRole = true → s.asleep 9 = false → act s = 3 → s.upFrameAt ref 0 sfc 0 = some a → s.fib.responded = false →
      (∀ b, s.fib.respondedAt = some b → ((b + 1000000) * 256 : Nat) ≤ s.sinceOn ((a + start_) % 2 ^ 40)) →
      (s.rd Fld.TC_DISC_SKIP = 0 → s.on Fld.OP_WD_STATUS_TRIP0 = false → Runs (.discoveryWindow sfc start_) s (fun t => t.fib.responded = true ∧
        t.outs = .response 0 ref ((a + start_ + (Config.discoveryDelay s.draws).toNat) % 2 ^ 40) (s.upBytes (.serialNumber
          ((s.rdReg .KT_SITE_VENDOR).setWidth 32) ((s.rdReg .KT_SITE_SERIAL).setWidth 32)
          (BitVec.ofNat 32 (Config.discoveryDelay s.draws).toNat)) s.fib.upSent) :: s.outs)) ∧
      (s.rd Fld.TC_DISC_SKIP ≠ 0 → Runs (.discoveryWindow sfc start_) s (fun t => t.rd Fld.TC_DISC_SKIP = s.rd Fld.TC_DISC_SKIP - 1 ∧
        t.outs = s.outs))) ∧
    (act s ≠ 3 → exec (.discoveryWindow sfc start_) s = .next s) ∧
    (s.asleep 9 = false → trip s u = false →
      (s.activationRole = true → act s = 4 → u = 0 → s.upFrameAt ref 0 sfc 0 = some a → exec (.rangingGrant m sfc start_) s = .next { s with
        fib := { s.fib with upSent := s.fib.upSent + 1, respAt := Tab.set s.fib.respAt none 0 (some (s.nsOf ((a + start_) % 2 ^ 40))) }
        outs := .response 0 ref ((a + start_) % 2 ^ 40) (s.upBytes reg s.fib.upSent) :: s.outs }) ∧
      (∀ n e z, s.rangingRole = true → act s = 5 → s.fib.armed = [{ n := n, m := u, since := e, answered := none, at_ := z }] →
        s.rd Fld.TC_DSC_STATUS_SYNC n = 2 → s.upFrameAt n u sfc 0 = some a → s.nsOf ((a + start_) % 2 ^ 40) ≤ e + 10000000 →
        (u = 1 → s.on Fld.TC_RNG_EQD_VALID 0 1 = true ∨ n = ref) →
        exec (.rangingGrant m sfc start_) s = .next { s with
          fib := { s.fib with
            armed := [{ n := n, m := u, since := e, answered := some s.tsValid, at_ := s.nsOf ((a + start_) % 2 ^ 40) }]
            upSent := s.fib.upSent + 1, respAt := Tab.set s.fib.respAt none u (some (s.nsOf ((a + start_) % 2 ^ 40))) }
          outs := .response u n ((a + start_) % 2 ^ 40) (s.upBytes reg s.fib.upSent) :: s.outs })) ∧
    (s.asleep 9 = false → trip s u = true → exec (.rangingGrant m sfc start_) s = .next s) ∧
    (trip s u = false →
      (light = true ∧ s.burstOf u true true = none) ∨
      (light = false ∧ ∃ b, s.burstOf u true true = some b ∧
        ((b.granted + 16384 : Nat) < stampDiff s.stamp40 b.t + 2048 ∨ 32000000 < stampDiff s.stamp40 b.t + 2048)) ∨
      (light = false ∧ s.burstOf u true true = none ∧ ∃ e, Tab.get s.fib.respAt none u = some e ∧ e + 64 ≤ s.ns64 ∧ s.ns64 ≤ e + 125080) →
      Runs (.burstWatchdogTrip m light) s (fun t => trip t u = true ∧
        t.rd (if u = 0 then Fld.OP_WD_STATUS_CAUSE0 else Fld.OP_WD_STATUS_CAUSE1) = if light = true then 2 else 1)) ∧
    (light = true → (s.burstOf u true true).isSome = true → exec (.burstWatchdogTrip m light) s = .next s) ∧
    (light = false → s.burstOf u true true = none → Tab.get s.fib.respAt none u = none → exec (.burstWatchdogTrip m light) s = .next s) ∧
    (trip s u = true → exec (.burstWatchdogTrip m light) s = .next s) ∧
    (Accepted s src 0x09010000 v.toNat →
      (hasBit (v.zeroExtend 64) 0 → s.burstOf 0 true true = none → Runs (.wdClear0 src v true) s (fun t => trip t 0 = false)) ∧
      (hasBit (v.zeroExtend 64) 1 → s.burstOf 1 true true = none → Runs (.wdClear1 src v true) s (fun t => trip t 1 = false)) ∧
      (¬ hasBit (v.zeroExtend 64) 1 → Runs (.wdClear0 src v false) s (fun t => trip t 0 = trip s 0 ∧ t.fib = s.fib)))

/-- What moves activation (of R177 to R188, R198, R203, R211 to R215). -/
def Obligations.ActivationMoves : Prop := Spec.ActivationMessages ∧ Spec.ActivationEvents

/-- The messages by which the head end and the terminal agree, each read from its bytes, and what the terminal sends, where the role that acts on them runs
(of R191, R193 to R195, R199, R202 to R204, R222, R246, R475, R509): the delivery of a held PLOAM message, Assign_Alloc-ID and Key_Control in O5 (log 97, DESIGN CHOICE),
Sleep_Allow, Hello with its Capability, BondSet, MemberAck, PairRange, PairResult and PredictSet with what they set or when they are ignored and counted, the periodic
PairRequest, Membership's repeats, the end of an arming, and the ends of the low-power and aware periods. Without a good MIC none of them acts. (Where G.9804.2 has an
acknowledgement is Config's, log 62, PRESUMED.) -/
def Obligations.HeadEndAgreements : Prop :=
  ∀ (s : State) (n : BitVec 2) (m : BitVec 1) (id : BitVec 14) (body : List Byte) (a : Nat),
    let x := s.fib
    let ack := fun (kind : Nat) => ((Config.ackDone kind 0).map UpMsg.ack).toList
    let flags := (body.headD 0).toNat
    (∀ b r d w, s.asleep 9 = false → s.on Fld.TC_PLOAM_TARGET_EN = true → x.ploam = b :: r → w = s.rdReg .TC_PLOAM_TARGET &&& 0x1FFFFFFFFFFF →
      destination w = some (.ctx d) → (s.ctx d).loader ≠ 0 → w.toNat / 2 ^ 10 % 256 = (s.ctx d).gen.toNat → ¬ hasBit w 36 →
      (s.ctx d).mbx.length ≤ 13 → ∃ k, Runs .ploamDelivery s (fun t => t.fib = { x with ploam := r } ∧ (t.ctx d).mbx = (s.ctx d).mbx ++ [k] ∧
        k.sender = .block 0x300 ∧ k.body = (List.range 6).map (fun j => BitVec.ofNat 64 (little ((b.drop (8 * j)).take 8))))) ∧
    (Hears s →
      (s.rd Fld.TC_ACT_STATUS_STATE = 5 →
        (s.ploamRole = true → x.assigned.length < 512 ∨ id.toNat ∈ x.assigned → Runs (.assignAllocId true id true) s (fun t => id.toNat ∈ t.fib.assigned ∧
          t.fib.up = x.up ++ ack 6)) ∧
        (s.ploamRole = true → 512 ≤ x.assigned.length → id.toNat ∉ x.assigned →
          exec (.assignAllocId true id true) s = .next { s with fib := { x with up := x.up ++ [.ack (Config.ackCode 2)] } }) ∧
        (s.ploamRole = true → Runs (.assignAllocId true id false) s (fun t => id.toNat ∉ t.fib.assigned ∧ t.fib.up = x.up ++ ack 6 ∧
          ∀ k, k < 512 → s.rd Fld.TM_ALLOC_MAP_ALLOCID k = id.toNat → t.on Fld.TM_ALLOC_MAP_BOUND k = false)) ∧
        (s.roleRuns 18 = true → s.asleep 8 = true → Runs (.keyControl true n) s (fun t => t.fib = { x with keyWait := n })) ∧
        (s.roleRuns 18 = true → s.asleep 8 = false → n = 1 ∨ n = 2 → s.rd Fld.CX_PON_KEY_TXIDX ≠ n.toNat → Runs (.keyControl true n) s (fun t =>
          t.on Fld.CX_SC_CFG_KEYV (1015 + n.toNat) = true ∧
          t.fib.up = x.up ++ [.keyReport ((List.range 8).map fun k => BitVec.ofNat 32 (t.rd Fld.CX_PON_GENOUT_BYTES 0 k))]))) ∧
      (s.rd Fld.TC_ACT_STATUS_STATE ≠ 5 → exec (.assignAllocId true id true) s = .next s ∧ exec (.assignAllocId true id false) s = .next s ∧
        exec (.keyControl true n) s = .next s) ∧
      (s.ploamRole = true → s.roleRuns 19 = true → n ≠ 3 → n ≠ 0 → Runs (.sleepAllow true n) s (fun t => t.on Fld.TC_SLEEP_STATUS_ALLOWED = true ∧
        t.fib = { x with sleepMode := n.toNat, up := x.up ++ ack 8 })) ∧
      Runs (.sleepAllow true 3) s (fun t => Counts s t Fld.TC_PLOAM_CNT_UNSUP 1 ∧ t.on Fld.TC_SLEEP_STATUS_ALLOWED = s.on Fld.TC_SLEEP_STATUS_ALLOWED) ∧
      (s.roleRuns 19 = true → Runs (.sleepAllow true 0) s (fun t => t.on Fld.TC_SLEEP_STATUS_ALLOWED = false ∧ t.fib.sleepMode = 0 ∧
        t.rd Fld.TC_SLEEP_STATUS_STATE = 0))) ∧
    (exec (.assignAllocId false id true) s = .next s ∧ exec (.keyControl false n) s = .next s ∧ exec (.sleepAllow false n) s = .next s ∧
      exec (.hello false body) s = .next s ∧ exec (.bondset false body) s = .next s ∧ exec (.memberack false body) s = .next s ∧
      exec (.pairrange false body) s = .next s ∧ exec (.pairresult false body) s = .next s ∧ exec (.predictset false body) s = .next s) ∧
    (s.ploamRole = true → s.asleep 9 = false → s.rd Fld.TC_ACT_STATUS_STATE = 5 → s.rd Fld.TC_VPLOAM_CTRL_TYPE ≠ 0 →
      let cap := (if flags % 2 = 1 ∧ s.on Fld.TC_DS_MODE_BONDEN = true then 1 else 0) +
        (if flags / 2 % 2 = 1 ∧ s.on Fld.TC_VPLOAM_CTRL_ASYMEN = true then 2 else 0) +
        (if flags / 4 % 2 = 1 ∧ s.on Fld.TC_VPLOAM_CTRL_PREDEN = true then 4 else 0)
      ∃ rest, Runs (.hello true body) s (fun t => t.on Fld.TC_VPLOAM_CTRL_HELLO = true ∧ t.fib.offered = cap ∧
        t.fib.up = x.up ++ .vendor 0x81 [BitVec.ofNat 8 cap, BitVec.ofNat 8 (15 + s.rd Fld.TC_US_MODE_WORKING * 16)] :: rest)) ∧
    (Agrees s → 16 ≤ body.length →
      let big := fun (k n : Nat) => little ((body.drop (k - 4)).take n).reverse
      let second := big 5 1
      let bonded := decide (flags % 2 = 1)
      let n := flags % 4
      let m := flags / 16 % 2
      let offered := bit x.offered 0 = true ∨ s.on Fld.TC_VPLOAM_CTRL_BONDAG = true
      let ignored := fun (i : Instr) => Runs i s (fun t => t.fib = x ∧ Counts s t Fld.TC_VPLOAM_CTRL_IGNORED 1 ∧ Only s t [.TC_VPLOAM_CTRL])
      (s.bondingRole = true → offered → Runs (.bondset true body) s (fun t =>
        t.on Fld.TC_VPLOAM_CTRL_BONDAG = true ∧ (t.on Fld.TC_US_MODE_UC1USE = true ↔ second / 16 % 2 = 1) ∧
        (s.on Fld.TC_DS_MODE_BONDEN = true ∨ bonded = false → t.on Fld.TC_DS_MODE_BONDED = bonded) ∧
        (s.on Fld.TC_DS_MODE_BONDEN = false → bonded = true → t.on Fld.TC_DS_MODE_BONDED = s.on Fld.TC_DS_MODE_BONDED) ∧
        t.fib.bondSet = true ∧ t.fib.channels = second % 16)) ∧
      (¬ offered → ignored (.bondset true body)) ∧
      (s.bondingRole = true → s.on Fld.TC_VPLOAM_CTRL_BONDAG = true →
        (big 4 2 = x.mseq → exec (.memberack true body) s = .next { s with fib := { x with macked := true } }) ∧
        (big 4 2 ≠ x.mseq → exec (.memberack true body) s = .next s)) ∧
      (s.on Fld.TC_VPLOAM_CTRL_BONDAG = false → ignored (.memberack true body)) ∧
      (s.rangingRole = true → s.on Fld.TC_VPLOAM_CTRL_ASYMAG = true → exec (.pairrange true body) s = .next { s with
        fib := { x with armed := x.armed.filter (fun y => y.n ≠ n || y.m ≠ m) ++ [{ n := n, m := m, since := s.ns64 }] } }) ∧
      (s.on Fld.TC_VPLOAM_CTRL_ASYMAG = false → s.on Fld.TC_VPLOAM_CTRL_BONDAG = false → ignored (.pairrange true body) ∧ ignored (.pairresult true body)) ∧
      (∀ e tsv z, s.rangingRole = true → s.on Fld.TC_VPLOAM_CTRL_ASYMAG = true → x.armed = [{ n := n, m := m, since := e, answered := some tsv, at_ := z }] →
        Runs (.pairresult true body) s (fun t => t.fib.armed = [] ∧ t.on Fld.TC_PAIR_RT_VALID 0 (2 * n + m) = true ∧
          t.on Fld.TC_PAIR_RT_TSV 0 (2 * n + m) = tsv ∧
          (t.rd Fld.TC_PAIR_RT_RT 0 (2 * n + m) : Int) = ((big 8 5 : Int) - (Config.responseTime s.boot.calibBad n m : Nat)) % 2 ^ 40 ∧
          (second % 2 = 1 → n = s.rd Fld.TC_ACT_STATUS_REF → m = 1 → s.on Fld.TC_DS_MODE_BONDED = true →
            t.rd Fld.TC_RNG_EQD_EQD 0 1 = big 16 4 % 2 ^ 31 ∧ t.on Fld.TC_RNG_EQD_VALID 0 1 = true))) ∧
      (s.roleRuns 15 = true → s.boundTo (big 4 2) = some a →
        (bit x.offered 2 = true ∨ s.on Fld.TM_ALLOC_MAP_PAGREE a = true → big 6 1 % 2 = 0 → Runs (.predictset true body) s (fun t => t.on Fld.TM_ALLOC_MAP_PAGREE a = false ∧ Only s t [.TM_ALLOC_MAP])) ∧
        (bit x.offered 2 = true → big 6 1 % 2 = 1 → s.on Fld.TM_ALLOC_MAP_PRED a = true → s.on Fld.TC_VPLOAM_CTRL_PREDEN = true →
          Runs (.predictset true body) s (fun t => t.on Fld.TM_ALLOC_MAP_PAGREE a = true ∧ Only s t [.TM_ALLOC_MAP]))) ∧
      (bit x.offered 2 = false → s.boundTo (big 4 2) = some a → s.on Fld.TM_ALLOC_MAP_PAGREE a = false → ignored (.predictset true body)) ∧
      (s.boundTo (big 4 2) = none → ignored (.predictset true body)) ∧
      (s.rangingRole = true → s.on Fld.TC_VPLOAM_CTRL_ASYMAG = true → s.rd ⟨.TT_ASYM_CTRL, 8, 8⟩ ≠ 0 →
        x.pairAt + s.rd ⟨.TT_ASYM_CTRL, 8, 8⟩ * 60000000000 ≤ s.ns64 → s.pairMask ≠ 0 → exec .pairRequestPeriod s = .next { s with
        fib := { x with pairWant := s.pairMask, pairGot := 0, pairAt := s.ns64, up := x.up ++ [.vendor 0x83 [BitVec.ofNat 8 s.pairMask]] } }) ∧
      (s.bondingRole = true → x.macked = false → x.member ≠ none → x.memberAt + 1000000000 ≤ s.ns64 →
        (x.mtries < 10 → ∃ b, exec .membershipRepeat s = .next { s with
          fib := { x with mtries := x.mtries + 1, memberAt := s.ns64, up := x.up ++ [.vendor 0x82 ((bytes x.mseq 2).reverse ++ b)] } }) ∧
        (x.mtries = 10 → Runs .membershipRepeat s (fun t => t.fib = { x with mtries := 11 } ∧ Only s t [])))) ∧
    exec (.pairArmTimeout n m) s = .next { s with
      fib := { x with armed := x.armed.filter (fun y => y.n ≠ n.toNat || y.m ≠ m.toNat || y.answered.isSome || decide (s.ns64 < y.since + 10000000)) } } ∧
    (s.rd Fld.TC_SLEEP_STATUS_STATE = 2 → x.sleepAt + 125000 * s.rd Fld.TC_SLEEP_PARAM_ILOWPOWER ≤ s.ns64 → Runs .sleepLowpowerEnd s (fun t => t.rd Fld.TC_SLEEP_STATUS_STATE = 3 ∧
      bit (t.rd Fld.OP_DS_STATUS_RXON) 0 = true)) ∧
    (s.rd Fld.TC_SLEEP_STATUS_STATE ≠ 2 ∨ s.ns64 < x.sleepAt + 125000 * s.rd Fld.TC_SLEEP_PARAM_ILOWPOWER → exec .sleepLowpowerEnd s = .next s) ∧
    (s.rd Fld.TC_SLEEP_STATUS_STATE ≠ 3 ∨ s.ns64 < x.sleepAt + 125000 * s.rd Fld.TC_SLEEP_PARAM_IAWARE → exec .sleepAwareEnd s = .next s) ∧
    (s.rd Fld.TC_SLEEP_STATUS_STATE = 3 → x.sleepAt + 125000 * s.rd Fld.TC_SLEEP_PARAM_IAWARE ≤ s.ns64 →
      (s.sleepConditions 2 false = true → Runs .sleepAwareEnd s (fun t => t.rd Fld.TC_SLEEP_STATUS_STATE = 2 ∧ t.rd Fld.OP_DS_STATUS_RXON = 0)) ∧
      (s.sleepConditions 2 false = false → Runs .sleepAwareEnd s (fun t => t.rd Fld.TC_SLEEP_STATUS_STATE = 0)))

/-- Profiles, bursts and grant-loss hold (of R188, R222, R234, R235, R244, R250). A profile with a good MIC is learned outside O7. A burst of one grant that is bound to no
allocation is staged from 20 µs before its start: it takes the first waiting message, or an Acknowledgement where nothing waits, reports an empty queue and is filled with idle bytes. A
staged burst is sent from 8 ns before T, its granted length loaded, and ends when that has passed; one that is not ended 64 ns later trips the watchdog. A write of TM_ALLOC_MAP sets
NQ and EN, and ALLOCID while BOUND = 0; of the allocations of one alloc-ID the higher ones lose BOUND. A hold begins from Armed or Draining, DETECT µs after the last
burst in O5 or at START; at HOLDMAX or ABANDON its queue is discarded and counted. -/
def Obligations.UpstreamBurstsAndHold : Prop :=
  ∀ (s : State) (src : Src) (v : Word) (m n rate : Nat) (fec : Bool) (guard : BitVec 8) (preamble : BitVec 10) (delim : BitVec 6) (b : Burst)
    (g : Grant) (a : Nat) (lane : Nat) (mis : Option Nat) (err : EccErr) (fine : Int), m < 2 → n < 4 → a < 512 →
    let hold := fun (x : State) (k : Nat) => x.rd Fld.TM_ALLOC_HOLD_STATE k
    let f := v.toNat % 512
    (rate < 2 → s.rd Fld.TC_ACT_STATUS_STATE ≠ 7 → Runs (.burstProfile true m n rate fec guard preamble delim) s (fun t =>
      t.on Fld.TC_USC_PROF_VALID m n = true ∧ (t.on Fld.TC_USC_PROF_RATE m n = true ↔ rate = 1) ∧ t.on ⟨.TC_USC_PROF, 2, 1⟩ m n = fec ∧ t.rd ⟨.TC_USC_PROF, 8, 8⟩ m n = guard.toNat ∧
      t.rd Fld.TC_USC_PROF_PREAMBLE m n = preamble.toNat ∧ t.rd Fld.TC_USC_PROF_DELIM m n = delim.toNat)) ∧
    (2 ≤ rate ∨ s.rd Fld.TC_ACT_STATUS_STATE = 7 → exec (.burstProfile true m n rate fec guard preamble delim) s = .next s) ∧
    exec (.burstProfile false m n rate fec guard preamble delim) s = .next s ∧
    (s.asleep 5 = false → s.asleep 8 = false → s.asleep 9 = false → s.pow.timekeep = false → s.fib.bursts = [b] → b.uc = m → b.staged = false →
      b.started = false → b.grants = [g] → g.alloc = none → 0 < g.room → stampDiff b.t s.stamp40 ≤ 5120000 →
      let head := (if g.ploamu = true then 48 else 0) + (if g.dbru = true then 4 else 0)
      Runs (.burstStagingStart m lane mis err) s (fun t => t.tm = s.tm ∧ SameMemory s t ∧
        t.fib.up = (if g.ploamu = true then s.fib.up.drop 1 else s.fib.up) ∧
        t.fib.bursts = [{ b with staged := true, idle := b.idle ++ [(g.start + upTime b.fast (if b.fec = true then Config.upParity head else head), g.room)]
                                 msgs := b.msgs ++ (if g.ploamu = false then [] else if s.fib.up ≠ [] then s.fib.up.take 1
                                   else if s.ploamRole = true then [.ack (Config.ackCode 3)] else [])
                                 reports := if g.dbru = true then [(512, reportField 0)] else [] }])) ∧
    (s.asleep 9 = false → s.burstOf m true false = some b → stampDiff b.t s.stamp40 ≤ 2048 →
      let wire := b.head + b.grants.foldl (fun k y => k + y.wire) 0
      Runs (.burstStart m fine none) s (fun t =>
        t.outs.head? = some (.burst m b.t (b.msgs.mapIdx fun k y => s.upBytes y (s.fib.upSent + k)) b.reports
          (b.pieces.map (fun y => (y.port, y.key, y.bytes))) (b.idle.foldl (fun k y => k + y.2) 0)) ∧
        t.fib.upSent = s.fib.upSent + b.msgs.length ∧
        { b with started := true, granted := 2048 + upTime b.fast wire } ∈ t.fib.bursts)) ∧
    (s.burstOf m true true = some b → (b.granted : Nat) ≤ stampDiff s.stamp40 b.t + 2048 →
      (stampDiff s.stamp40 b.t + 2048 ≤ (b.granted + 16384 : Nat) → stampDiff s.stamp40 b.t + 2048 ≤ 32000000 → Runs (.burstEnd m) s (fun t =>
        t.fib.bursts = s.fib.bursts.filter (· ≠ b) ∧ Counts s t Fld.TC_USC_BURSTS_COUNT 1 m)) ∧
      ((b.granted + 16384 : Nat) < stampDiff s.stamp40 b.t + 2048 → Runs (.burstEnd m) s (fun t => t.tripped m = true ∧
        t.rd (if m = 0 then Fld.OP_WD_STATUS_CAUSE0 else Fld.OP_WD_STATUS_CAUSE1) = 1))) ∧
    (s.burstOf m true true = some b → stampDiff s.stamp40 b.t + 2048 < (b.granted : Nat) → exec (.burstEnd m) s = .next s) ∧
    (s.burstOf m false false = none → exec (.burstStagingStart m lane mis err) s = .next s) ∧
    (s.burstOf m true false = none → exec (.burstStart m fine none) s = .next s) ∧
    (s.burstOf m true true = none → exec (.burstEnd m) s = .next s) ∧
    (Accepted s src (0x05140000 + 0x20 * a) v.toNat → s.maintains src = false → a ≠ 511 → Runs (.allocMapWrite src a v) s (fun t =>
      t.rd Fld.TM_ALLOC_MAP_NQ a = v.toNat / 2 ^ 16 % 4 ∧ (t.on Fld.TM_ALLOC_MAP_EN a = true ↔ hasBit (v.zeroExtend 64) 15) ∧
      (s.on Fld.TM_ALLOC_MAP_BOUND a = false → t.rd Fld.TM_ALLOC_MAP_ALLOCID a = v.toNat % 2 ^ 14) ∧
      (s.on Fld.TM_ALLOC_MAP_BOUND a = true → t.rd Fld.TM_ALLOC_MAP_ALLOCID a = s.rd Fld.TM_ALLOC_MAP_ALLOCID a) ∧
      (s.on Fld.TM_ALLOC_MAP_BOUND a = false → t.on Fld.TM_ALLOC_MAP_BOUND a = false) ∧
      (s.on Fld.TM_ALLOC_MAP_BOUND a = true → (¬ hasBit (v.zeroExtend 64) 15 ∨ ∀ k, k < 512 → k ≠ a → s.on Fld.TM_ALLOC_MAP_BOUND k = true →
        s.rd Fld.TM_ALLOC_MAP_ALLOCID k ≠ s.rd Fld.TM_ALLOC_MAP_ALLOCID a) → t.on Fld.TM_ALLOC_MAP_BOUND a = true) ∧
      (s.on Fld.TM_ALLOC_MAP_BOUND a = true → hasBit (v.zeroExtend 64) 15 → ∀ k, a < k → k < 512 → s.on Fld.TM_ALLOC_MAP_EN k = true →
        s.rd Fld.TM_ALLOC_MAP_ALLOCID k = s.rd Fld.TM_ALLOC_MAP_ALLOCID a → t.on Fld.TM_ALLOC_MAP_BOUND k = false) ∧ Only s t [.TM_ALLOC_MAP, .TM_ALLOC_HOLD])) ∧
    (∀ e, s.rd Fld.TC_ACT_STATUS_STATE = 5 → Tab.get s.fib.carried none a = some e →
      max e s.fib.timerAt + s.rd ⟨.TM_HOLD_CTRL, 1, 15⟩ * 1000 ≤ s.ns64 → (hold s a = 1 ∧ s.on Fld.TM_HOLD_CTRL_EN = true) ∨ hold s a = 3 →
      Runs (.holdDetectExpiry a) s (fun t => hold t a = 2 ∧ t.rd Fld.TC_SLEEP_STATUS_STATE = 0)) ∧
    (s.rd Fld.TC_ACT_STATUS_STATE ≠ 5 ∨ Tab.get s.fib.carried none a = none → exec (.holdDetectExpiry a) s = .next s) ∧
    (∀ e, Tab.get s.fib.carried none a = some e → s.ns64 < max e s.fib.timerAt + s.rd ⟨.TM_HOLD_CTRL, 1, 15⟩ * 1000 →
      exec (.holdDetectExpiry a) s = .next s) ∧
    (hold s a = 2 → (Tab.get s.tm.holdTimes (0, 0) a).1 + s.rd ⟨.TM_HOLD_CTRL, 16, 11⟩ * 1000000 ≤ s.ns64 →
      Runs (.holdMaxExpiry a) s (fun t => hold t a = (if s.holdMarked a = true then 1 else 0) ∧ t.queue (3344 + a) = [] ∧
        Counts s t Fld.TM_HOLD_EXPIRED_BYTES (s.depth (3344 + a)))) ∧
    (hold s a ≠ 2 → exec (.holdMaxExpiry a) s = .next s) ∧
    (Accepted s src 0x05144030 v.toNat →
      (hasBit (v.zeroExtend 64) 12 → ¬ hasBit (v.zeroExtend 64) 13 → (hold s f = 1 ∧ s.on Fld.TM_HOLD_CTRL_EN = true) ∨ hold s f = 3 →
        Runs (.holdForceStart src v) s (fun t => hold t f = 2)) ∧
      (¬ hasBit (v.zeroExtend 64) 12 → hasBit (v.zeroExtend 64) 13 → 2 ≤ hold s f →
        Runs (.holdForceAbandon src v) s (fun t => hold t f = (if s.holdMarked f = true then 1 else 0) ∧ t.queue (3344 + f) = [] ∧
          Counts s t Fld.TM_HOLD_EXPIRED_BYTES (s.depth (3344 + f)))))

/-! ## Client lanes -/

/-- The registers that the lane commands write. -/
def Sys2Proof.Spec.laneRegs : List Reg :=
  [.LN_CTRL, .LN_STATUS, .LN_NEG_PARTNER, .LN_LPI, .LN_PRBS_CTRL, .LN_PRBS_STAT, .LN_PRBS_ERR, .LN_PRBS_BITS, .LN_BOL_CNT, .LN_REF, .LN_BUDGET_REFUSED,
   .MC_PREEMPT_STATUS]

/-- What a lane command leaves alone: all but the lanes, their registers and the MACs' verify counts. -/
def Sys2Proof.Spec.LaneFrame (s t : State) : Prop :=
  Only s t laneRegs ∧ t.sv = s.sv ∧ t.ld = s.ld ∧ t.tm = s.tm ∧ t.tb = s.tb ∧ t.cx = s.cx ∧ t.fib = s.fib ∧ t.boot = s.boot

/-- An accepted write of LN_CTRL (of R322, R323, R324, R327, R328). With both directions off the port is Disabled and reserves nothing. From off, a fixed rate within
the budget goes to Acquire at that rate and reserves it; negotiation goes to Hunt, or is dark in Acquire while its reference is not locked. A write beyond the budget is discarded whole and
counted; one that changes the configuration while a direction is on is discarded. -/
def Sys2Proof.Spec.LaneControlWrites : Prop :=
  ∀ (s : State) (src : Src) (p : Nat) (v : Word), p < 144 → Accepted s src (portBlock p) v.toNat →
    let st := fun (x : State) => x.rd Fld.LN_STATUS_STATE p
    let old := (s.rdReg .LN_CTRL p).toNat
    let n := v.toNat
    let rate := n / 16 % 4
    let gbps : Nat → Nat := fun r => if r = 0 then 10 else if r = 1 then 25 else 50
    let on := fun (k r : Nat) => if n / 2 ^ k % 2 = 1 then gbps r else 0
    let sum := fun (tx : Bool) => s.resSum tx - resGbps (if tx then (s.lane p).txRes else (s.lane p).rxRes)
    let fixed := old % 4 = 0 ∧ n % 4 ≠ 0 ∧ n / 4 % 4 = 0 ∧ rate ≠ 3 ∧ n / 4096 % 4 ≠ 3
    Runs (.laneCtrlWrite src p v) s (LaneFrame s) ∧
    (n % 4 = 0 → old % 4 ≠ 0 → sum true ≤ 3600 → sum false ≤ 3600 → Runs (.laneCtrlWrite src p v) s (fun t =>
      st t = 0 ∧ t.rd Fld.LN_CTRL_RXEN p = 0 ∧ t.rd Fld.LN_CTRL_TXEN p = 0 ∧ (t.lane p).txRes = 0 ∧ (t.lane p).rxRes = 0)) ∧
    (fixed → sum true + on 1 rate ≤ 3600 → sum false + on 0 rate ≤ 3600 → Runs (.laneCtrlWrite src p v) s (fun t =>
      st t = 3 ∧ t.rd Fld.LN_STATUS_CURRATE p = rate ∧ resGbps (t.lane p).txRes = on 1 rate ∧ resGbps (t.lane p).rxRes = on 0 rate)) ∧
    (fixed → 3600 < sum true + on 1 rate ∨ 3600 < sum false + on 0 rate → Runs (.laneCtrlWrite src p v) s (fun t =>
      t.lanes = s.lanes ∧ t.rdReg .LN_CTRL p = s.rdReg .LN_CTRL p ∧ Counts s t Fld.LN_BUDGET_REFUSED_COUNT 1 (p / 72))) ∧
    (old % 4 = 0 → n % 4 = 3 → n / 4 % 4 = 1 → rate ≠ 3 → n / 4096 % 4 ≠ 3 → n / 256 % 8 ≠ 0 →
      sum true + gbps (highestRate (n / 256 % 8)) ≤ 3600 → sum false + gbps (highestRate (n / 256 % 8)) ≤ 3600 →
      Runs (.laneCtrlWrite src p v) s (fun t => st t = (if bit (s.rd Fld.LN_REF_LOCK (p / 72)) 0 = true then 1 else 3) ∧ (t.lane p).offer = n / 256 % 8)) ∧
    (old % 4 ≠ 0 → n % 4 ≠ 0 → rate ≠ old / 16 % 4 → Runs (.laneCtrlWrite src p v) s (fun t =>
      t.lanes = s.lanes ∧ t.rdReg .LN_CTRL p = s.rdReg .LN_CTRL p))

/-- The port state machine while the lanes of the port's group run (of R322, R325, R328, R333 to R337, R345, R347). Line bits come in Hunt, Exchange and Rejected: the bit that ends
the 64th valid header in a row locks the alignment; the one that ends the 24th invalid header in 128 ends it, which is counted, and leads from Exchange to Hunt; the one that ends the
third filler in a row with more than 4 bits off its prediction ends descrambler sync. A page that the elastic store holds is recorded, or counted where its CRC or VER is wrong, and a block
of an unknown type is counted. A lit port's slot sends a page, and where the two ends share no rate the port goes to Rejected; TIMEOUT restarts; after their times Rejected and
Acquire return to Hunt; with light, no fault and its reference locked a port comes Up from Acquire, a negotiated one with its reservation; link loss, loss of light, a transmit
fault and the loss of the reference in use lead to Acquire. (The bits of a block are seen as the receiver has them: log 129, DEDUCED.) -/
def Obligations.LaneStateMachine : Prop :=
  ∀ (s : State) (p g k : Nat) (b : Bool) (bits : List Bool) (los : Bool) (x : Lane), p < 144 → g < 2 → k < 4 → s.lanesOff (portDomain p) = false →
    let st := fun (x : State) => x.rd Fld.LN_STATUS_STATE p
    let page := s.rd Fld.LN_NEG_PARTNER_PAGE p
    let bolnan := st s = 1 ∨ st s = 2 ∨ st s = 6
    let lit := s.on Fld.LN_CTRL_TXEN p = true ∧ s.on Fld.LN_STATUS_TXFAULT p = false ∧ (s.lane p).noRef = none ∧ s.on Fld.LN_STATUS_TXTEST p = false ∧
      s.rd Fld.LN_CTRL_LOOP p ≠ 2
    let near := s.on Fld.LN_CTRL_RXEN p = true ∧ s.on Fld.LN_CTRL_TXEN p = true ∧ s.rd Fld.LN_CTRL_LOOP p = 1
    let hunt := if bit (s.rd Fld.LN_REF_LOCK (p / 72)) 0 = true then 1 else 3
    let rx := (s.lane p).rx
    let valid := rx.block[0]? ≠ rx.block[1]?
    let bad := rx.heads.take 127 |>.countP id
    (∀ i ∈ [Instr.laneBlockAligned p bits, .laneAlignmentLoss p bits, .descramblerSyncLoss p bits, .lanePageReceive p bits k, .lanePageSlot p, .laneNegTimeout p,
      .laneRejectTimeout p, .laneUp p, .laneRetryTimeout p, .laneLinkLoss p, .clientLosChange p los, .laneTxFault p], Runs i s (LaneFrame s)) ∧
    (bolnan → ¬ near → rx.run.run ≠ 30 → rx.block.length = 129 → rx.stuffErr = 0 → rx.alignLoss = 0 → rx.lost = 0 →
      (rx.aligned = false → rx.good = 63 → valid → Runs (.laneBlockAligned p [b]) s (fun t => (t.lane p).rx.aligned = true ∧ (t.lane p).rx.block = [] ∧
        st t = if st s = 1 ∧ rx.synced = true then 2 else st s)) ∧
      (rx.aligned = true → ¬ valid → 23 ≤ bad → Runs (.laneAlignmentLoss p [b]) s (fun t => (t.lane p).rx.aligned = false ∧
        Counts s t Fld.LN_BOL_CNT_ALIGNLOSS 1 p ∧ st t = if st s = 2 then 1 else st s)) ∧
      (∀ r, rx.aligned = true → rx.synced = true → rx.reg = some r → rx.miss = 2 → rx.block.take 10 = [false, true, false, true, true, true, true, false, false, false] →
        bad < 24 → 4 < (List.zipWith (fun x y => x != y) ((rx.block ++ [b]).drop 10) ((scrBits 128 r).1.drop 8)).countP id →
        Runs (.descramblerSyncLoss p [b]) s (fun t => (t.lane p).rx.synced = false ∧ (t.lane p).rx.aligned = true ∧ st t = st s))) ∧
    (bolnan → ¬ near → rx.run.run = 30 → rx.stuffErr = 0 → rx.alignLoss = 0 → rx.lost = 0 → ¬ (rx.aligned = true ∧ rx.synced = true) →
      Runs (.laneBlockAligned p [b]) s (fun t => (t.lane p).rx.block = rx.block ∧
        Counts s t Fld.LN_BOL_CNT_STUFFERR (if b = rx.run.last then 1 else 0) p)) ∧
    (∀ y rest, bolnan → ¬ near → rx.store = y :: rest → y.ctrl = true →
      (y.payload % 256 = 0x4B → y.ok = true → st s ≠ 6 →
        (y.payload / 2 ^ 112 % 2 ^ 16 = pageCrc y.payload → y.payload / 2 ^ 8 % 16 = 1 → Runs (.lanePageReceive p [] 1) s (fun t =>
          t.rd Fld.LN_NEG_PARTNER_PAGE p = y.payload / 2 ^ 8 % 2 ^ 28 ∧ t.on Fld.LN_NEG_PARTNER_VALID p = true ∧ st t = st s ∧
          (t.lane p).rx.store = rest)) ∧
        (y.payload / 2 ^ 112 % 2 ^ 16 ≠ pageCrc y.payload ∨ y.payload / 2 ^ 8 % 16 ≠ 1 → Runs (.lanePageReceive p [] 1) s (fun t =>
          Counts s t Fld.LN_BOL_CNT_PAGEERR 1 p ∧ Only s t [.LN_BOL_CNT] ∧ (t.lane p).rx.store = rest))) ∧
      (y.payload % 256 ≠ 0x4B → y.payload % 256 ≠ 0x1E → Runs (.lanePageReceive p [] 1) s (fun t => Counts s t Fld.LN_BOL_CNT_UNKNOWN 1 p ∧
        Only s t [.LN_BOL_CNT] ∧ (t.lane p).rx.store = rest))) ∧
    (¬ bolnan → s.rd Fld.LN_CTRL_LOOP p = 0 → exec (.laneBlockAligned p bits) s = .next s ∧ exec (.laneAlignmentLoss p bits) s = .next s ∧
      exec (.descramblerSyncLoss p bits) s = .next s ∧ exec (.lanePageReceive p bits k) s = .next s ∧
      (s.on Fld.LN_STATUS_TXTEST p = false → exec (.lanePageSlot p) s = .next s) ∧ exec (.laneNegTimeout p) s = .next s) ∧
    (lit → st s = 1 ∨ st s = 6 ∨ (st s = 2 ∧ s.on Fld.LN_NEG_PARTNER_VALID p = false) → Runs (.lanePageSlot p) s (fun t => t.regs = s.regs ∧
      ∃ w l, t.outs = .line p l :: .page p w :: s.outs ∧ w % 256 = 0x4B ∧ w / 2 ^ 12 % 16 = if st s = 6 then 3 else 1)) ∧
    (lit → st s = 2 → s.on Fld.LN_NEG_PARTNER_VALID p = true → (s.lane p).offer % 8 &&& page / 2 ^ 16 % 8 = 0 →
      Runs (.lanePageSlot p) s (fun t => st t = 6)) ∧
    (st s = 1 ∨ st s = 2 → (s.lane p).huntAt + s.rd Fld.LN_NEG_TIMER_TIMEOUT p * 1000000 ≤ s.ns64 →
      Runs (.laneNegTimeout p) s (fun t => st t = st s ∧ Only s t [] ∧ (t.lane p).huntAt = s.ns64)) ∧
    (st s = 6 → (s.lane p).since + 1000000000 ≤ s.ns64 →
      Runs (.laneRejectTimeout p) s (fun t => st t = hunt ∧ t.on Fld.LN_NEG_PARTNER_VALID p = false)) ∧
    (st s ≠ 6 → exec (.laneRejectTimeout p) s = .next s) ∧
    (st s = 3 → s.on Fld.LN_STATUS_TXFAULT p = false → (s.lane p).noRef = none →
      s.on Fld.LN_CTRL_RXEN p = false ∨ s.on Fld.LN_STATUS_LOS p = false ∨ near → Runs (.laneUp p) s (fun t => st t = 4 ∧
      (s.rd Fld.LN_CTRL_MODE p = 1 → (t.lane p).txRes = s.rd Fld.LN_STATUS_CURRATE p + 1 ∧ (t.lane p).rxRes = s.rd Fld.LN_STATUS_CURRATE p + 1))) ∧
    (st s ≠ 3 → exec (.laneUp p) s = .next s ∧ exec (.laneRetryTimeout p) s = .next s) ∧
    (st s = 3 → s.rd Fld.LN_CTRL_MODE p = 1 → s.on Fld.LN_STATUS_TXTEST p = false →
      (s.lane p).since + s.rd Fld.LN_NEG_TIMER_RETRY p * 1000000 ≤ s.ns64 → Runs (.laneRetryTimeout p) s (fun t => st t = hunt ∧
      (t.lane p).txRes = highestRate (t.lane p).offer + 1 ∧ (t.lane p).rxRes = highestRate (t.lane p).offer + 1 ∧
      ∀ j, j < 3 → (bit (t.lane p).offer j = true ↔ bit (s.rd Fld.LN_CTRL_ALLOWED p) j = true ∧
        resGbps (j + 1) ≤ resGbps (s.lane p).txRes + (3600 - max (s.resSum true) (s.resSum false))))) ∧
    (st s = 4 → s.on Fld.LN_CTRL_RXEN p = true →
      Runs (.laneLinkLoss p) s (fun t => st t = 3 ∧ t.on Fld.LN_STATUS_TXLPI p = false ∧ t.on Fld.LN_STATUS_RXLPI p = false)) ∧
    (st s ≠ 4 ∨ s.on Fld.LN_CTRL_RXEN p = false → exec (.laneLinkLoss p) s = .next s) ∧
    Runs (.clientLosChange p los) s (fun t => t.on Fld.LN_STATUS_LOS p = los ∧
      st t = if st s = 4 ∧ los = true ∧ s.on Fld.LN_STATUS_LOS p = false ∧ s.on Fld.LN_CTRL_RXEN p = true ∧ ¬ near then 3 else st s) ∧
    (st s ≠ 0 → s.on Fld.LN_CTRL_TXEN p = true → s.on Fld.LN_STATUS_TXFAULT p = false →
      Runs (.laneTxFault p) s (fun t => st t = 3 ∧ t.on Fld.LN_STATUS_TXFAULT p = true)) ∧
    (st s = 0 ∨ s.on Fld.LN_CTRL_TXEN p = false ∨ s.on Fld.LN_STATUS_TXFAULT p = true → exec (.laneTxFault p) s = .next s) ∧
    (s.lanesOff (10 + g) = false → ∀ locked, Runs (.laneRefUnlock g k locked) s (fun t => bit (t.rd Fld.LN_REF_LOCK g) k = locked ∧
      (locked = false → s.lanes = [(p, x)] → p / 72 = g → st s = 3 ∨ st s = 4 → k = 1 + s.rd Fld.LN_STATUS_CURRATE p →
        st t = 3 ∧ (t.lane p).noRef = some k)))

/-- Sleep by direction, patterns and checkers while the lanes of the port's group run (of R339, R340, R341 to R344). TXLPI is entered in Up with nothing to send, TXIDLE µs after the last
frame and no gate edge near, and left when there is something to send or an edge is near; RXLPI follows the partner. A write of LN_PRBS_CTRL with codes 0 to 5, a mode that is not reserved
and EXP of 10 to 40 sets generator and checker, a generator in Acquire or Up with TXEN shows TXTEST, and a lit port injects one error for ONE in MODE 1 and for HDR, in Hunt, Exchange and
Rejected into the next bits of the line; MODE 2 announces its period; another code, mode or EXP is discarded. A checker that runs locks at the 256th bit in a row that meets its prediction,
counts bits and errors while locked, and loses lock at the 64th error among 256 bits. -/
def Sys2Proof.Spec.LanePatternsAndSleep : Prop :=
  ∀ (s : State) (src : Src) (p : Nat) (v : Word) (lpi b : Bool) (bits : List Bool), p < 144 →
    let st := s.rd Fld.LN_STATUS_STATE p
    let g := v.toNat % 16
    let c := v.toNat / 16 % 16
    let mode := v.toNat / 256 % 4
    let code := s.rd Fld.LN_PRBS_CTRL_CHK p
    let chk := (s.lane p).chk
    let inj := (s.lane p).inj
    (s.lanesOff (portDomain p) = false →
      (st = 4 → s.on Fld.LN_STATUS_CURLPI p = true →
        (s.on Fld.LN_CTRL_TXEN p = true → s.egressEmpty p = true → (s.lane p).sentAt + s.rd Fld.LN_LPI_TXIDLE p * 1000 ≤ s.ns64 →
          s.edgeWithin p (s.rd Fld.LN_LPI_TXWAKE p * 10 + 1000) = false →
          Runs (.txLpiEnter p) s (fun t => t.on Fld.LN_STATUS_TXLPI p = true ∧ LaneFrame s t)) ∧
        (s.on Fld.LN_CTRL_RXEN p = true → Runs (.rxLpiChange p lpi) s (fun t => t.on Fld.LN_STATUS_RXLPI p = lpi ∧ LaneFrame s t))) ∧
      (s.egressEmpty p = false ∨ s.edgeWithin p (s.rd Fld.LN_LPI_TXWAKE p * 10) = true →
        Runs (.txLpiWake p) s (fun t => t.on Fld.LN_STATUS_TXLPI p = false ∧ LaneFrame s t)) ∧
      (s.egressEmpty p = true → s.edgeWithin p (s.rd Fld.LN_LPI_TXWAKE p * 10) = false → exec (.txLpiWake p) s = .next s) ∧
      (code ≠ 0 → Runs (.prbsCheckerLock p bits) s (LaneFrame s) ∧ Runs (.prbsCheckerLoss p bits) s (LaneFrame s) ∧
        (chk.hist.length = patternSeed code → chk.bits = 0 → chk.errs = 0 → chk.losses = 0 →
          (chk.locked = false → b = patternNext code chk.hist → Runs (.prbsCheckerLock p [b]) s (fun t =>
            (t.on Fld.LN_PRBS_STAT_LOCK p = true ↔ 255 ≤ chk.good) ∧ t.rdReg .LN_PRBS_ERR p = s.rdReg .LN_PRBS_ERR p ∧
            t.rdReg .LN_PRBS_BITS p = s.rdReg .LN_PRBS_BITS p)) ∧
          (chk.locked = true → b = patternNext code chk.hist → (chk.win.take 255).countP id < 64 → Runs (.prbsCheckerLock p [b]) s (fun t =>
            t.on Fld.LN_PRBS_STAT_LOCK p = true ∧ Counts s t Fld.LN_PRBS_BITS_COUNT 1 p ∧ t.rd Fld.LN_PRBS_ERR_COUNT p = s.rd Fld.LN_PRBS_ERR_COUNT p)) ∧
          (chk.locked = true → b ≠ patternNext code chk.hist → Runs (.prbsCheckerLoss p [b]) s (fun t =>
            (t.on Fld.LN_PRBS_STAT_LOCK p = false ↔ 63 ≤ (chk.win.take 255).countP id) ∧ Counts s t Fld.LN_PRBS_ERR_COUNT 1 p ∧
            Counts s t Fld.LN_PRBS_BITS_COUNT 1 p ∧
            Counts s t Fld.LN_PRBS_STAT_LOCKLOST (if 63 ≤ (chk.win.take 255).countP id then 1 else 0) p)))) ∧
      (code = 0 → exec (.prbsCheckerLock p bits) s = .next s ∧ exec (.prbsCheckerLoss p bits) s = .next s)) ∧
    (s.lanesOff (portDomain p) = true → exec (.txLpiEnter p) s = .next s ∧ exec (.txLpiWake p) s = .next s ∧ exec (.rxLpiChange p lpi) s = .next s ∧
      exec (.prbsCheckerLock p bits) s = .next s ∧ exec (.prbsCheckerLoss p bits) s = .next s) ∧
    (Accepted s src (portBlock p + 0x20) v.toNat →
      (10 ≤ v.toNat / 1024 % 64 → v.toNat / 1024 % 64 ≤ 40 → g ≤ 5 → c ≤ 5 → mode ≠ 3 → ∀ i ∈ [Instr.prbsGenWrite src p v, .prbsChkWrite src p v, .prbsInjectOne src p v, .prbsInjectHdr src p v],
        Runs i s (fun t => t.rd Fld.LN_PRBS_CTRL_GEN p = g ∧ t.rd Fld.LN_PRBS_CTRL_CHK p = c ∧ LaneFrame s t ∧
          (g ≠ 0 → st = 3 ∨ st = 4 → s.on Fld.LN_CTRL_TXEN p = true → t.on Fld.LN_STATUS_TXTEST p = true) ∧
          (g = 0 → t.on Fld.LN_STATUS_TXTEST p = false) ∧ (c ≠ s.rd Fld.LN_PRBS_CTRL_CHK p → t.on Fld.LN_PRBS_STAT_LOCK p = false) ∧
          (mode = 2 → s.rd Fld.LN_PRBS_CTRL_MODE p ≠ 2 → .injectEvery p (some (v.toNat / 1024 % 64)) ∈ t.outs) ∧
          (s.on Fld.LN_CTRL_TXEN p = true → s.on Fld.LN_STATUS_TXFAULT p = false → (s.lane p).noRef = none → mode ≠ 2 → s.rd Fld.LN_PRBS_CTRL_MODE p ≠ 2 →
            (hasBit (v.zeroExtend 64) 16 → ¬ hasBit (v.zeroExtend 64) 17 → mode = 1 →
              (st = 3 ∨ st = 4 → t.outs = .inject p false :: s.outs) ∧
              (st = 1 ∨ st = 2 ∨ st = 6 → t.outs = s.outs ∧ (t.lane p).inj = { inj with one := inj.one + 1 })) ∧
            (¬ hasBit (v.zeroExtend 64) 16 → hasBit (v.zeroExtend 64) 17 →
              (st = 3 ∨ st = 4 → t.outs = .inject p true :: s.outs) ∧
              (st = 1 ∨ st = 2 ∨ st = 6 → t.outs = s.outs ∧ (t.lane p).inj = { inj with hdr := inj.hdr + 2 }))))) ∧
      (v.toNat / 1024 % 64 < 10 ∨ 40 < v.toNat / 1024 % 64 → Runs (.prbsChkWrite src p v) s (fun t =>
        t.rdReg .LN_PRBS_CTRL p = s.rdReg .LN_PRBS_CTRL p ∧ t.rdReg .LN_STATUS p = s.rdReg .LN_STATUS p)) ∧
      (10 ≤ g ∨ 10 ≤ c ∨ mode = 3 → Runs (.prbsGenWrite src p v) s (fun t => t.rdReg .LN_PRBS_CTRL p = s.rdReg .LN_PRBS_CTRL p ∧
        t.rdReg .LN_STATUS p = s.rdReg .LN_STATUS p)))

/-- Writes of LN_CTRL, sleep by direction and the pattern generators (of R323 to R344). -/
def Obligations.LaneControlAndPatterns : Prop := Spec.LaneControlWrites ∧ Spec.LanePatternsAndSleep

/-! ## Frame MACs, gates and the traffic manager -/

/-- The MAC sees a client port's transmit direction up (R329, R342, R345), its domain awake. -/
abbrev Sys2Proof.Spec.TransmitUp (s : State) (p : Nat) : Prop :=
  p < 144 ∧ s.asleep (portDomain p) = false ∧ s.rd Fld.LN_STATUS_STATE p = 4 ∧ s.on Fld.LN_CTRL_TXEN p = true ∧ s.on Fld.LN_STATUS_TXLPI p = false ∧
  s.on Fld.LN_STATUS_TXTEST p = false ∧ s.rd Fld.LN_CTRL_LOOP p ≠ 2

/-- The Ethernet check sequence of a frame stands in its last four bytes, least significant first (R372). -/
abbrev Sys2Proof.Spec.GoodFcs (b : List Byte) : Prop := little (b.drop (b.length - 4)) = crc32 (b.take (b.length - 4))

/-- The bytes end with the mCRC of the frame so far: more of it follows (log 130, PRESUMED). -/
abbrev Sys2Proof.Spec.EndsWithMcrc (b : List Byte) : Prop :=
  4 ≤ b.length ∧ little (b.drop (b.length - 4)) = crc32 (b.take (b.length - 4)) ^^^ 0xFFFF0000

/-- What a port that is Up and receives does with what its merge sublayer hands up, without near-end loopback (of R25, R29, R353, R372). With the domain awake and nothing
waiting: a good frame from 64 bytes to MAXLEN, in one piece or as the last fragment of one, is counted and waits in the port's receive store for Sieve; one that fails
a check before its forwarding began is counted by the first check that fails and goes no further; a first fragment begins a reassembly; a continuation that none waits for, and a bad SMD, are
counted; a verify frame is answered while PREEN = 1, and a response ends verification. While the domain sleeps a frame waits before the MAC; one for which the store has no room is
discarded and counted. (How fragments are told apart: log 130, PRESUMED.) -/
def Obligations.ClientFramesReceived : Prop :=
  ∀ (s : State) (p : Nat) (b : List Byte) (k c : BitVec 2) (env : RxEnv), p < 144 → s.rd Fld.LN_STATUS_STATE p = 4 → s.on Fld.LN_CTRL_RXEN p = true →
    s.rd Fld.LN_CTRL_LOOP p ≠ 1 →
    let go := fun (f : RxFrame) (P : State → Prop) => Runs (.clientFrameReceive p f env) s P
    let counted := fun (t : State) (r : Reg) => Counts s t ⟨r, 0, 64⟩ 1 p
    let store := fun (x : State) => Tab.get x.sv.rx [] p
    let wait := (s.mac p).inbox
    let room := s.rxBytes p + b.length ≤ 32768
    let here := s.asleep (portDomain p) = false ∧ wait = []
    let now := room ∧ here
    let good := fun (f : List Byte) => GoodFcs f ∧ 64 ≤ f.length ∧ f.length ≤ s.rd Fld.MC_CFG_MAXLEN p ∧ beAt f 12 2 ≠ 0x8808
    let passed := fun (f : List Byte) (t : State) => counted t .MC_RX_FRAMES ∧ Counts s t ⟨.MC_RX_OCTETS, 0, 64⟩ f.length p ∧ t.pre = s.pre ∧ t.tm = s.tm ∧
      ∃ x, store t = store s ++ [x] ∧ x.data = f.take (f.length - 4) ∧ x.len = f.length ∧ x.inport = p ∧ x.rxBad = none ∧ x.poison = false
    (now → good b → s.rd Fld.CX_PORT_CFG_VALIDATE p = 0 → go (.express b) (passed b)) ∧
    (now → (s.mac p).asm = none → good b → ¬ EndsWithMcrc b → s.rd Fld.CX_PORT_CFG_VALIDATE p = 0 → go (.start c b) (passed b)) ∧
    (∀ a : Assembly, now → (s.mac p).asm = some a → a.lost = false → a.count = c.toNat → a.next = k.toNat → good (a.bytes ++ b) →
      ¬ EndsWithMcrc (a.bytes ++ b) → s.rd Fld.CX_PORT_CFG_VALIDATE p = 0 →
      go (.cont c k b) (fun t => passed (a.bytes ++ b) t ∧ counted t .MC_RX_FRAGS ∧ (t.mac p).asm = none)) ∧
    (now → (s.mac p).asm = none → EndsWithMcrc b → go (.start c b) (fun t => t.sv = s.sv ∧
      ∃ a, (t.mac p).asm = some a ∧ a.count = c.toNat ∧ a.next = 0 ∧ a.bytes = b.take (b.length - 4) ∧ a.lost = false)) ∧
    (now → (s.mac p).asm = none → go (.cont c k b) (fun t => counted t .MC_RX_FRAGS ∧ counted t .MC_RX_ASSYERR ∧ t.sv = s.sv ∧
      Only s t [.MC_RX_FRAGS, .MC_RX_ASSYERR])) ∧
    (now → env.begun = false →
      (¬ GoodFcs b → go (.express b) (fun t => counted t .MC_RX_FCSERR ∧ t.sv = s.sv ∧ Only s t [.MC_RX_FCSERR])) ∧
      (GoodFcs b → b.length < 64 → go (.express b) (fun t => counted t .MC_RX_RUNT ∧ t.sv = s.sv ∧ Only s t [.MC_RX_RUNT])) ∧
      (GoodFcs b → 64 ≤ b.length → s.rd Fld.MC_CFG_MAXLEN p < b.length → go (.express b) (fun t => counted t .MC_RX_OVERSIZE ∧ t.sv = s.sv ∧
        Only s t [.MC_RX_OVERSIZE]))) ∧
    (room → s.asleep (portDomain p) = true → go (.express b) (fun t => t.sv = s.sv ∧
      ∃ x : RxStored, x.item = .express b ∧ x.env = env ∧ x.lost = false ∧ (t.mac p).inbox = wait ++ [x])) ∧
    (¬ room → 0 < b.length → here → go (.express b) (fun t => t.sv = s.sv ∧ (t.mac p).inbox = [] ∧ counted t .MC_RX_BOUNDARY ∧ Only s t [.MC_RX_BOUNDARY])) ∧
    (here → go .badSmd (fun t => counted t .MC_RX_SMDERR ∧ Only s t [.MC_RX_SMDERR] ∧ t.sv = s.sv) ∧
      (s.on Fld.MC_PREEMPT_PREEN p = true → go .verify (fun t => t.outs.head? = some (.mergeVerify p true) ∧ Only s t [] ∧ t.sv = s.sv)) ∧
      (s.rd Fld.MC_PREEMPT_STATUS_VSTATUS p = 2 → go .respond (fun t => t.rd Fld.MC_PREEMPT_STATUS_VSTATUS p = 3 ∧
        Only s t [.MC_PREEMPT_STATUS])))

/-- Sending from a port whose transmit direction is up (of R350, R353 to R355, R442, R443, R580). The scheduler moves the head of the only queue that may send to the candidates; with
nothing else waiting, a candidate of a queue in store-and-forward, of a port without protection, one-step stamps and checksum insertion, whose gate is open, goes out padded to 60 bytes and with
its FCS, and is counted; while preemption is active, a preemptable one that an express frame meets after `n` bytes ends at the first legal point with its mCRC (log 130, PRESUMED) and is
held; a held frame's rest goes out when nothing else waits and its gate is open; while it is held no other preemptable frame starts. Verify frames are sent at once and every VTIME, at most
three, and then verification has failed. -/
def Obligations.ClientFramesSent : Prop :=
  ∀ (s : State) (p c : Nat) (x : Packet) (h : HeldFrame) (env : TxEnv), TransmitUp s p → c < 8 →
    let m := s.mac p
    let q := 8 * p + c
    let whole := env.underrun = none ∧ env.dataErr = .clean ∧ env.mismatch = none ∧ env.closed = none
    let clear := env.preempt = none ∧ whole
    let open_ := bit (s.rd Fld.GT_GATES_OPEN p) c = true ∧ (s.gate p).edges = []
    let idle := s.on Fld.MC_PREEMPT_STATUS_ACTIVE p = false
    let plain := x.poison = false ∧ x.rxBad = none ∧ x.cut = false ∧ x.stamp = none ∧ x.handle = 0 ∧ s.on Fld.CX_PORT_CFG_PROTECT p = false ∧
      s.on Fld.MC_TS_CTRL_ONESTEP p = false ∧ s.rdReg .MC_CSUM_CTRL p = 0
    (s.asleep 5 = false → idle → m.candE = [] → m.candP = [] → s.queue q = [x] → (∀ k, k < 8 → k ≠ c → s.queue (8 * p + k) = []) → open_ →
      (s.shaper q).en = false → s.on ⟨.TM_Q_CFG, 25, 1⟩ q = false → 1 ≤ s.rd ⟨.TM_Q_CFG, 4, 12⟩ q → x.len ≤ 10240 → x.samp = none →
      Runs (.schedulerDequeue p) s (fun t => (t.mac p).candE = [(q, x)] ∧ t.queue q = [] ∧ t.tm.decisions = s.tm.decisions + 1 ∧
        (∀ k, k ≠ q → t.queue k = s.queue k) ∧ t.outs = s.outs)) ∧
    (clear → idle → (s.express p).waiting = [] → m.candE = [(q, x)] → m.candP = [] → open_ → plain →
      Runs (.macTxFrame p env) s (fun t =>
        (∃ fcs, t.outs.head? = some (.frame p (x.data ++ List.replicate (60 - x.data.length) 0 ++ fcs) false) ∧ fcs.length = 4 ∧
          GoodFcs (x.data ++ List.replicate (60 - x.data.length) 0 ++ fcs)) ∧
        (t.mac p).candE = [] ∧ (t.mac p).held = m.held ∧ Counts s t ⟨.MC_TX_FRAMES, 0, 64⟩ 1 p ∧
        Counts s t ⟨.MC_TX_OCTETS, 0, 64⟩ (max 60 x.data.length + 4) p ∧ t.tm = s.tm)) ∧
    (∀ n, whole → env.preempt = some n → s.on Fld.MC_PREEMPT_STATUS_ACTIVE p = true → ¬ hasBit (BitVec.ofNat 64 (s.rd Fld.MC_PREEMPT_EXPRESS p)) c →
      m.held = none → (s.express p).waiting = [] → m.candE = [] → m.candP = [(q, x)] → open_ → plain →
      let point := (max n (64 * (1 + s.rd Fld.MC_PREEMPT_ADDFRAG p) - 4) + 7) / 8 * 8
      point + 64 ≤ x.data.length + 4 → Runs (.macTxFrame p env) s (fun t =>
        t.outs.head? = some (.fragment p (x.data.take point ++ bytes (crc32 (x.data.take point) ^^^ 0xFFFF0000) 4)) ∧
        (∃ y, (t.mac p).held = some y ∧ y.sent = point ∧ y.q = q ∧ y.pkt = x) ∧ (t.mac p).candP = [] ∧
        t.on Fld.MC_PREEMPT_STATUS_HELD p = true ∧ Counts s t ⟨.MC_TX_PREEMPTS, 0, 64⟩ 1 p ∧ t.tm = s.tm)) ∧
    (clear → m.held = some h → 0 < h.sent → h.q = q → open_ → (s.express p).waiting = [] → m.candE = [] → m.candP = [] →
      Runs (.macResume p env) s (fun t => .frame p (h.bytes.drop h.sent) h.stomp.isSome ∈ t.outs ∧ (t.mac p).held = none ∧
        t.on Fld.MC_PREEMPT_STATUS_HELD p = false)) ∧
    (m.held = some h → s.on Fld.MC_PREEMPT_STATUS_ACTIVE p = true → (s.express p).waiting = [] → m.candE = [] →
      ¬ hasBit (BitVec.ofNat 64 (s.rd Fld.MC_PREEMPT_EXPRESS p)) c → m.candP = [(q, x)] → exec (.macTxFrame p env) s = .next s) ∧
    (s.lanesOff (portDomain p) = false → s.rd Fld.MC_PREEMPT_STATUS_VSTATUS p = 1 ∨ s.rd Fld.MC_PREEMPT_STATUS_VSTATUS p = 2 →
      s.rd Fld.MC_PREEMPT_STATUS_VSTATUS p = 1 ∨ m.verAt + s.rd Fld.MC_PREEMPT_VTIME p * 1000000 ≤ s.ns64 →
      (m.verSent < 3 → Runs (.preemptVerifyTimer p) s (fun t => t.outs.head? = some (.mergeVerify p false) ∧
        t.rd Fld.MC_PREEMPT_STATUS_VSTATUS p = 2 ∧ (t.mac p).verSent = m.verSent + 1 ∧ (t.mac p).verAt = s.ns64)) ∧
      (3 ≤ m.verSent → Runs (.preemptVerifyTimer p) s (fun t => t.rd Fld.MC_PREEMPT_STATUS_VSTATUS p = 4 ∧ Only s t [.MC_PREEMPT_STATUS])))

/-- Pending edges and REROLE (of R92, R359 to R361, R366): with the port's domain awake the first pending edge is applied once its time has come: the gates take its mask, and a store that runs
dry under a Ready sequencer is counted; before that, and with no edge, nothing happens. REROLE advances the port's generation, and no message that waits at the port's sequencer
keeps an older one; without it nothing changes. -/
def Obligations.GateEdgesAndRerole : Prop :=
  ∀ (s : State) (src : Src) (p : Nat) (v : Word) (t0 : BitVec 32) (m : BitVec 8) (r : List (BitVec 32 × BitVec 8)), p < 145 →
    ((s.gate p).edges = (t0, m) :: r → s.asleep (portDomain p) = false →
      ((t0 - s.ns).toInt ≤ 0 → Runs (.gateEdgeApply p) s (fun t => t.rd Fld.GT_GATES_OPEN p = m.toNat ∧ (t.gate p).edges = r ∧
        (t.gate p).st = (s.gate p).st ∧ (r = [] → (s.gate p).st = .ready → Counts s t Fld.GT_CNT_DRY 1 p) ∧
        (r ≠ [] ∨ (s.gate p).st ≠ .ready → t.rd Fld.GT_CNT_DRY p = s.rd Fld.GT_CNT_DRY p))) ∧
      (0 < (t0 - s.ns).toInt → exec (.gateEdgeApply p) s = .next s)) ∧
    ((s.gate p).edges = [] → exec (.gateEdgeApply p) s = .next s) ∧
    (p < 144 → Accepted s src (portBlock p + 0x1210) v.toNat →
      (hasBit (v.zeroExtend 64) 8 → Runs (.portRerole src p v) s (fun t => t.rd Fld.MC_ROLE_GEN p = (s.rd Fld.MC_ROLE_GEN p + 1) % 256 ∧
        (∀ y ∈ (t.gate p).mbx, y.bounce = none → ∀ w, y.dword = some w → w.toNat / 2 ^ 28 % 256 = t.rd Fld.MC_ROLE_GEN p) ∧
        SameMemory s t ∧ t.sv = s.sv ∧ t.tm = s.tm)) ∧
      (¬ hasBit (v.zeroExtend 64) 8 → Runs (.portRerole src p v) s (fun t => Only s t [])))

/-- Staging and commit (of R451, R454): a write of TM_SHP_SEL or TM_POL_SEL loads the staging words with the committed values; a write of the control word with GO and FILL 1 or 2
commits the staged rate, overhead, mode and burst with the enables it carries, with the balance empty for FILL 1 and full for FILL 2, for a queue below 3,200, a group and a policer; a commit for
an internal, hold-drain or capture queue is refused. -/
def Sys2Proof.Spec.ShaperAndPolicerCommits : Prop :=
  ∀ (s : State) (src : Src) (v : Word),
    let committed := fun (h : Shaper) (x : Stage) (pol : Bool) =>
      h.rate = x.rate.toNat % 2 ^ 24 ∧ h.ovh = x.rate.toNat / 2 ^ 24 % 2 ^ 7 ∧ (h.packet = true ↔ x.rate.toNat / 2 ^ 31 = 1) ∧ h.burst = x.burst.toNat % 2 ^ 28 ∧
      (h.en = true ↔ hasBit (v.zeroExtend 64) 0) ∧ (h.accIdle = true ↔ pol = true ∨ hasBit (v.zeroExtend 64) 1) ∧
      (v.toNat / 4 % 4 = 1 → h.credit = 0) ∧ (v.toNat / 4 % 4 = 2 → h.credit = (h.burst * 65536 : Nat))
    let shp := stageOf s false src
    let pol := stageOf s true src
    let fill := v.toNat / 4 % 4 = 1 ∨ v.toNat / 4 % 4 = 2
    (Accepted s src 0x05110000 v.toNat → v.toNat % 2 ^ 13 < 4608 → Runs (.shaperSelect src v) s (fun t =>
      stageOf t false src = (s.shaper (v.toNat % 2 ^ 13)).stage (v.toNat % 2 ^ 13) ∧ t.tm.shapers = s.tm.shapers ∧ Only s t [])) ∧
    (Accepted s src 0x0511000C v.toNat → hasBit (v.zeroExtend 64) 4 → fill →
      (shp.sel < 3200 → Runs (.shaperCommit src v) s (fun t => committed (t.shaper shp.sel) shp false ∧ (∀ k, k ≠ shp.sel → k < 4096 →
        (s.groupOf shp.sel = none) → t.shaper k = s.shaper k) ∧ t.tm.queues = s.tm.queues ∧ Only s t [])) ∧
      (4096 ≤ shp.sel → Runs (.shaperCommit src v) s (fun t => committed (t.shaper shp.sel) shp false ∧ t.tm.queues = s.tm.queues ∧ Only s t [])) ∧
      (3200 ≤ shp.sel → shp.sel < 4096 → Runs (.shaperCommit src v) s (fun t => t.tm.shapers = s.tm.shapers ∧ Only s t []))) ∧
    (Accepted s src 0x05120000 v.toNat → Runs (.policerSelect src v) s (fun t =>
      stageOf t true src = (s.policer (v.toNat % 2 ^ 10)).stage (v.toNat % 2 ^ 10) ∧ t.tm.policers = s.tm.policers ∧ Only s t [])) ∧
    (Accepted s src 0x0512000C v.toNat → hasBit (v.zeroExtend 64) 4 → fill → Runs (.policerCommit src v) s (fun t =>
      committed (t.policer pol.sel) pol true ∧ (∀ k, k ≠ pol.sel → t.policer k = s.policer k) ∧ t.tm.shapers = s.tm.shapers ∧ Only s t []))

/-- Capture rings and the load forecast (of R460, R461), with D5 and the ring's stack awake: the head packet of a capture queue goes to the next entry of its ring, 2,016 bytes of it at most, and WR moves on; with the ring full or
absent it is discarded and counted. Every 10 µs the forecast is the larger of the decisions and admissions counted, QUEUING compares it with THRESH, and
both counts start again; earlier nothing happens. -/
def Sys2Proof.Spec.CaptureAndForecast : Prop :=
  ∀ (s : State) (k : Nat) (x : Packet) (r : List Packet), k < 240 →
    let n := s.rd ⟨.TM_CR_BASE, 40, 20⟩ k
    let w := s.rd ⟨.TM_CR_WR, 0, 20⟩ k
    let o := s.rd ⟨.TM_CR_BASE, 0, 39⟩ k + 2048 * w
    let most := max s.tm.decisions s.tm.admissions
    let stack := interleavedDomain o
    (s.queue (3856 + k) = x :: r → s.asleep 5 = false → s.asleep stack = false →
      (n ≠ 0 → (w + 1) % n ≠ s.rd ⟨.TM_CR_RD, 0, 20⟩ k → Runs (.captureWrite k) s (fun t => t.queue (3856 + k) = r ∧
        t.rd ⟨.TM_CR_WR, 0, 20⟩ k = (w + 1) % n ∧ t.hbmRead 5 (o + 32) (min x.data.length 2016) = x.data.take 2016 ∧
        t.hbmRead 5 (o + 16) 4 = bytes s.ns.toNat 4 ∧
        (∀ a, a < o ∨ o + 2048 ≤ a → a < 2 ^ 40 → t.hbmRead 5 a 1 = s.hbmRead 5 a 1))) ∧
      (n = 0 ∨ (w + 1) % n = s.rd ⟨.TM_CR_RD, 0, 20⟩ k → Runs (.captureWrite k) s (fun t => t.queue (3856 + k) = r ∧
        Counts s t ⟨.TM_CR_DROP, 0, 32⟩ 1 k ∧ t.rd ⟨.TM_CR_WR, 0, 20⟩ k = w))) ∧
    (s.queue (3856 + k) = [] → exec (.captureWrite k) s = .next s) ∧
    (s.asleep 5 = false → (∀ e, s.tm.forecastAt = some e → e + 10000 ≤ s.ns64) →
      Runs .loadForecast s (fun t => t.tm.decisions = 0 ∧ t.tm.admissions = 0 ∧ t.tm.forecastAt = some s.ns64 ∧
      t.rd ⟨.TM_LOAD_FCST, 0, 16⟩ = min (most / 10) 65535 ∧
      (t.on Fld.TM_LOAD_FCST_QUEUING = true ↔ s.rd ⟨.TM_LOAD_CFG, 0, 16⟩ * 10 < most) ∧ Only s t [.TM_LOAD_FCST] ∧ t.tm.queues = s.tm.queues)) ∧
    (∀ e, s.tm.forecastAt = some e → s.ns64 < e + 10000 → exec .loadForecast s = .next s)

/-- Shapers and policers, capture rings and the load forecast (of R446, R451, R454, R460, R461). -/
def Obligations.ShapersCaptureAndForecast : Prop := Spec.ShaperAndPolicerCommits ∧ Spec.CaptureAndForecast

/-! ## Sieve and Ladle -/

/-- A frame that Sieve parses no further than its EtherType: none of those that R383 names. -/
abbrev Sys2Proof.Spec.PlainFrame (f : List Byte) : Prop :=
  14 ≤ f.length ∧ beAt f 12 2 ∉ [0x8100, 0x88A8, 0x0800, 0x86DD, 0x8847, 0xAEFE, 0x88F7]

/-- A pass of Sieve, with D4 and D5 awake (of R379, R381, R382, R396, R398, R399, R404, R405, R439). While EN = 1 the oldest packet of a receive store leaves it, and one that passed its checks is
counted. A plain first-pass frame with nothing in the tables has flow 0: an action word that is not valid discards it, and one of KIND 0 without cut-through, capture and policing puts it at the tail of
its client egress queue while that is enabled and has room. The back burner's deep-parse input, the only one that holds a packet, is taken and the turn moves on. A fragment that has waited FRAGWAIT µs is counted and
leaves the waiting ones; an entry of FRAGLIFE ms is removed. -/
def Obligations.SieveClassifies : Prop :=
  ∀ (s : State) (port pipe n flow w : Nat) (p : Packet) (r : List Packet) (key : FragKey), port ≤ 145 → pipe < 8 → s.asleep 4 = false → s.asleep 5 = false →
    let a := (Tab.get s.sv.act 0 0).toNat
    let q := a % 2 ^ 12
    let bare := s.sv.em = [] ∧ s.sv.tr = [] ∧ PlainFrame p.data ∧ p.pass2 = false ∧ p.rxBad = none
    let counted := fun (t : State) (r : Reg) => Counts s t ⟨r, 0, 64⟩ 1
    (s.on Fld.SV_CTRL_EN = true → Tab.get s.sv.rx [] port = p :: r →
      Runs (.sievePass port pipe) s (fun t => Tab.get t.sv.rx [] port = r ∧ (p.pass2 = false → p.rxBad = none → counted t .SV_CNT_PASS1) ∧
        t.sv.em = s.sv.em ∧ t.sv.tr = s.sv.tr ∧ t.sv.act = s.sv.act ∧ t.macs = s.macs ∧ t.lanes = s.lanes) ∧
      (bare → a / 2 ^ 60 % 2 = 0 → Runs (.sievePass port pipe) s (fun t => counted t .SV_CNT_DEFAULT ∧ counted t .SV_DROP_ACTION ∧
        t.tm.queues = s.tm.queues)) ∧
      (bare → a / 2 ^ 60 % 2 = 1 → a / 2 ^ 12 % 16 = 0 → a / 2 ^ 16 % 2 ^ 7 + 2 ^ (a / 2 ^ 23 % 8) ≤ 112 → a / 2 ^ 26 % 4 = 0 → a / 2 ^ 36 % 2 = 0 →
        q < 1152 → p.handle ≠ 0 → s.on ⟨.TM_Q_CFG, 0, 1⟩ q = true → s.depth q + p.len ≤ s.rd ⟨.TM_Q_LIMIT, 0, 24⟩ q * 256 →
        Runs (.sievePass port pipe) s (fun t => counted t .SV_CNT_DEFAULT ∧ (∀ k, k ≠ q → t.queue k = s.queue k) ∧
          ∃ y, t.queue q = s.queue q ++ [y] ∧ y.data = p.data ∧ y.len = p.len ∧ y.handle = p.handle ∧ y.flow = 0 ∧ y.queue = q ∧ y.enq = s.ns))) ∧
    (s.on Fld.SV_CTRL_EN = false → exec (.sievePass port pipe) s = .next s) ∧
    (bare → a / 2 ^ 60 % 2 = 0 → (∀ k, k < 16 → k ≠ 2 → s.queue (3328 + k) = []) → s.queue 3330 = p :: r →
      Runs .backburnerProcess s (fun t => t.queue 3330 = r ∧ t.tm.bbTurn = 3 ∧ counted t .SV_DROP_ACTION)) ∧
    (s.on Fld.SV_CTRL_EN = true → Tab.get s.sv.rx [] port = [] → exec (.sievePass port pipe) s = .next s) ∧
    (s.sv.fragWait[n]? = some (key, p, w) →
      (w + s.rd Fld.SV_BB_CTRL_FRAGWAIT * 1000 ≤ s.ns64 → Runs (.fragWaitTimeout n) s (fun t => t.sv.fragWait = s.sv.fragWait.eraseIdx n ∧
        Counts s t Fld.SV_BB_CNT_TIMEOUT 1 ∧ t.sv.frags = s.sv.frags)) ∧
      (s.ns64 < w + s.rd Fld.SV_BB_CTRL_FRAGWAIT * 1000 → exec (.fragWaitTimeout n) s = .next s)) ∧
    (s.sv.fragWait[n]? = none → exec (.fragWaitTimeout n) s = .next s) ∧
    (s.sv.frags[n]? = some (key, flow, w) →
      (w + s.rd Fld.SV_BB_CTRL_FRAGLIFE * 1000000 ≤ s.ns64 →
        exec (.fragEntryExpiry n) s = .next { s with sv := { s.sv with frags := s.sv.frags.eraseIdx n } }) ∧
      (s.ns64 < w + s.rd Fld.SV_BB_CTRL_FRAGLIFE * 1000000 → exec (.fragEntryExpiry n) s = .next s)) ∧
    (s.sv.frags[n]? = none → exec (.fragEntryExpiry n) s = .next s)

/-- The tables of Sieve (of R391, R393, R395, R397, R403, R408). A write of ACTIVE swaps the sets and no rule; a set left inactive is reported once when it is drained. A high
word commits the 64-bit word with the low word staged before it: into an entry that is not valid, a rule of a drained set, an action word,
or the seed while Sieve is off; elsewhere it is refused. A read of the low word of the flow bytes takes both counts, and latches the packets, whose
own read takes them. -/
def Obligations.SieveTables : Prop :=
  ∀ (s : State) (src : Src) (v : Word) (set k : Nat), set < 2 → k < 8 →
    let staged := fun (r : Reg) (i k : Nat) => Tab.get s.lowHalf 0 (r.key i k)
    let whole := fun (r : Reg) (i k : Nat) => (v ++ staged r i k : Quad)
    let active := s.rd Fld.SV_RS_CTRL_ACTIVE
    let drained := set ≠ active ∧ s.pins (decide (set = 1)) = 0
    let e := s.rd Fld.SV_EM_INDEX_INDEX
    let rule := s.rd Fld.SV_TR_INDEX_INDEX set
    let same := fun (t : State) => t.sv = s.sv ∧ Only s t []
    let flow := s.rd Fld.SV_FS_INDEX_FLOW
    (Accepted s src 0x04000004 v.toNat →
      (v.toNat % 2 ≠ active → Runs (.ruleSetSwap src v) s (fun t => t.rd Fld.SV_RS_CTRL_ACTIVE = v.toNat % 2 ∧ t.sv.tr = s.sv.tr ∧
        t.sv.em = s.sv.em ∧ t.sv.act = s.sv.act ∧ Only s t [.SV_RS_CTRL])) ∧
      (v.toNat % 2 = active → Runs (.ruleSetSwap src v) s same)) ∧
    (s.sv.drainDue = true → s.pins (decide (active = 0)) = 0 → Runs .ruleSetDrained s (fun t => t.sv = { s.sv with drainDue := false } ∧ Only s t [])) ∧
    (s.sv.drainDue = false → exec .ruleSetDrained s = .next s) ∧
    (Accepted s src (0x04100008 + 8 * k) v.toNat → Runs (.svEmWordWrite src k false v) s (fun t => t.sv = s.sv ∧
      Tab.get t.lowHalf 0 (Reg.key .SV_EM_WORD 0 k) = v ∧ Only s t [])) ∧
    (Accepted s src (0x0410000C + 8 * k) v.toNat → k < 7 →
      (¬ hasBit (s.emWord e 7) 63 → Runs (.svEmWordWrite src k true v) s (fun t => t.emWord e k = whole .SV_EM_WORD 0 k ∧
        (∀ f j, (f, j) ≠ (e, k) → j < 8 → t.emWord f j = s.emWord f j) ∧ Only s t [])) ∧
      (hasBit (s.emWord e 7) 63 → Runs (.svEmWordWrite src k true v) s same)) ∧
    (Accepted s src (0x0411000C + 0x10000 * set + 8 * k) v.toNat →
      (drained → k < 6 → Runs (.svTrWordWrite src set k true v) s (fun t => t.trWord set rule k = whole .SV_TR_WORD set k ∧ t.sv.em = s.sv.em ∧
        (∀ b, b ≠ set → b < 2 → ∀ f j, f < 8192 → j < 8 → t.trWord b f j = s.trWord b f j) ∧ Only s t [])) ∧
      (¬ drained → Runs (.svTrWordWrite src set k true v) s same)) ∧
    (Accepted s src 0x0400010C v.toNat → Runs (.svActWordWrite src true v) s (fun t =>
      Tab.get t.sv.act 0 (s.rd Fld.SV_ACT_INDEX_FLOW) = whole .SV_ACT_WORD 0 0 &&& 0x7007FFFFFFFFFFFF ∧
      (∀ f, f ≠ s.rd Fld.SV_ACT_INDEX_FLOW → Tab.get t.sv.act 0 f = Tab.get s.sv.act 0 f) ∧ Only s t [])) ∧
    (Accepted s src 0x04000014 v.toNat →
      (s.on Fld.SV_CTRL_EN = false → Runs (.whiskSeedWrite src true v) s (fun t => t.sv = { s.sv with seed := whole .SV_WHISK_SEED 0 0 } ∧ Only s t [])) ∧
      (s.on Fld.SV_CTRL_EN = true → Runs (.whiskSeedWrite src true v) s same)) ∧
    (Readable s src 0x04000118 → Runs (.flowstatHostRead src false false) s (fun t =>
      t.outs = .regRead src (BitVec.ofNat 32 (Tab.get s.sv.fsHost (0, 0) flow).1) :: s.outs ∧ t.sv.fsLatch = (Tab.get s.sv.fsHost (0, 0) flow).2 ∧
      Tab.get t.sv.fsHost (0, 0) flow = (0, 0) ∧ t.sv.fsProg = s.sv.fsProg ∧ Only s t [])) ∧
    (Readable s src 0x04000120 → Runs (.flowstatHostRead src true false) s (fun t =>
      t.outs = .regRead src (BitVec.ofNat 32 s.sv.fsLatch) :: s.outs ∧ t.sv = { s.sv with fsLatch := 0 } ∧
      Tab.get t.latched 0 (Reg.key .SV_FS_PKTS 0 0) = BitVec.ofNat 32 (s.sv.fsLatch / 2 ^ 32) ∧ Only s t []))

/-- Ladle's lists, sizes and limits (of R413, R421, R422, R425, R430, R437). A refill moves the last handle of a list to its prefetch, and none to a full one; a damaged one is quarantined, counted and its list
rebuilt, after which the list is served in rising order. The sizes of partitions and regions are written from the serial port or the host in hold only, in range and in total; a
reserve keeps within its cap and the pool, a cap is never below its reserve. A lookup shows a cell's ledger entry. -/
def Obligations.LadleListsAndLimits : Prop :=
  ∀ (s : State) (src : Src) (p st x k r : Nat) (rest : List Nat) (v : Word), p < 4 → st < 2 → k < 4 → r < 256 →
    let l := s.flist p st
    let u := v.toNat % 512
    let n := v.toNat % 2 ^ 27
    let port := src = .serial ∨ src = .host
    let holding := s.on Fld.KT_BOOT_STATUS_HOLDING = true
    let others := s.rd Fld.LD_PART_RO_UNITS + s.rd Fld.LD_PART_PD_UNITS + s.rd Fld.LD_PART_LS_UNITS
    let low := Tab.get s.lowHalf 0 (Reg.key .LD_LOOK 0 0)
    (l.rebuilding = false →
      (l.front = [x] → l.fresh = s.poolBuffers p → l.returned = [] → l.prefetch.length < 64 → (s.ledger x).alloc = false →
        exec (.ladlePrefetchRefill p st false .clean) s = .next (s.setFlist p st { l with front := [], prefetch := l.prefetch ++ [x] })) ∧
      (64 ≤ l.prefetch.length → exec (.ladlePrefetchRefill p st false .clean) s = .next s) ∧
      (∀ bad err, bad = true ∨ err = .double → l.front = x :: rest → Runs (.ladlePrefetchRefill p st bad err) s (fun t => (t.ledger x).quar = true ∧ (t.flist p st).rebuilding = true ∧
        x ∉ (t.flist p st).front ∧ x ∉ (t.flist p st).prefetch ∧ Counts s t ⟨.LD_LEDGER_ERR, 0, 8⟩ 1 ∧ Only s t [.LD_LEDGER_ERR, .LD_POOL_LOW]))) ∧
    (l.rebuilding = true → (∀ bad err, exec (.ladlePrefetchRefill p st bad err) s = .next s) ∧
      Runs (.ledgerRebuildDone p st) s (fun t => (t.flist p st).rebuilding = false ∧ (t.flist p st).returned = [] ∧
        (t.flist p st).front.Pairwise (· ≤ ·) ∧ (∀ y, y ∈ (t.flist p st).front ↔ y ∈ l.front ∨ y ∈ l.returned) ∧ t.ld.ledger = s.ld.ledger ∧
        t.regs = s.regs)) ∧
    (port → Accepted s src 0x06000100 v.toNat →
      (holding → 64 ≤ u → u ≤ 480 → u % 2 = 0 → u + others ≤ 504 → Runs (.ldPartitionWrite src 0 v) s (fun t =>
        t.rd Fld.LD_PART_PS_UNITS = u ∧ t.ld = s.ld ∧ Only s t [.LD_PART_PS])) ∧
      (¬ holding → Runs (.ldPartitionWrite src 0 v) s (fun t => t.ld = s.ld ∧ Only s t []))) ∧
    (∀ j reg, (j, reg) ∈ [(1, Reg.LD_PART_RO), (2, .LD_PART_PD), (3, .LD_PART_LS)] → port → Accepted s src (0x06000100 + 4 * j) v.toNat → holding →
      u ≤ (if j = 2 then 64 else 16) → (if j = 1 then 0 else if j = 2 then 4 else 1) ≤ u →
      s.rd Fld.LD_PART_PS_UNITS + others - s.rd ⟨reg, 0, 9⟩ + u ≤ 504 →
      Runs (.ldPartitionWrite src j v) s (fun t => t.rd ⟨reg, 0, 9⟩ = u ∧ t.ld = s.ld ∧ Only s t [reg])) ∧
    (port → Accepted s src (0x06000120 + 4 * k) v.toNat → holding → 1 ≤ u → Runs (.ldPartitionWrite src (4 + k) v) s (fun t =>
      t.rd ⟨.LD_POOL_REGION, 0, 9⟩ 0 k = u ∧ t.ld = s.ld ∧ Only s t [.LD_POOL_REGION])) ∧
    (Accepted s src (0x05001000 + 0x40 * r + 4 * p) v.toNat → n ≤ s.rd ⟨.LD_REQ_CAP, 0, 27⟩ r p →
      s.reserved p - s.rd ⟨.LD_REQ_RSV, 0, 27⟩ r p + n ≤ s.poolBuffers p * 2 → Runs (.ldReserveWrite src r p false v) s (fun t =>
        t.rd ⟨.LD_REQ_RSV, 0, 27⟩ r p = n ∧ t.ld = s.ld ∧ Only s t [.LD_REQ_RSV])) ∧
    (Accepted s src (0x05001010 + 0x40 * r + 4 * p) v.toNat →
      (s.rd ⟨.LD_REQ_RSV, 0, 27⟩ r p ≤ n → Runs (.ldReserveWrite src r p true v) s (fun t => t.rd ⟨.LD_REQ_CAP, 0, 27⟩ r p = n ∧ t.ld = s.ld ∧
        Only s t [.LD_REQ_CAP])) ∧
      (n < s.rd ⟨.LD_REQ_RSV, 0, 27⟩ r p → Runs (.ldReserveWrite src r p true v) s (fun t => t.ld = s.ld ∧ Only s t []))) ∧
    (Accepted s src 0x0501000C v.toNat → Runs (.ledgerLookup src true v) s (fun t =>
      let y := s.ledger (low.toNat % 2 ^ 27)
      t.rdReg .LD_LOOK_ENTRY = BitVec.ofNat 64 (y.owner % 256 + y.gen % 256 * 2 ^ 8 + y.pool % 4 * 2 ^ 16 + b2n y.alloc * 2 ^ 18 + b2n y.quar * 2 ^ 19) ∧
      t.on ⟨.LD_LOOK_STAT, 0, 1⟩ = true ∧ t.rd ⟨.LD_LOOK_STAT, 8, 8⟩ = (s.rd ⟨.LD_LOOK_STAT, 8, 8⟩ + 1) % 256 ∧ t.ld = s.ld ∧
      Only s t [.LD_LOOK_ENTRY, .LD_LOOK_STAT]))

/-! ## The cipher engine -/

/-- Lanes and shared-fibre keys (of R467, R475). A write of REVIVE starts a lane's known-answer test, whose end takes it out of quarantine, where no frame waited for a lane
with nothing else changed, or puts it in. A write
of CX_PON_GEN draws a key for index 1 or 2, installs it in its context and reports it; for the index in use it answers BUSY. -/
def Sys2Proof.Spec.CipherLanesAndFibreKeys : Prop :=
  ∀ (s : State) (src : Src) (l : Nat) (pass : Bool) (v : Word), l < 12 →
    let idx := v.toNat % 4
    let slot := fun (t : State) => t.on ⟨.CX_PON_GENSTAT, 0, 1⟩ = true ∧ t.on ⟨.CX_PON_GENSTAT, 1, 1⟩ = false ∧ t.on ⟨.CX_PON_GENSTAT, 2, 1⟩ = false ∧
      t.rd Fld.CX_PON_GENSTAT_SEQ = (s.rd Fld.CX_PON_GENSTAT_SEQ + 1) % 256
    (Accepted s src (0x08010004 + 0x10000 * l) v.toNat →
      (hasBit (v.zeroExtend 64) 0 → l ∉ s.cx.reviving → Runs (.cipherLaneRevive src l v) s (fun t =>
        t.cx = { s.cx with reviving := s.cx.reviving ++ [l] } ∧ Only s t [])) ∧
      (¬ hasBit (v.zeroExtend 64) 0 → Runs (.cipherLaneRevive src l v) s (fun t => t.cx = s.cx ∧ Only s t []))) ∧
    (l ∈ s.cx.reviving → pass = false ∨ ((∀ ch, ch < 4 → (s.chan ch).store = []) ∧ ∀ e ∈ s.macs, e.2.inbox = []) →
      Runs (.cipherReviveDone l pass) s (fun t => t.on Fld.CX_LANE_STAT_QUAR l = !pass ∧ t.on Fld.CX_LANE_STAT_FAILKAT l = !pass ∧
      l ∉ t.cx.reviving ∧ bit (t.rd Fld.CX_CAP_INSERV) l = pass ∧ Only s t [.CX_LANE_STAT, .CX_CAP])) ∧
    (l ∉ s.cx.reviving → exec (.cipherReviveDone l pass) s = .next s) ∧
    (Accepted s src 0x08003004 v.toNat →
      (idx = 1 ∨ idx = 2 → idx ≠ s.rd Fld.CX_PON_KEY_TXIDX → Runs (.ponKeyGenerate src v) s (fun t =>
        (t.cxKey (1015 + idx)).key = bytes (Config.draw s.draws).toNat 8 ++ bytes (Config.draw (s.draws + 1)).toNat 8 ∧
        t.on Fld.CX_SC_CFG_KEYV (1015 + idx) = true ∧ t.on Fld.CX_PON_GENSTAT_BUSY = false ∧ slot t ∧
        (∀ c, c ≠ 1015 + idx → t.cxKey c = s.cxKey c) ∧ Only s t [.CX_SC_CFG, .CX_PON_GENSTAT, .CX_PON_GENOUT])) ∧
      (idx = 1 ∨ idx = 2 → idx = s.rd Fld.CX_PON_KEY_TXIDX → Runs (.ponKeyGenerate src v) s (fun t =>
        t.on Fld.CX_PON_GENSTAT_BUSY = true ∧ slot t ∧ t.cx = s.cx ∧ Only s t [.CX_PON_GENSTAT])) ∧
      (idx = 0 ∨ idx = 3 → Runs (.ponKeyGenerate src v) s (fun t => t.cx = s.cx ∧ Only s t [])))

/-- Contexts, KEKs and unwraps (of R473, R478, R484 to R487). CLEAR of a context that is off removes its key and counts; contexts from 1,016 on take no write; a packet number is
written while the context is off and holds no key, and never 0. A blob is queued while fewer than 16 wait. The oldest unwrap is taken: a 256-bit KEK under the
root key, not from the head end, is installed in its empty slot; a header that is not of the form ends with code 1. KEKs are cleared by slot. -/
def Sys2Proof.Spec.KeysAndUnwraps : Prop :=
  ∀ (s : State) (src : Src) (c n : Nat) (high : Bool) (v : Word) (u : Unwrap) (rest : List Unwrap) (root key : List Byte), c < 1024 → n < 64 →
    let low := Tab.get s.lowHalf 0 (Reg.key .CX_SC_PN c 0)
    let h := ((u.blob[0]?).getD 0).toNat
    let wrapped := ((u.blob.drop 1).take 5).flatMap fun w => bytes w.toNat 8
    let res := fun (t : State) => (t.rdReg .CX_UNW_RES 0 (u.seq % 16)).toNat
    (Accepted s src (0x08100000 + 0x40 * c) v.toNat →
      (c < 1016 → hasBit (v.zeroExtend 64) 8 → s.on Fld.CX_SC_CFG_EN c = false → s.on Fld.CX_SC_CFG_KEYV c = true ∨ v.toNat / 4 % 8 < 4 → Runs (.scClear src c v) s (fun t => t.cxKey c = {} ∧
        t.on Fld.CX_SC_CFG_KEYV c = false ∧ t.on Fld.CX_SC_CFG_EXH c = false ∧ t.rdReg .CX_SC_PKTS c = 0 ∧ t.rdReg .CX_SC_ERR c = 0 ∧
        (∀ d, d ≠ c → t.cxKey d = s.cxKey d) ∧ Only s t [.CX_SC_CFG, .CX_SC_PKTS, .CX_SC_ERR])) ∧
      (c < 1016 → s.on Fld.CX_SC_CFG_KEYV c = false → 4 ≤ v.toNat / 4 % 8 → Runs (.scClear src c v) s (fun t => t.cx = s.cx ∧ Only s t [])) ∧
      (1016 ≤ c → Runs (.scClear src c v) s (fun t => t.cx = s.cx ∧ Only s t []))) ∧
    (Accepted s src (0x08100014 + 0x40 * c) v.toNat →
      (c < 1016 → s.on Fld.CX_SC_CFG_EN c = false → s.on Fld.CX_SC_CFG_KEYV c = false → (v ++ low : Quad) ≠ 0 →
        Runs (.scPnWrite src c true v) s (fun t => t.rdReg .CX_SC_PN c = (v ++ low : Quad) ∧ Only s t [.CX_SC_PN])) ∧
      (1016 ≤ c ∨ s.on Fld.CX_SC_CFG_EN c = true ∨ s.on Fld.CX_SC_CFG_KEYV c = true → Runs (.scPnWrite src c true v) s (fun t =>
        t.cx = s.cx ∧ Only s t []))) ∧
    (Accepted s src (if high = true then 0x0820004C else 0x08200048) v.toNat → Runs (.kekClear src high v) s (fun t =>
      Tab.get t.cx.keks [] n = (if ((32 ≤ n) ↔ high = true) ∧ hasBit (v.zeroExtend 64) (n % 32) then [] else Tab.get s.cx.keks [] n) ∧
      t.cx.keys = s.cx.keys ∧ Only s t [])) ∧
    (Accepted s src 0x08200240 v.toNat → hasBit (v.zeroExtend 64) 0 →
      (s.cx.unwraps.length < 16 → Runs (.blobSubmit src v) s (fun t => t.cx.nextSeq = (s.cx.nextSeq + 1) % 65536 ∧
        (∃ w, t.cx.unwraps = s.cx.unwraps ++ [w] ∧ w.seq = s.cx.nextSeq ∧ w.headEnd = s.headEnd src ∧ w.blob.length = 8) ∧
        t.on ⟨.CX_UNW_RES, 2, 1⟩ 0 (s.cx.nextSeq % 16) = true ∧ Only s t [.CX_UNW_RES])) ∧
      (16 ≤ s.cx.unwraps.length → Runs (.blobSubmit src v) s (fun t => t.cx.unwraps = s.cx.unwraps ∧
        (Tab.get t.cx.blobSeq (0, false) (requesterOf src)).2 = true ∧ Only s t []))) ∧
    (s.cx.unwraps = u :: rest → u.seq < 65536 →
      (h % 256 = 0 ∨ 7 < h % 256 ∨ 2 ^ 29 ≤ h → Runs .unwrapComplete s (fun t => t.cx = { s.cx with unwraps := rest } ∧
        res t = 1 + 1 * 2 ^ 4 + u.seq * 2 ^ 16 ∧ Only s t [.CX_UNW_RES, .CX_UNW_KCV])) ∧
      (h = 1 + n * 2 ^ 16 + 4 * 2 ^ 26 → u.headEnd = false → Tab.get s.cx.keks [] n = [] → s.rootKey = some root →
        Config.unwrap5649 root wrapped = some key → key.length = 32 → Runs .unwrapComplete s (fun t => Tab.get t.cx.keks [] n = key ∧
          t.cx.unwraps = rest ∧ t.cx.keys = s.cx.keys ∧ res t = 1 + u.seq * 2 ^ 16 ∧
          t.rdReg .CX_UNW_KCV 0 (u.seq % 16) = BitVec.ofNat 64 (beNat ((Config.aes key (List.replicate 16 0)).take 3)) ∧
          Only s t [.CX_UNW_RES, .CX_UNW_KCV])))

/-- Cipher lanes, shared-fibre keys, keys and unwraps (of R467 to R487). -/
def Obligations.CipherLanesAndKeys : Prop := Spec.CipherLanesAndFibreKeys ∧ Spec.KeysAndUnwraps

/-! ## Power -/

/-- Known events are as the register of the domain shows them (R505). -/
abbrev Sys2Proof.Spec.NextShown (s : State) (d : Nat) : Prop := s.rdReg .PW_DOM_NEXT d = BitVec.ofNat 64 (nextWord (s.nextEvent d))

/-- Domains (of R493, R494, R503, R504). An entry or an exit ends at its depth, and leaves contexts and memories as they are where the domain kept its state or its save region passed its check, nothing waited at
its stores and the epoch keeper of D1 has nothing to observe; a wake time that has come clears WVALID and sets the target to Full; a domain
that has to leave its depth now to meet its next known event starts its exit; one message carries the picker's gathered causes. -/
def Obligations.DomainMotion : Prop :=
  ∀ (s : State) (d c : Nat) (restored : Bool), 1 ≤ d → d ≤ 12 → Tab.get s.pow.goal 0 d ≤ 4 →
    let depth := fun (x : State) => x.rd Fld.PW_DOM_STATUS_DEPTH d
    let latency : Nat → Int := fun k => if k = 0 then 0 else if k = 1 then 2000 else if k = 2 then 80000 else 4000000
    let target := s.rdReg .PW_PICK_DEST &&& 0x1FFFFFFFFFFF
    let quiet := (∀ ch, ch < 4 → (s.chan ch).store = []) ∧ ∀ e ∈ s.macs, e.2.inbox = []
    (s.on Fld.PW_DOM_STATUS_ENTERING d = true → Runs (.domainEntryComplete d) s (fun t => depth t = Tab.get s.pow.goal 0 d ∧ t.pre = s.pre ∧
      SameMemory s t)) ∧
    (s.on Fld.PW_DOM_STATUS_ENTERING d = false → exec (.domainEntryComplete d) s = .next s) ∧
    (s.on Fld.PW_DOM_STATUS_EXITING d = true → Runs (.domainExitComplete d restored) s (fun t => depth t = Tab.get s.pow.goal 0 d ∧
      bit t.boot.powered d = true ∧ (depth s < 3 ∨ restored = true → quiet → (d = 1 → s.roleRuns 1 = false) → t.pre = s.pre ∧ SameMemory s t))) ∧
    (s.on Fld.PW_DOM_STATUS_EXITING d = false → exec (.domainExitComplete d restored) s = .next s) ∧
    (s.on Fld.PW_DOM_TARGET_WVALID d = true →
      ((BitVec.ofNat 32 (s.rd Fld.PW_DOM_WAKE_NS d) - s.ns).toInt ≤ 0 → Runs (.domainWakeTime d) s (fun t =>
        t.on Fld.PW_DOM_TARGET_WVALID d = false ∧ t.rd Fld.PW_DOM_TARGET_DEPTH d = 0 ∧ Only s t [.PW_DOM_TARGET])) ∧
      (0 < (BitVec.ofNat 32 (s.rd Fld.PW_DOM_WAKE_NS d) - s.ns).toInt → exec (.domainWakeTime d) s = .next s)) ∧
    (NextShown s d → s.on Fld.PW_DOM_NEXT_VALID d = true → bit s.boot.powered d = true → 1 ≤ depth s → depth s ≤ 3 →
      s.on Fld.PW_DOM_STATUS_ENTERING d = false → s.on Fld.PW_DOM_STATUS_EXITING d = false → s.pow.timekeep = false →
      ((BitVec.ofNat 32 (s.rd Fld.PW_DOM_NEXT_NS d) - s.ns).toInt ≤ latency (depth s) → Runs (.domainDeadlineWake d) s (fun t =>
        t.on Fld.PW_DOM_STATUS_EXITING d = true ∧ Tab.get t.pow.goal 0 d = 0 ∧ Only s t [])) ∧
      (latency (depth s) < (BitVec.ofNat 32 (s.rd Fld.PW_DOM_NEXT_NS d) - s.ns).toInt → exec (.domainDeadlineWake d) s = .next s)) ∧
    (s.pow.pickCause = 0 → exec .pickerMessage s = .next { s with pow := { s.pow with pickCause := 0 } }) ∧
    (s.pow.pickCause ≠ 0 → s.on Fld.PW_PICK_DEST_EN = true → (∀ x ∈ s.pre.held, x.1 ≠ 1) → destination target = some (.ctx c) → (s.ctx c).loader ≠ 0 →
      target.toNat / 2 ^ 10 % 256 = (s.ctx c).gen.toNat → ¬ hasBit target 36 → (s.ctx c).mbx.length ≤ 13 →
      ∃ m, Runs .pickerMessage s (fun t => (t.ctx c).mbx = (s.ctx c).mbx ++ [m] ∧ m.sender = .block 0x301 ∧
        m.body = [BitVec.ofNat 64 s.pow.pickCause] ∧ t.pow.pickCause = 0 ∧ t.regs = s.regs ∧ (∀ e, e ≠ c → t.ctx e = s.ctx e)))

/-- Votes and save memory (of R496, R513): each port writes its own vote register, whose slots hold the domains it names at Full; save memory is read and written through its
window: the integrator area by any port, the history area by the history role alone, a domain's region by nobody, which reads as 0. -/
def Obligations.VotesAndSaveMemory : Prop :=
  ∀ (s : State) (src : Src) (v : Word) (d : Nat), 1 ≤ d → d ≤ 12 →
    let a := s.rd ⟨.KT_SAVE_ADDR, 0, 19⟩ / 4 * 4
    let moved := fun (t : State) => t.rd ⟨.KT_SAVE_ADDR, 0, 19⟩ =
      if hasBit (s.rdReg .KT_SAVE_ADDR) 31 then (s.rd ⟨.KT_SAVE_ADDR, 0, 19⟩ + 4) % 2 ^ 19 else s.rd ⟨.KT_SAVE_ADDR, 0, 19⟩
    (Accepted s src 0x00030018 v.toNat → Runs (.voteHostWrite src v) s (fun t => t.rd Fld.PW_VOTE_HOST_DOM = v.toNat / 2 % 2 ^ 12 ∧
      (hasBit (v.zeroExtend 64) d → t.slots d ≠ 0) ∧ Only s t [.PW_VOTE_HOST])) ∧
    (Accepted s src 0x0003001C v.toNat → Runs (.voteSerialWrite src v) s (fun t => t.rd Fld.PW_VOTE_SER_DOM = v.toNat / 2 % 2 ^ 12 ∧
      (hasBit (v.zeroExtend 64) d → t.slots d ≠ 0) ∧ Only s t [.PW_VOTE_SER])) ∧
    (Readable s src 0x00000044 → Runs (.saveDataAccess src none) s (fun t => t.save = s.save ∧ moved t ∧
      ∃ w, t.outs = .regRead src w :: s.outs ∧ (a < 0x60000 → w = 0) ∧ (0x60000 ≤ a → w.toNat = little (Tab.read s.save 0 a 4)))) ∧
    (Accepted s src 0x00000044 v.toNat →
      (0x60000 ≤ a → a < 0x70000 → Runs (.saveDataAccess src (some v)) s (fun t => Tab.read t.save 0 a 4 = bytes v.toNat 4 ∧ moved t ∧
        ∀ k, k < a ∨ a + 4 ≤ k → Tab.get t.save 0 k = Tab.get s.save 0 k)) ∧
      (a < 0x60000 → Runs (.saveDataAccess src (some v)) s (fun t => t.save = s.save ∧ moved t)) ∧
      (0x70000 ≤ a → ∀ c, src = .ctx c → (s.ctx c).loader = 3 → Runs (.saveDataAccess src (some v)) s (fun t =>
        Tab.read t.save 0 a 4 = bytes v.toNat 4 ∧ moved t)) ∧
      (0x70000 ≤ a → (∀ c, src ≠ .ctx c) → Runs (.saveDataAccess src (some v)) s (fun t => t.save = s.save ∧ moved t)))

/-- The input and Timekeep (of R516, R517, R518, R520, R526), where the terminal has booted and no trip stands. A condition that SRC looks at puts the terminal on battery and its absence takes it off; VIN is as measured. The
request by the host or the serial port, DELAY minutes on battery and a low input each enter Timekeep with their cause, which discards every queued
packet and switches D2 to D12 off; a request by the serial port or a restored input leaves it; at the end of the exit every domain is back at Full. -/
def Sys2Proof.Spec.BatteryAndTimekeep : Prop :=
  ∀ (s : State) (src : Src) (v : Word) (vin : BitVec 16) (contact : Bool) (d : Nat), 2 ≤ d → d ≤ 12 →
    let low := vin.toNat < s.rd Fld.PW_BATT_THR_MAINSV
    let held := match s.rd Fld.PW_BATT_CTRL_SRC with | 0 => contact = true | 1 => low | _ => contact = true ∨ low
    let onBatt := fun (x : State) => x.on Fld.PW_STATUS_ONBATT
    let shown := fun (t : State) => t.rd Fld.PW_BATT_STATUS_VIN = vin.toNat ∧ t.on Fld.PW_BATT_STATUS_CONTACT = contact
    let ready := s.pow.timekeep = false ∧ s.rd Fld.KT_BOOT_STATUS_STAGE = 8 ∧ s.on Fld.PW_THERM_TRIPPED = false
    let entered := fun (k : Nat) (t : State) => t.pow.timekeep = true ∧ t.rd Fld.PW_STATUS_TKCAUSE = k ∧ t.tm.queues = [] ∧ t.boot.powered = 3 ∧
      t.rd Fld.PW_DOM_STATUS_DEPTH d = 4 ∧ t.save = s.save ∧ t.rd Fld.PW_STATUS_STATE = 4
    let leaving := fun (t : State) => t.pow.tkExiting = true ∧ (s.rd Fld.PW_DOM_STATUS_DEPTH d ≠ 0 → t.on Fld.PW_DOM_STATUS_EXITING d = true)
    let confirm := v.toNat / 2 ^ 8 % 256 = 0x5A ∧ v.toNat % 8 ≤ 3
    (onBatt s = false → held → Runs (.batteryEnter vin contact) s (fun t => onBatt t = true ∧ t.on Fld.PW_BATT_STATUS_ONBATT = true ∧ shown t ∧
      Only s t [.PW_STATUS, .PW_BATT_STATUS])) ∧
    (¬ held → Runs (.batteryEnter vin contact) s (fun t => onBatt t = onBatt s ∧ shown t ∧ Only s t [.PW_BATT_STATUS])) ∧
    (onBatt s = true → ¬ held → s.pow.timekeep = false → Runs (.batteryLeave vin contact) s (fun t => onBatt t = false ∧
      t.on Fld.PW_BATT_STATUS_ONBATT = false ∧ shown t ∧ Only s t [.PW_STATUS, .PW_BATT_STATUS])) ∧
    (s.pow.timekeep = false → Runs (.inputVoltageRise vin) s (fun t => t.rd Fld.PW_BATT_STATUS_VIN = vin.toNat ∧ Only s t [.PW_BATT_STATUS])) ∧
    (s.pow.timekeep = true → s.pow.tkExiting = false → s.pow.leftBatt = true → s.rd Fld.PW_BATT_THR_LOWV + 20 < vin.toNat →
      Runs (.inputVoltageRise vin) s leaving) ∧
    (ready →
      (onBatt s = true → s.on Fld.PW_BATT_CTRL_ACT = true → s.pow.battAt + s.rd Fld.PW_BATT_CTRL_DELAY * 60000000000 ≤ s.ns64 →
        Runs .batteryDelayExpiry s (entered 3)) ∧
      (onBatt s = true → vin.toNat < s.rd Fld.PW_BATT_THR_LOWV → Runs (.inputUndervoltage vin) s (entered 4)) ∧
      (src = .serial ∨ src = .host → Accepted s src 0x00030004 v.toNat → confirm → hasBit (v.zeroExtend 64) 4 → ¬ hasBit (v.zeroExtend 64) 5 →
        Runs (.timekeepRequest src v) s (entered (if src = .serial then 2 else 1)))) ∧
    (src ≠ .serial → src ≠ .host → Accepted s src 0x00030004 v.toNat → v.toNat % 8 ≤ 3 → Runs (.timekeepRequest src v) s (fun t =>
      t.pow.timekeep = s.pow.timekeep ∧ t.rd Fld.PW_CTRL_MAXDEPTH = v.toNat % 8 ∧ Only s t [.PW_CTRL])) ∧
    (onBatt s = false ∨ s.on Fld.PW_BATT_CTRL_ACT = false ∨ s.ns64 < s.pow.battAt + s.rd Fld.PW_BATT_CTRL_DELAY * 60000000000 → exec .batteryDelayExpiry s = .next s) ∧
    (s.pow.timekeep = true → onBatt s = true → vin.toNat < s.rd Fld.PW_BATT_THR_LOWV → Runs (.inputUndervoltage vin) s (fun t =>
      t.rd Fld.PW_STATUS_TKCAUSE = 4 ∧ t.pow = s.pow ∧ Only s t [.PW_STATUS, .PW_BATT_STATUS])) ∧
    (s.pow.timekeep = true → s.pow.tkExiting = false → s.rd Fld.PW_STATUS_TKCAUSE ≠ 4 → src = .serial → Accepted s src 0x00030004 v.toNat → confirm →
      ¬ hasBit (v.zeroExtend 64) 4 → hasBit (v.zeroExtend 64) 5 → Runs (.timekeepExitRequest src v) s leaving) ∧
    (s.pow.timekeep = true → s.pow.tkExiting = true → s.on Fld.PW_DOM_STATUS_EXITING d = true → Runs .timekeepExitComplete s (fun t =>
      t.pow.timekeep = false ∧ t.pow.tkExiting = false ∧ bit t.boot.powered d = true ∧ t.rd Fld.PW_DOM_STATUS_DEPTH d = 0 ∧ t.save = s.save)) ∧
    (s.pow.timekeep = false → exec .timekeepExitComplete s = .next s)

/-- The supply governor, after boot, with D5 awake, no boost held over and no reset waiting (of R522, R523): no more often than every 10 µs the rail moves towards the floor, and the boost while queuing is forecast, within 0.62 V and 0.86 V and by at most 0.1 V; a
floor above 0.86 V sets LIMIT. -/
def Sys2Proof.Spec.GovernorMovesTheRail : Prop :=
  ∀ (s : State) (floor failDom : Nat) (tj : BitVec 16), s.rd Fld.KT_BOOT_STATUS_STAGE = 8 → s.boot.pendingReset = none → s.asleep 5 = false →
    s.pow.boostUntil ≤ s.ns64 → (∀ e, s.pow.governedAt = some e → e + 10000 ≤ s.ns64) →
    let boost := s.on Fld.TM_LOAD_FCST_QUEUING
    let want := max 620 (min 860 (floor + if boost = true then s.rd Fld.PW_GOV_CFG_BOOST else 0))
    let v := s.rd Fld.PW_GOV_STATUS_VCORE
    Runs (.governorUpdate floor tj failDom) s (fun t => t.rd Fld.PW_GOV_TJ_TJ = tj.toNat ∧ t.rd Fld.PW_GOV_STATUS_FLOORV = min floor 1023 ∧
      (want < v → t.rd Fld.PW_GOV_STATUS_VCORE = max want (v - 100)) ∧ (v ≤ want → t.rd Fld.PW_GOV_STATUS_VCORE = min want (v + 100)) ∧
      (t.on Fld.PW_GOV_STATUS_LIMIT = true ↔ 860 < floor) ∧
      (boost = true → t.on Fld.PW_GOV_STATUS_BOOST = true) ∧ (boost = false → t.on Fld.PW_GOV_STATUS_BOOST = false) ∧
      t.pow.governedAt = some s.ns64 ∧ Only s t [.PW_GOV_TJ, .PW_GOV_STATUS, .PW_THERM])

/-- ATTN_N (of R566) is asserted while the input is valid and the latch holds a record, boot has failed, or a trip stands; it follows the state, so that it
is released as soon as none of them holds, and at reset nothing asserts it. -/
def Sys2Proof.Spec.AttentionFollowsState : Prop :=
  State.reset.attn = false ∧
  ∀ s : State, s.attn = true ↔ s.boot.inputValid = true ∧ (0 < s.cp.latch.length ∨ s.on Fld.KT_BOOT_STATUS_FAIL = true ∨ s.on Fld.PW_THERM_TRIPPED = true)

/-- The input, Timekeep, the supply governor and the attention output (of R516 to R523, R566). -/
def Obligations.BatteryTimekeepAndGovernor : Prop := Spec.BatteryAndTimekeep ∧ Spec.GovernorMovesTheRail ∧ Spec.AttentionFollowsState

/-! ## The command ports and the registers -/

/-- The serial port takes commands, its D0 supplied and boot past stage 1 (R539, R574). -/
abbrev Sys2Proof.Spec.SerialOn (s : State) : Prop := s.boot.inputValid = true ∧ 2 ≤ s.rd Fld.KT_BOOT_STATUS_STAGE

/-- The CRC-8 that ends a write phase: over the address byte, the command and what follows (R541). -/
def Sys2Proof.Spec.phaseCrc (s : State) (body : List Byte) : Nat := crc8 (BitVec.ofNat 8 (2 * s.rd Fld.MG_SER_STATUS_ADDR) :: body)

/-- The four bytes of a word on the serial port, most significant first. -/
def Sys2Proof.Spec.wordBytes (w : Word) : List Byte := (bytes w.toNat 4).reverse

/-- A port's words written one after the other from an offset on, `step` bytes apart: each as a register write of its own (R536, R540). -/
def Sys2Proof.Spec.eachWrite (src : Src) (step : Nat) : Nat → List Word → State → State
  | _, [], s => s
  | a, w :: r, s => eachWrite src step (a + step) r (s.access src a (some w.toNat)).1

/-- The host link while D12 has its power (of R536 to R538). A whole DW of BAR0 is a register access; one with some byte enables off changes no register, reads all-ones and is counted. A
BAR2 access reaches the partition of the window; beyond its end it changes no memory, reads all-ones and is counted (as the memory of the Preoth data partition stands). -/
def Obligations.HostLinkRequests : Prop :=
  ∀ (s : State) (addr w : Word) (be : BitVec 4) (off : BitVec 32) (n : Nat) (l : List Byte), bit s.boot.powered 12 = true → 1 ≤ l.length →
    let a : Word := addr &&& 0xFFFFFFFC
    let o := s.rd ⟨.MG_BAR2_WIN, 8, 5⟩ * 2 ^ 30 + off.toNat
    let end_ := s.partBytes 3
    let data := s.rd ⟨.MG_BAR2_WIN, 0, 3⟩ = 3
    exec (.bar0Request addr [0xF] (some [w])) s = exec (.registerWrite .host a w) (s.wakeFor 12) ∧
    (∀ t, exec (.clearOnReadRead .host a) (s.wakeFor 12) = .next t → ∃ r, t.outs.head? = some (.regRead .host r) ∧
      exec (.bar0Request addr [0xF] none) s = .next { t with outs := .hostRead [r] :: t.outs.tail }) ∧
    (∀ ws, exec (.bar0Request addr (ws.map (fun _ => 0xF)) (some ws)) s = .next (eachWrite .host 4 a.toNat ws (s.wakeFor 12))) ∧
    (be ≠ 0 → be ≠ 0xF → Runs (.bar0Request addr [be] (some [w])) s (fun t => Counts s t ⟨.MG_HOST_CNT, 0, 16⟩ 1 ∧ Only s t [.MG_HOST_CNT]) ∧
      Runs (.bar0Request addr [be] none) s (fun t => Counts s t ⟨.MG_HOST_CNT, 0, 16⟩ 1 ∧ t.outs.head? = some (.hostRead [0xFFFFFFFF]))) ∧
    (data → o + l.length ≤ end_ → end_ ≤ 2 ^ 40 → Runs (.bar2Request off 0 (some l)) s (fun t => t.hbmRead 3 o l.length = l ∧
      (∀ p k, (p ≠ 3 ∨ k < o ∨ o + l.length ≤ k) → p < 6 → k < 2 ^ 40 → t.hbmRead p k 1 = s.hbmRead p k 1) ∧ t.pre = s.pre)) ∧
    (data → 1 ≤ n → o + n ≤ end_ → Runs (.bar2Request off n none) s (fun t => t.outs = .hostBytes (s.hbmRead 3 o n) :: s.outs ∧ t.hbm = s.hbm)) ∧
    (data → end_ < o + l.length → Runs (.bar2Request off 0 (some l)) s (fun t => t.hbm = s.hbm ∧ Counts s t ⟨.MG_HOST_CNT, 16, 16⟩ 1)) ∧
    (data → 1 ≤ n → end_ < o + n → Runs (.bar2Request off n none) s (fun t => t.hbm = s.hbm ∧ Counts s t ⟨.MG_HOST_CNT, 16, 16⟩ 1 ∧
      t.outs.head? = some (.hostBytes (List.replicate n 0xFF))))

/-- The management serial port, with its input valid and from boot stage 2 on (of R539 to R542). A WRITE whose CRC is right is a register write for each of its words; a READ sends STATUS, its words and a CRC,
and bits 0 to 4 of STATUS clear. A wrong CRC, an unknown command and an abandoned write phase change no register but their counts and gather in STATUS. -/
def Obligations.SerialCommands : Prop :=
  ∀ (s : State) (addr w : Word) (crc cmd : Byte) (n : BitVec 8), SerialOn s → addr.toNat % 4 = 0 → addr.toNat < 2 ^ 28 →
    let ask := fun (c : Byte) (k : BitVec 8) (rest : List Byte) => phaseCrc s (c :: wordBytes addr ++ [k] ++ rest)
    let noted := fun (k : Nat) (t : State) => bit t.cp.serStatus k = true
    let refusedCrc := fun (t : State) => Counts s t ⟨.MG_SER_CNT, 0, 16⟩ 1 ∧ noted 2 t ∧ Only s t [.MG_SER_CNT]
    let sends := fun (k : Nat) (t : State) => ∃ b, t.outs.head? = some (.serial b) ∧ b.length = 2 + 4 * k ∧ t.cp.serStatus = 0
    (crc.toNat = ask 0x02 1 (wordBytes w) → exec (.serialWrite addr [w] 1 crc) s = exec (.registerWrite .serial addr w) s) ∧
    (crc.toNat = ask 0x82 1 (wordBytes w) → exec (.serialWriteFixed addr [w] 1 crc) s = exec (.registerWrite .serial addr w) s) ∧
    (∀ ws, ws.length = n.toNat → 1 ≤ n.toNat → n.toNat ≤ 64 →
      (crc.toNat = ask 0x02 n (ws.flatMap wordBytes) → exec (.serialWrite addr ws n crc) s = .next (eachWrite .serial 4 addr.toNat ws s)) ∧
      (crc.toNat = ask 0x82 n (ws.flatMap wordBytes) → exec (.serialWriteFixed addr ws n crc) s = .next (eachWrite .serial 0 addr.toNat ws s))) ∧
    (crc.toNat ≠ ask 0x02 1 (wordBytes w) → Runs (.serialWrite addr [w] 1 crc) s refusedCrc) ∧
    (crc.toNat ≠ ask 0x82 1 (wordBytes w) → Runs (.serialWriteFixed addr [w] 1 crc) s refusedCrc) ∧
    (1 ≤ n.toNat → n.toNat ≤ 16 →
      (crc.toNat = ask 0x01 n [] → Runs (.serialRead addr n crc) s (sends n.toNat)) ∧
      (crc.toNat = ask 0x81 n [] → Runs (.serialReadFixed addr n crc) s (sends n.toNat)) ∧
      (crc.toNat ≠ ask 0x01 n [] → Runs (.serialRead addr n crc) s refusedCrc)) ∧
    (crc.toNat = phaseCrc s [0x03] → Runs (.serialStatus 0x03 crc) s (fun t => t.regs = s.regs ∧ ∃ c, t.outs = .serial [BitVec.ofNat 8
      (s.cp.serStatus % 32 + b2n s.pow.timekeep * 32 + b2n (!s.cp.latch.isEmpty) * 64 + b2n (s.on Fld.KT_BOOT_STATUS_HOLDING) * 128), c] :: s.outs ∧
      t.cp.serStatus = 0)) ∧
    (cmd ∉ [0x01, 0x81, 0x02, 0x82, 0x03] → Runs (.serialStatus cmd crc) s (fun t => Counts s t ⟨.MG_SER_CNT, 16, 16⟩ 1 ∧ noted 4 t ∧
      Only s t [.MG_SER_CNT])) ∧
    Runs .serialWritePhaseAbandoned s (fun t => Counts s t ⟨.MG_SER_CNT, 16, 16⟩ 1 ∧ noted 4 t ∧ Only s t [.MG_SER_CNT])

/-- The proxy window, delegation and the event path (of R532, R534, R548 to R552). GO, away from the window's own block, makes the access with head-end authority and answers its code in the result
slot; enabling the ring starts it at entry 0 with phase 1; a window that closes after 1 s, or a minute for R287's and R288's, writes what it gathered as one record; the latch passes its
oldest record to the ring; a vector's message is sent at its interval, or waits in the pending bits while masked. -/
def Obligations.ProxyAndEventPath : Prop :=
  ∀ (s : State) (src : Src) (v : Word) (vec ev obj : Nat) (rate : Bool) (r : EvRecord) (rest : List EvRecord), vec < 1024 → ev < 1024 →
    let a := s.rd Fld.MG_PROXY_ADDR_VALUE
    let slot := fun (code : Nat) (t : State) => t.on ⟨.MG_PROXY_STAT, 0, 1⟩ = true ∧ t.on ⟨.MG_PROXY_STAT, 1, 1⟩ = false ∧
      t.on ⟨.MG_PROXY_STAT, 2, 1⟩ = false ∧ t.rd Fld.MG_PROXY_STAT_CODE = code
    let size := 2 ^ s.rd Fld.MG_RING_CTRL_SIZE
    let wr := s.rd Fld.MG_RING_WR_INDEX
    let key := windowKey rate ev (if rate = true then 0 else obj)
    let w := Tab.get s.cp.windows {} key
    let long := if rate = false ∧ (ev = 71 ∨ ev = 73) then 60000000000 else 1000000000
    let pba := fun (x : State) => bit (x.rdReg .MG_MSIX_PBA 0 (vec / 64)).toNat (vec % 64)
    (Accepted s src 0x0C030108 v.toNat → hasBit (v.zeroExtend 64) 1 → a % 4 = 0 → a / 2 ^ 16 ≠ 0xC03 →
      (¬ hasBit (v.zeroExtend 64) 0 → Readable (s.portVote src) .proxy a → Runs (.proxyRead src v) s (fun t => slot 0 t ∧
        (a = 0x09100110 → t.rd Fld.MG_PROXY_DATA_VALUE = s.rd ⟨.TC_SLEEP_PARAM, 0, 32⟩))) ∧
      (hasBit (v.zeroExtend 64) 0 → a = 0x09100110 → Accepted (s.portVote src) .proxy a (s.rd Fld.MG_PROXY_DATA_VALUE) →
        Runs (.proxyWrite src v) s (fun t => slot 0 t ∧ t.rd ⟨.TC_SLEEP_PARAM, 0, 32⟩ = s.rd Fld.MG_PROXY_DATA_VALUE)) ∧
      (mapped a = false → Runs (.proxyRead src v) s (slot 3) ∧ Runs (.proxyWrite src v) s (slot 3))) ∧
    (Accepted s src 0x0C030000 v.toNat → Runs (.delegationWrite src v) s (fun t => (t.on Fld.MG_DELEG_LANES = true ↔ hasBit (v.zeroExtend 64) 0) ∧
      (t.on Fld.MG_DELEG_TRAFFIC = true ↔ hasBit (v.zeroExtend 64) 1) ∧ (t.on Fld.MG_DELEG_SIEVE = true ↔ hasBit (v.zeroExtend 64) 2) ∧
      Only s t [.MG_DELEG])) ∧
    (Accepted s src 0x0C020008 v.toNat → hasBit (v.zeroExtend 64) 0 → 6 ≤ v.toNat / 2 ^ 8 % 16 → s.on Fld.MG_RING_CTRL_EN = false →
      Runs (.ringEnableWrite src v) s (fun t => t.on Fld.MG_RING_CTRL_EN = true ∧ t.rd Fld.MG_RING_CTRL_SIZE = v.toNat / 2 ^ 8 % 16 ∧
        t.rd Fld.MG_RING_WR_INDEX = 0 ∧ t.rd Fld.MG_RING_RD_INDEX = 0 ∧ t.cp.ringPhase = true ∧ t.cp.latch = s.cp.latch)) ∧
    (w.isOpen = true → w.openAt + long ≤ s.ns64 → Runs (.eventWindowClose ev obj rate) s (fun t => Only s t [] ∧
      (w.acc = 0 ∨ w.first = none → Tab.get t.cp.windows {} key = {} ∧ t.cp.latch = s.cp.latch) ∧
      (w.acc ≠ 0 → w.first = some r → s.on Fld.MG_EVT_CFG_EN 0 ev = true → r.ev = ev → Tab.get t.cp.windows {} key = { isOpen := true, openAt := s.ns64, wrote := 1 } ∧
        (rate = true → s.asleep 12 = true → s.cp.latch.length < 64 →
          t.cp.latch = s.cp.latch ++ [{ r with count := min w.acc 255, latched := true }])))) ∧
    (w.isOpen = false ∨ s.ns64 < w.openAt + long → exec (.eventWindowClose ev obj rate) s = .next s) ∧
    (s.asleep 12 = false → s.on Fld.MG_RING_CTRL_EN = true → (wr + 1) % size ≠ s.rd Fld.MG_RING_RD_INDEX → s.cp.latch = r :: rest →
      s.cp.latchLost = 0 → s.cp.ringLost = 0 → Runs .latchDrain s (fun t => t.cp.latch = rest ∧ t.rd Fld.MG_RING_WR_INDEX = (wr + 1) % size ∧
        Tab.get t.cp.hostMem 0 ((s.rdReg .MG_RING_BASE).toNat + 16 * wr) = recordBits r s.cp.ringPhase ∧ Only s t [])) ∧
    (Accepted s src 0x00040004 v.toNat → hasBit (v.zeroExtend 64) 1 → s.on Fld.MG_RING_CTRL_EN = false →
      Runs (.latchPop src v) s (fun t => t.cp.latch = s.cp.latch.drop 1 ∧ Only s t [])) ∧
    (s.asleep 12 = false → Tab.get s.cp.vecPend 0 vec ≠ 0 → s.rd Fld.MG_VEC_MOD_ITVL 0 vec ≠ 0 →
      Tab.get s.cp.vecAt 0 vec + 1000 * s.rd Fld.MG_VEC_MOD_ITVL 0 vec ≤ s.ns64 →
      (s.on Fld.MG_MSIX_CTRL_MASK 0 vec = false → Runs (.msixIntervalExpiry vec) s (fun t => t.outs = .msix vec :: s.outs ∧
        Tab.get t.cp.vecPend 0 vec = 0 ∧ t.regs = s.regs)) ∧
      (s.on Fld.MG_MSIX_CTRL_MASK 0 vec = true → Runs (.msixIntervalExpiry vec) s (fun t => t.outs = s.outs ∧
        Tab.get t.cp.vecPend 0 vec = 0 ∧ pba t = true ∧ Only s t []))) ∧
    (Accepted s src (0x0C01000C + 16 * vec) v.toNat → ¬ hasBit (v.zeroExtend 64) 0 → Runs (.msixUnmask src vec v) s (fun t =>
      t.on Fld.MG_MSIX_CTRL_MASK 0 vec = false ∧ pba t = false ∧ (t.outs = if pba s = true then .msix vec :: s.outs else s.outs) ∧
      Only s t [.MG_MSIX_CTRL]))

/-- What a read changes, on one register of each kind, and a write (of R9, R10, R543). A 32-bit register of access RC reads its value and becomes zero; a read of the low word of a 64-bit counter latches
its high word, which the next read takes, and clears the counter; the first read of a complete result slot finds it new, and marks it stale. A write of
SV_EM_INDEX sets its field, and a write of LN_STATUS changes nothing. -/
def Sys2Proof.Spec.RegisterReadsAndWrites : Prop :=
  ∀ (s : State) (src : Src) (p : Nat) (v : Word), p < 144 →
    let old := (s.rdReg .LN_BOL_CNT p).toNat
    let frames := (s.rdReg .MC_RX_FRAMES p).toNat
    let slot := (s.rdReg .LD_LOOK_STAT).toNat
    let reads := fun (w : Nat) (t : State) => t.outs = .regRead src (BitVec.ofNat 32 w) :: s.outs
    (Readable s src (Reg.addr .LN_BOL_CNT p 0) → Runs (.clearOnReadRead src (BitVec.ofNat 32 (Reg.addr .LN_BOL_CNT p 0))) s (fun t =>
      reads (old % 2 ^ 32) t ∧ t.rdReg .LN_BOL_CNT p = s.rdReg .LN_BOL_CNT p &&& 0xFFFFFFFF00000000 ∧ Only s t [.LN_BOL_CNT])) ∧
    (Readable s src (Reg.addr .MC_RX_FRAMES p 0) → Runs (.counterLowWordRead src (BitVec.ofNat 32 (Reg.addr .MC_RX_FRAMES p 0))) s (fun t =>
      reads (frames % 2 ^ 32) t ∧ t.rdReg .MC_RX_FRAMES p = 0 ∧ Tab.get t.latched 0 (Reg.key .MC_RX_FRAMES p 0) = BitVec.ofNat 32 (frames / 2 ^ 32) ∧
      Only s t [.MC_RX_FRAMES])) ∧
    (Readable s src (Reg.addr .MC_RX_FRAMES p 0 + 4) → Runs (.counterLowWordRead src (BitVec.ofNat 32 (Reg.addr .MC_RX_FRAMES p 0 + 4))) s (fun t =>
      reads (Tab.get s.latched 0 (Reg.key .MC_RX_FRAMES p 0)).toNat t ∧ Only s t [])) ∧
    (Readable s src (Reg.addr .LD_LOOK_STAT 0 0) → Runs (.resultSlotStatusRead src (BitVec.ofNat 32 (Reg.addr .LD_LOOK_STAT 0 0))) s (fun t =>
      (slot % 2 = 1 → reads (slot % 2 ^ 32) t ∧ t.on ⟨.LD_LOOK_STAT, 1, 1⟩ = true) ∧ (slot % 2 = 0 → t.rdReg .LD_LOOK_STAT = s.rdReg .LD_LOOK_STAT) ∧
      t.on ⟨.LD_LOOK_STAT, 0, 1⟩ = s.on ⟨.LD_LOOK_STAT, 0, 1⟩ ∧ Only s t [.LD_LOOK_STAT])) ∧
    (Accepted s src (Reg.addr .SV_EM_INDEX 0 0) v.toNat → Runs (.registerWrite src (BitVec.ofNat 32 (Reg.addr .SV_EM_INDEX 0 0)) v) s (fun t =>
      t.rd Fld.SV_EM_INDEX_INDEX = v.toNat % 2 ^ 17 ∧ t.sv = s.sv ∧ Only s t [.SV_EM_INDEX])) ∧
    (Accepted s src (Reg.addr .LN_STATUS p 0) v.toNat → Runs (.registerWrite src (BitVec.ofNat 32 (Reg.addr .LN_STATUS p 0)) v) s (fun t =>
      t.rdReg .LN_STATUS p = s.rdReg .LN_STATUS p ∧ t.lanes = s.lanes ∧ Only s t []))

/-- Where an access of the serial port ends that is not carried out (of R8, R499, R530): an unmapped read answers 0 and an unmapped write changes nothing; a read of a
sleeping domain, of an offset with no register, answers all-ones and is counted, a write is counted. The host's write of a key register is beyond its authority: it changes nothing and is counted. -/
def Sys2Proof.Spec.AccessesNotCarriedOut : Prop :=
  ∀ (s : State) (a v : Word) (k : Nat), k < 8 →
    let key : Word := BitVec.ofNat 32 (0x08200000 + 4 * k)
    let dom := a.toNat / 2 ^ 24
    (mapped a.toNat = false →
      Runs (.clearOnReadRead .serial a) s (fun t => t.outs.head? = some (.regRead .serial 0) ∧ Only s t [] ∧ bit t.cp.serStatus 3 = true) ∧
      Runs (.registerWrite .serial a v) s (fun t => Only s t [] ∧ SameUnits s t ∧ bit t.cp.serStatus 3 = true)) ∧
    (mapped a.toNat = true → Loc.find (a.toNat / 4 * 4) = none → s.asleep dom = true →
      Runs (.clearOnReadRead .serial a) s (fun t => t.outs.head? = some (.regRead .serial 0xFFFFFFFF) ∧ Counts s t Fld.PW_ASLEEP_SERRD 1 ∧
        bit t.cp.serStatus 0 = true ∧ Only s t [.PW_ASLEEP]) ∧
      Runs (.registerWrite .serial a v) s (fun t => Counts s t Fld.PW_ASLEEP_SERWR 1 ∧ bit t.cp.serStatus 0 = true ∧ Only s t [.PW_ASLEEP])) ∧
    Runs (.registerWrite .host key v) s (fun t => t.cx = s.cx ∧ Counts s t Fld.MG_AUTH_CNT_HOST 1 ∧ Only s t [.MG_AUTH_CNT])

/-- Accesses to registers with codes of their own, and where accesses end that are not carried out (of R8 to R10, R21, R499, R528 to R530, R543). -/
def Obligations.AccessesAndCounters : Prop := Spec.RegisterReadsAndWrites ∧ Spec.AccessesNotCarriedOut

/-- Every flat offset lies in at most one register word, and in the one that the map finds: no two registers share an offset (R6, R7, R20, R22). -/
def Sys2Proof.Spec.RegisterMapIsExact : Prop :=
  ∀ (a : Nat) (l : Loc), Loc.find a = some l →
    l.reg.addr l.i l.k + (if l.high = true then 4 else 0) ≤ a ∧ a < l.reg.addr l.i l.k + (if l.high = true then 8 else 4) ∧
    (l.high = true → l.reg.place.wide = true)
/-! ## Register rows -/

/-- Of R6 to R11 and R21: REGISTER_WRITE that is carried out, at every offset. At a reserved offset the write is discarded; at a register word the register's own
write happens (for a register with an effect of its own, the statements of its chapter say which); a register without one takes the written bits of its
RW fields and clears its W1C fields where a 1 is written, keeps the others, and discards the write where the new value is out of the stated range: no
other register but the votes' and nothing of Preoth, of the units and of memory changes. -/
def Sys2Proof.Spec.RegisterWriteCompletes : Prop :=
  ∀ (s : State) (src : Src) (a v : Word), Accepted s src a.toNat v.toNat → a.toNat / 4 * 4 ≠ 0x0C030108 →
    let o := a.toNat / 4 * 4
    let s0 := s.portVote src
    (Loc.find o = none → exec (.registerWrite src a v) s = .next s0 ∧ Only s s0 [] ∧ SameUnits s s0) ∧
    (∀ l, Loc.find o = some l → exec (.registerWrite src a v) s = .next (s0.writeWord src l v.toNat)) ∧
    (∀ l, Loc.find o = some l → l.reg ∉ effectRegs →
      let new := l.reg.merged (s0.maintains src && ttReg l.reg) l.high (s0.rdReg l.reg l.i l.k).toNat v.toNat
      (l.reg.inRange new = true → Runs (.registerWrite src a v) s (fun t => t.rdReg l.reg l.i l.k = BitVec.ofNat 64 new ∧
        Only s t [l.reg] ∧ SameUnits s t)) ∧
      (l.reg.inRange new = false → exec (.registerWrite src a v) s = .next s0))

/-- Of R10 and R11: what a write leaves of a register by its access codes: the written half of an RW field takes the written bits, a W1C field keeps the bits
that are written 0 and clears the others, a field of any other access keeps its value. -/
def Sys2Proof.Spec.RegisterWriteByAccessCode : Prop :=
  ∀ (r : Reg) (f : Field) (high : Bool) (old v b : Nat), f ∈ r.fields → f.lo ≤ b → b < f.lo + f.len → v < 2 ^ 32 →
    let written := b / 32 = (if high = true then 1 else 0)
    let w := v.testBit (b % 32)
    (r.merged false high old v).testBit b =
      match f.acc with
      | .rw => if written then w else old.testBit b
      | .w1c => old.testBit b && !(decide written && w)
      | _ => old.testBit b

/-- Of R9, R10 and R543: a read that is carried out, at every offset; the four rows differ in name only. A reserved offset answers 0. A register word answers as
its chapter says; a register that holds its own value answers it: with RC fields, 32 bits wide, these become zero; 64 bits wide, the low word latches the
high one, which a read of the high word answers, and the register is cleared, and 64 bits wide without RC fields, each word is answered as it stands; a result slot's status answers its value once ready, and turns STALE;
before, it answers without the data of an earlier result. -/
def Sys2Proof.Spec.RegisterReadCompletes : Prop :=
  ∀ (s : State) (src : Src) (a : Word), Readable s src a.toNat →
    let o := a.toNat / 4 * 4
    let s0 := s.portVote src
    let answers := fun (w : Nat) (t : State) => t.outs = .regRead src (BitVec.ofNat 32 w) :: s.outs
    exec (.counterLowWordRead src a) s = exec (.clearOnReadRead src a) s ∧
    exec (.resultSlotStatusRead src a) s = exec (.clearOnReadRead src a) s ∧
    (Loc.find o = none → exec (.clearOnReadRead src a) s = .next (s0.emit (.regRead src 0))) ∧
    (∀ l, Loc.find o = some l → exec (.clearOnReadRead src a) s =
      .next ((s0.readWord src l).1.emit (.regRead src (BitVec.ofNat 32 (s0.readWord src l).2)))) ∧
    (∀ l, Loc.find o = some l → l.reg ∉ viewRegs → (∀ x, l.reg.slotOf l.i l.k = some x → s0.on ⟨x.1, 2, 1⟩ x.2.1 x.2.2 = false) →
      let old := (s0.rdReg l.reg l.i l.k).toNat
      let rc := l.reg.mask (fun c => c = .rc)
      (l.reg.place.wide = false → l.reg.isSlot = false → Runs (.clearOnReadRead src a) s (fun t => answers (old % 2 ^ 32) t ∧
        t.rdReg l.reg l.i l.k = s0.rdReg l.reg l.i l.k &&& ~~~ BitVec.ofNat 64 rc ∧ Only s t [l.reg])) ∧
      (l.reg.place.wide = true → rc = 0 → l.reg.isSlot = false → Runs (.clearOnReadRead src a) s (fun t =>
        answers (old / (if l.high = true then 2 ^ 32 else 1) % 2 ^ 32) t ∧ Only s t [])) ∧
      (l.reg.place.wide = true → rc ≠ 0 → l.high = false → Runs (.counterLowWordRead src a) s (fun t => answers (old % 2 ^ 32) t ∧
        t.rdReg l.reg l.i l.k = s0.rdReg l.reg l.i l.k &&& ~~~ BitVec.ofNat 64 rc ∧
        Tab.get t.latched 0 (l.reg.key l.i l.k) = BitVec.ofNat 32 (old / 2 ^ 32) ∧ Only s t [l.reg])) ∧
      (l.reg.place.wide = true → rc ≠ 0 → l.high = true → Runs (.counterLowWordRead src a) s (fun t =>
        answers (Tab.get s.latched 0 (l.reg.key l.i l.k)).toNat t ∧ Only s t [])) ∧
      (l.reg.isSlot = true → Runs (.resultSlotStatusRead src a) s (fun t => Only s t [l.reg] ∧
        (old % 2 = 1 → answers old t ∧ t.on ⟨l.reg, 1, 1⟩ l.i l.k = true ∧ t.on ⟨l.reg, 0, 1⟩ l.i l.k = true) ∧
        (old % 2 = 0 → answers (l.reg.noData old) t ∧ t.rdReg l.reg l.i l.k = s0.rdReg l.reg l.i l.k))))

/-- What a register write and a register read do, at every offset (of R6 to R11, R21, R543). -/
def Obligations.RegisterAccesses : Prop := Spec.RegisterWriteCompletes ∧ Spec.RegisterWriteByAccessCode ∧ Spec.RegisterReadCompletes

/-- Each row that is the write of one register of D0, or of D1 to D12's blocks without instances, completes as the register write at that register's offset, in
every state and for every source and word: both answer the same next state (the rows' encodings; R6, R7, R20). -/
def Sys2Proof.Spec.RegisterRowsAreWrites : Prop :=
  ∀ (s : State) (src : Src) (v : Word) (high : Bool),
    let at_ := fun (i : Instr) (o : Nat) => ∃ t, exec i s = .next t ∧ exec (.registerWrite src (BitVec.ofNat 32 o) v) s = .next t
    let h := if high = true then 4 else 0
    at_ (.bootGo src v) 0x00000004 ∧ at_ (.warmResetRequest src v) 0x00000008 ∧ at_ (.coldResetRequest src v) 0x00000008 ∧
    at_ (.watchdogFeed src v) 0x00000010 ∧ at_ (.siteVendorWrite src v) 0x00000020 ∧ at_ (.siteSerialWrite src v) 0x00000024 ∧
    at_ (.siteLockWrite src v) 0x00000028 ∧ at_ (.estopClear src v) 0x00000030 ∧ at_ (.saveDataAccess src (some v)) 0x00000044 ∧
    at_ (.tbIncrWrite src high v) (0x00010010 + h) ∧ at_ (.tbStepWrite src high v) (0x00010020 + h) ∧ at_ (.tbRearm src v) 0x00010034 ∧
    at_ (.ppsOutNextWrite src v) 0x00010040 ∧ at_ (.timekeepRequest src v) 0x00030004 ∧ at_ (.timekeepExitRequest src v) 0x00030004 ∧
    at_ (.voteHostWrite src v) 0x00030018 ∧ at_ (.voteSerialWrite src v) 0x0003001C ∧ at_ (.latchPop src v) 0x00040004 ∧
    at_ (.prStmDataAccess src (some v)) 0x01400004 ∧ at_ (.todCommit src v) 0x01500114 ∧ at_ (.holdoverModelReset src v) 0x01500214 ∧
    at_ (.bcIdWrite src high v) (0x01500300 + h) ∧ at_ (.asymRefit src v) 0x01500400 ∧ at_ (.asymModelWrite src v) 0x01500404 ∧
    at_ (.ruleSetSwap src v) 0x04000004 ∧ at_ (.whiskSeedWrite src high v) (0x04000010 + h) ∧ at_ (.svActWordWrite src high v) (0x04000108 + h) ∧
    at_ (.ledgerLookup src high v) (0x05010008 + h) ∧ at_ (.shaperSelect src v) 0x05110000 ∧ at_ (.shaperCommit src v) 0x0511000C ∧
    at_ (.policerSelect src v) 0x05120000 ∧ at_ (.policerCommit src v) 0x0512000C ∧
    at_ (.holdForceStart src v) 0x05144030 ∧ at_ (.holdForceAbandon src v) 0x05144030 ∧
    at_ (.ponKeyGenerate src v) 0x08003004 ∧ at_ (.rootKeyProgram src v) 0x08200020 ∧ at_ (.kekClear src high v) (0x08200048 + h) ∧
    at_ (.blobSubmit src v) 0x08200240 ∧ at_ (.activationDeact src v) 0x09100004 ∧ at_ (.dsModeWrite src v) 0x09100100 ∧
    at_ (.ringEnableWrite src v) 0x0C020008 ∧ at_ (.delegationWrite src v) 0x0C030000 ∧
    at_ (.proxyRead src v) 0x0C030108 ∧ at_ (.proxyWrite src v) 0x0C030108

/-- Each row that names an instance completes as the register write at that instance's offset, for every instance there is (R6, R20, R22, R72); so is each row that
is the read of one register the read there. -/
def Sys2Proof.Spec.InstanceRowsAreWrites : Prop :=
  ∀ (s : State) (src : Src) (v : Word) (high : Bool) (n k : Nat),
    let at_ := fun (i : Instr) (o : Nat) => ∃ t, exec i s = .next t ∧ exec (.registerWrite src (BitVec.ofNat 32 o) v) s = .next t
    let from_ := fun (i : Instr) (o : Nat) => ∃ t, exec i s = .next t ∧ exec (.clearOnReadRead src (BitVec.ofNat 32 o)) s = .next t
    let cmd := fun (i : Instr) (o c : Nat) => ∃ t, exec i s = .next t ∧ exec (.registerWrite src (BitVec.ofNat 32 o) (BitVec.ofNat 32 c)) s = .next t
    let h := if high = true then 4 else 0
    (n < 1024 → cmd (.contextStart src n) (contextBlock n) 0x10 ∧ cmd (.contextStop src n) (contextBlock n) 0x20 ∧
      cmd (.contextReset src n) (contextBlock n) 0x30 ∧ at_ (.scClear src n v) (0x08100000 + 0x40 * n) ∧
      at_ (.scPnWrite src n high v) (0x08100010 + 0x40 * n + h) ∧ at_ (.msixUnmask src n v) (0x0C01000C + 16 * n)) ∧
    (n < 128 → at_ (.hostMessageGo src n v) (engineBlock n + 0x20) ∧ at_ (.engineLoadGo src n v) (engineBlock n + 0x38) ∧
      at_ (.prMemDataAccess src n (some v)) (engineBlock n + 0x14) ∧ from_ (.prMemDataAccess src n none) (engineBlock n + 0x14)) ∧
    (n < 145 → at_ (.gateStart src n v) (portBlock n + 0x3000) ∧ at_ (.gateStop src n v) (portBlock n + 0x3000) ∧
      at_ (.gateReset src n v) (portBlock n + 0x3000) ∧ at_ (.gateLoadGo src n v) (portBlock n + 0x3018)) ∧
    (n < 144 → at_ (.portRerole src n v) (portBlock n + 0x1210) ∧ at_ (.laneCtrlWrite src n v) (portBlock n) ∧
      at_ (.prbsGenWrite src n v) (portBlock n + 0x20) ∧ at_ (.prbsChkWrite src n v) (portBlock n + 0x20) ∧
      at_ (.prbsInjectOne src n v) (portBlock n + 0x20) ∧ at_ (.prbsInjectHdr src n v) (portBlock n + 0x20)) ∧
    (n < 4 → at_ (.dsGroupCapWrite src n v) (0x09100200 + 0x20 * n) ∧ at_ (.snapshotArm src n v) (0x09110044 + 0x10000 * n) ∧
      at_ (.ldPartitionWrite src n v) (0x06000100 + 4 * n) ∧ at_ (.ldPartitionWrite src (4 + n) v) (0x06000120 + 4 * n)) ∧
    (n < 512 → at_ (.allocMapWrite src n v) (0x05140000 + 0x20 * n)) ∧
    (k < 8 → at_ (.svEmWordWrite src k high v) (0x04100008 + 8 * k + h)) ∧
    (n < 2 → k < 8 → at_ (.svTrWordWrite src n k high v) (0x04110008 + 0x10000 * n + 8 * k + h)) ∧
    (n < 256 → k < 4 → at_ (.ldReserveWrite src n k false v) (0x05001000 + 0x40 * n + 4 * k) ∧
      at_ (.ldReserveWrite src n k true v) (0x05001010 + 0x40 * n + 4 * k)) ∧
    (n < 12 → at_ (.cipherLaneRevive src n v) (0x08010004 + 0x10000 * n)) ∧
    from_ (.prStmDataAccess src none) 0x01400004 ∧ from_ (.saveDataAccess src none) 0x00000044 ∧ from_ (.tbNsRead src) 0x00010000 ∧
    from_ (.flowstatHostRead src false high) (0x04000118 + h) ∧ from_ (.flowstatHostRead src true high) (0x04000120 + h) ∧
    (∀ dark, ¬ Accepted s src 0x09010000 v.toNat → at_ (.wdClear0 src v dark) 0x09010000 ∧ at_ (.wdClear1 src v dark) 0x09010000)

/-- The register map, and the rows that are accesses to one register each (of R6, R7, R20, R22, R72). -/
def Obligations.RegisterRows : Prop := Spec.RegisterMapIsExact ∧ Spec.RegisterRowsAreWrites ∧ Spec.InstanceRowsAreWrites

/-! ## The base program set

The device's own programs are carried out without their instructions (log 89, DESIGN CHOICE): each turn of a role is the head message of its mailbox. -/

/-- A context of the base set waits in recv, and a message from `sender` is at the head of its mailbox. -/
def Sys2Proof.Spec.TurnReady (s : State) (c : Nat) (m : Msg) (rest : List Msg) : Prop :=
  s.roleRuns c = true ∧ s.asleep (agentDomain (.ctx c)) = false ∧ s.fetchBad (.ctx c) = false ∧ (s.ctx c).mbx = m :: rest ∧
  ∃ rd addr d, (s.ctx c).wait = some (.recv rd addr d)

/-- (Of R269 and R270.) At its timer the epoch keeper writes the epoch record, 32 bytes at S 0x200: SEQ goes on by two, the observation is TB_NS and TB_WRAP, BASE
and the flags are the servo's; its next turn is 1 s ahead, and no other byte of S changes. -/
def Sys2Proof.Spec.EpochRecord : Prop :=
  ∀ (s : State) (m : Msg) (rest : List Msg) (n : Nat), Spec.TurnReady s 1 m rest → m.sender = .timer n →
    ∃ t, exec (.recvMessageTaken (.ctx 1)) s = .next t ∧ (t.ctx 1).mbx = rest ∧ Tab.get (t.ctx 1).timers {} 0 = { armed := true, target := s.ns + 1000000000 } ∧
      little (t.readS 0x200 8) = (little (s.readS 0x200 8) + 2) % 2 ^ 64 ∧
      little (t.readS 0x208 4) = s.ns.toNat ∧ little (t.readS 0x20C 4) = s.wrap.toNat ∧
      little (t.readS 0x210 8) = (s.rdReg .TT_SERVO_BASE).toNat ∧
      little (t.readS 0x218 8) = 1 + b2n (s.on Fld.TT_SERVO_UTC_BASEV) * 2 + s.rd Fld.TT_SERVO_UTC_UTCOFF * 2 ^ 8 + s.rd Fld.TT_SERVO_UTC_LEAP * 2 ^ 16 ∧
      (∀ a, a < 0x200 ∨ 0x220 ≤ a → t.readS a 1 = s.readS a 1)

/-- (Of R300.) Where the servo's states lead at a valid e (in 1/256 ns), and in a second without one. While the timebase is not set (after a REARM), a
valid e outside MISMATCH ends a run of consecutive e and leads nowhere (the model's choice, log 98). -/
def Sys2Proof.Spec.ServoStates : Prop :=
  (∀ (s : State) (e : Int),
    let st := s.rd Fld.TT_SERVO_STATUS_STATE
    let set := s.on Fld.TB_STATUS_SETDONE
    let far := s.rd Fld.TT_SERVO_THR_MISMATCH * 25600 < e.natAbs
    let near := e.natAbs ≤ s.rd Fld.TT_SERVO_THR_LOCKTHR * 256
    let run := s.base.servo.run
    let t := s.servoValid e
    let next := fun n => t.rd Fld.TT_SERVO_STATUS_STATE = n ∧ t.base.servo.run = 0
    let counts := fun n => t.rd Fld.TT_SERVO_STATUS_STATE = st ∧ t.base.servo.run = n
    (st = 0 ∨ st = 4 → set = false → s.on Fld.KT_BOOT_STATUS_TSVALID = true → next 1) ∧
    (st = 0 → set = true → ¬ far → next 1) ∧
    (st = 0 ∨ st = 1 ∨ st = 2 ∨ st = 3 → set = true → far → next 4) ∧
    (st = 1 ∨ st = 2 ∨ st = 3 → set = false → far → counts 0) ∧
    (st = 1 → ¬ far → near → (59 ≤ run → next 2) ∧ (run < 59 → counts (run + 1))) ∧
    (st = 1 → ¬ far → ¬ near → counts 0) ∧
    (st = 2 → ¬ far → ¬ near → (9 ≤ run → next 1) ∧ (run < 9 → counts (run + 1))) ∧
    (st = 2 → ¬ far → near → counts 0) ∧
    (st = 3 → ¬ far → next 1) ∧
    (st = 4 → set = true → ¬ far → (9 ≤ run → next 1) ∧ (run < 9 → counts (run + 1))) ∧
    (st = 4 → set = true → far → counts 0)) ∧
  (∀ s : State,
    let st := s.rd Fld.TT_SERVO_STATUS_STATE
    let lost := s.base.servo.seenAt + s.rd Fld.TT_SERVO_CFG_LOSS * 1000000000 ≤ s.ns64
    (lost → st = 4 ∨ ((st = 1 ∨ st = 2) ∧ s.base.servo.locked = true) → s.servoLost.rd Fld.TT_SERVO_STATUS_STATE = 3) ∧
    (lost → (st = 1 ∨ st = 2) ∧ s.base.servo.locked = false → s.servoLost.rd Fld.TT_SERVO_STATUS_STATE = 0) ∧
    (¬ lost ∨ st = 0 ∨ st = 3 → s.servoLost = s))

/-- (Of R302.) The phase pull is against e and at most SLEW × 10⁻⁹ (u is kept in 10⁻²⁴, log 98, DESIGN CHOICE). -/
def Sys2Proof.Spec.PhasePullIsBounded : Prop :=
  ∀ (s : State) (e : Int),
    let v := (s.servoLoop e).base.servo
    let lim : Int := (s.rd Fld.TT_SERVO_CFG_SLEW * 10 ^ 15 : Nat)
    v.u - v.integ ≤ lim ∧ v.integ - v.u ≤ lim ∧ (0 ≤ e → v.u ≤ v.integ ∧ v.integ ≤ s.base.servo.integ) ∧ (e ≤ 0 → v.integ ≤ v.u ∧ s.base.servo.integ ≤ v.integ)

/-- (Of R286.) Every sentence is one of 48 bytes with the right check. -/
def Sys2Proof.Spec.SentencesAreWellFormed : Prop := ∀ (s : State) (sec : Nat), todLineOk (s.sentence sec) = true

/-- (Of R247.) What is predicted of traffic that is the same in all sixteen cycles is that traffic, in units of 64 bytes rounded up; and nothing that is
predicted exceeds twice the peak. -/
def Sys2Proof.Spec.PredictionFollowsTraffic : Prop :=
  (∀ x, predBytes (List.replicate 16 x) = min (2 ^ 30 - 1) ((x + 63) / 64)) ∧
  (∀ w x, w.length = 16 → (∀ y, y ∈ w → y ≤ x) → 64 * predBytes w ≤ 2 * x + 63)

/-- (Of R507 and R508.) At a message of R504 the picker writes every domain's target and wake time. Without a known event anywhere it is Doze, without a wake time;
otherwise the horizon is the domain's own event, or else the earliest of all, the depth is the deepest whose latency, stay and guard fit before it,
limited by MAXDEPTH, and the wake time is the horizon less that depth's latency and the guard. -/
def Sys2Proof.Spec.PickerTargets : Prop :=
  ∀ (s : State) (m : Msg) (rest : List Msg) (n d : Nat), Spec.TurnReady s 32 m rest → m.sender = .block n → 1 ≤ d → d ≤ 12 →
    ∃ t, exec (.recvMessageTaken (.ctx 32)) s = .next t ∧ (t.ctx 32).mbx = rest ∧
      let target := t.rd Fld.PW_DOM_TARGET_DEPTH d
      let due := fun (e : Nat) => (BitVec.ofNat 32 (s.rd Fld.PW_DOM_NEXT_NS e) - s.ns).toInt
      let guard : Int := s.rd Fld.PW_CFG_GUARD
      let aimed := fun (e : Nat) => t.on Fld.PW_DOM_TARGET_WVALID d = true ∧ target = min
          (if 24000000 + guard ≤ due e then 3 else if 480000 + guard ≤ due e then 2 else if 12000 + guard ≤ due e then 1 else 0)
          (s.rd Fld.PW_CTRL_MAXDEPTH) ∧
        BitVec.ofNat 32 (t.rd Fld.PW_DOM_WAKE_NS d) = BitVec.ofNat 32 (s.rd Fld.PW_DOM_NEXT_NS e) -
          BitVec.ofInt 32 ((if target = 0 then 0 else if target = 1 then 2000 else if target = 2 then 80000 else 4000000) + guard)
      ((∀ e, 1 ≤ e → e ≤ 12 → s.on Fld.PW_DOM_NEXT_VALID e = false) → target = 1 ∧ t.on Fld.PW_DOM_TARGET_WVALID d = false) ∧
      (s.on Fld.PW_DOM_NEXT_VALID d = true → aimed d) ∧
      (s.on Fld.PW_DOM_NEXT_VALID d = false → ∀ e, 1 ≤ e → e ≤ 12 → s.on Fld.PW_DOM_NEXT_VALID e = true →
        (∀ x, 1 ≤ x → x ≤ 12 → s.on Fld.PW_DOM_NEXT_VALID x = true → due e ≤ due x) → aimed e)

/-- What the predictor says of traffic, and the targets that the state picker writes (of R247, R507, R508). -/
def Obligations.PredictorAndPicker : Prop := Spec.PredictionFollowsTraffic ∧ Spec.PickerTargets

/-- (Of R109.) A context of the base set that has been restarted three times within the hour is left Trapped; before, it is restarted, and the restart noted;
once it has been started again, the supervisor looks after it again. -/
def Sys2Proof.Spec.ThreeRestartsAnHour : Prop :=
  (∀ (s : State) (c : Nat), 3 ≤ (s.base.restarts.filter (fun x => decide (x.1 = c ∧ s.ns64 < x.2 + 3600 * 1000000000))).length →
    (s.restart c).ctx c = s.ctx c ∧ c ∈ (s.restart c).base.left) ∧
  (∀ (s : State) (c : Nat), (s.base.restarts.filter (fun x => decide (x.1 = c ∧ s.ns64 < x.2 + 3600 * 1000000000))).length < 3 →
    (s.ctx c).loader = 3 → (s.ctx c).st = .trapped →
    ((s.restart c).ctx c).st = .waiting ∧ ((s.restart c).ctx c).steps = 0 ∧ ((s.restart c).ctx c).hmode = false ∧
      (c, s.ns64) ∈ (s.restart c).base.restarts ∧ (c ∉ s.base.left → c ∉ (s.restart c).base.left)) ∧
  (∀ (s : State) (c : Nat), (s.ctx c).loader = 3 → (s.ctx c).st = .trapped → c ∉ (s.command c 1).base.left)

/-- The epoch record, the servo's states and its phase pull, the time-of-day sentence and the limit on restarts (of R109, R269, R270, R286, R300, R302). -/
def Obligations.EpochServoAndRestarts : Prop := Spec.EpochRecord ∧ Spec.ServoStates ∧ Spec.PhasePullIsBounded ∧ Spec.SentencesAreWellFormed ∧ Spec.ThreeRestartsAnHour

/-! ## Reset and invariants -/

/-- (Of R36, R44, R83, R121, R125, R177, R262, R323, R411, R454 and R494.) Right after reset. Every register is at its reset value, every context Idle and unbound with registers
0, no gate sequencer runs and every gate is open; the terminal is in O1.1, no lane reserves a rate, no domain but D0 has power; memories and queues
are empty, and no command waits. (What memory reads as before it is written is the model's choice, log 9.) -/
def Obligations.ResetState : Prop :=
  let s := State.reset
  s.pending = [] ∧ (∀ r i k, s.rdReg r i k = BitVec.ofNat 64 (r.reset i k)) ∧
  (∀ c, s.ctx c = {} ∧ (s.ctx c).st = .idle ∧ (s.ctx c).loader = 0 ∧ (s.ctx c).cpu = {} ∧ (s.ctx c).mbx = []) ∧
  (∀ p, p < 145 → (s.gate p).st = .idle ∧ (s.gate p).edges = [] ∧ s.rd Fld.GT_GATES_OPEN p = 0xFF) ∧
  s.rd Fld.TC_ACT_STATUS_STATE = 1 ∧ (∀ p, p < 144 → s.rd Fld.LN_STATUS_STATE p = 0 ∧ s.rd Fld.LN_CTRL_RXEN p = 0 ∧ s.rd Fld.LN_CTRL_TXEN p = 0) ∧
  s.resSum true = 0 ∧ s.resSum false = 0 ∧ (∀ q, s.queue q = []) ∧ s.ns = 0 ∧ s.wrap = 0 ∧
  s.asleep 0 = false ∧ (∀ d, 1 ≤ d → d ≤ 12 → s.asleep d = true) ∧
  (∀ r, r ∈ s.cx.roots → r.used = false) ∧ s.cx.roots.length = 4 ∧ s.sv.rx = [] ∧ s.cp.latch = [] ∧ s.pow.timekeep = false

/-- The memories keep their canonical form: rising addresses, and no entry that says what an unlisted byte reads as. -/
def Sys2Proof.Spec.Canonical (s : State) : Prop :=
  Tab.wf s.hbm 0 = true ∧ Tab.wf s.save 0 = true ∧ Tab.wf s.pre.shared 0 = true ∧
  (∀ e, Tab.wf (s.eng e).imem 0 = true ∧ Tab.wf (s.eng e).lmem 0 = true) ∧ (∀ p, Tab.wf (s.gate p).imem 0 = true ∧ Tab.wf (s.gate p).lmem 0 = true)

/-- The memories of reset are in canonical form. -/
def Obligations.ResetMemoryIsCanonical : Prop := Canonical State.reset

/-- Whatever command runs, and at a tick too, every memory keeps its canonical form, so that equal memories are equal data. -/
def Obligations.MemoryStaysCanonical : Prop := ∀ (s t : State), Canonical s → step s = .next t → Canonical t

/-- (Of R135, R136 and R481.) No command frees a slot of the root key's one-time memory: in every step, what is used stays used and what holds a key keeps it. -/
def Obligations.RootSlotsAreOneTime : Prop :=
  ∀ (s t : State) (n : Nat) (r : RootSlot), s.cx.roots.length = 4 → step s = .next t → s.cx.roots[n]? = some r → r.used = true →
    t.cx.roots.length = 4 ∧ t.cx.roots[n]? = some r
end

