-- ==== Sys2Proof/Laws/Tab.lean ====
section
/-! SUPPORT. Laws of the sparse tables: a read after a write, and the canonical form. -/
namespace Sys2Proof.Machine

variable {α : Type}

@[simp] theorem Tab.get_nil (d : α) (k : Nat) : Tab.get ([] : Tab α) d k = d := rfl

theorem Tab.get_cons (d : α) (j k : Nat) (v : α) (r : Tab α) :
    Tab.get ((j, v) :: r) d k = if j = k then v else Tab.get r d k := rfl

@[simp] theorem Tab.get_del_self (t : Tab α) (d : α) (k : Nat) : Tab.get (Tab.del t k) d k = d := by
  induction t with
  | nil => rfl
  | cons e r ih =>
    obtain ⟨j, v⟩ := e
    by_cases h : j = k <;> simp [Tab.del, h, Tab.get_cons, ih]

theorem Tab.get_del_other (t : Tab α) (d : α) {k m : Nat} (h : m ≠ k) : Tab.get (Tab.del t k) d m = Tab.get t d m := by
  induction t with
  | nil => rfl
  | cons e r ih =>
    obtain ⟨j, v⟩ := e
    by_cases hj : j = k
    · subst hj
      simp [Tab.del, Tab.get_cons, ih, Ne.symm h]
    · simp only [Tab.del, hj, if_false, Tab.get_cons, ih]

@[simp] theorem Tab.get_ins_self (t : Tab α) (d : α) (k : Nat) (v : α) (h : k ∉ Tab.keys t) : Tab.get (Tab.ins t k v) d k = v := by
  induction t with
  | nil => simp [Tab.ins, Tab.get_cons]
  | cons e r ih =>
    obtain ⟨j, w⟩ := e
    simp only [Tab.keys, List.map_cons, List.mem_cons, not_or] at h
    by_cases hk : k < j
    · simp [Tab.ins, hk, Tab.get_cons]
    · have hj : j ≠ k := fun e => h.1 e.symm
      simp [Tab.ins, hk, Tab.get_cons, hj, ih h.2]

theorem Tab.get_ins_other (t : Tab α) (d : α) {k m : Nat} (v : α) (h : m ≠ k) : Tab.get (Tab.ins t k v) d m = Tab.get t d m := by
  induction t with
  | nil => simp [Tab.ins, Tab.get_cons, Ne.symm h]
  | cons e r ih =>
    obtain ⟨j, w⟩ := e
    by_cases hk : k < j
    · simp [Tab.ins, hk, Tab.get_cons, Ne.symm h]
    · simp [Tab.ins, hk, Tab.get_cons, ih]

theorem Tab.not_mem_del (t : Tab α) (k : Nat) : k ∉ Tab.keys (Tab.del t k) := by
  induction t with
  | nil => simp [Tab.del, Tab.keys]
  | cons e r ih =>
    obtain ⟨j, w⟩ := e
    by_cases hj : j = k
    · simpa [Tab.del, hj] using ih
    · simpa [Tab.del, hj, Tab.keys, Ne.symm hj] using ih

/-- A read of the key just written gives the value written. -/
@[simp] theorem Tab.get_set_self [DecidableEq α] (t : Tab α) (d : α) (k : Nat) (v : α) : Tab.get (Tab.set t d k v) d k = v := by
  by_cases h : v = d
  · simp [Tab.set, h]
  · simp [Tab.set, h, Tab.get_ins_self, Tab.not_mem_del]

/-- A write leaves every other key alone. -/
theorem Tab.get_set_other [DecidableEq α] (t : Tab α) (d : α) {k m : Nat} (v : α) (h : m ≠ k) :
    Tab.get (Tab.set t d k v) d m = Tab.get t d m := by
  by_cases hv : v = d
  · simp [Tab.set, hv, Tab.get_del_other t d h]
  · simp [Tab.set, hv, Tab.get_ins_other _ d v h, Tab.get_del_other t d h]

/-- Both in one. -/
theorem Tab.get_set [DecidableEq α] (t : Tab α) (d : α) (k m : Nat) (v : α) :
    Tab.get (Tab.set t d k v) d m = if m = k then v else Tab.get t d m := by
  by_cases h : m = k
  · simp [h]
  · simp [h, Tab.get_set_other t d v h]

/-- The canonical form of a byte memory (R41, R411, R513): strictly rising addresses, and no entry equal to the 0 that an unlisted address
reads as. -/
def Memory.wf (m : Tab Byte) : Bool := Tab.wf m 0

/-- A key that is put in and taken out leaves the table as it was. -/
theorem Tab.del_ins (t : Tab α) (k : Nat) (v : α) (h : k ∉ Tab.keys t) : Tab.del (Tab.ins t k v) k = Tab.del t k := by
  induction t with
  | nil => simp [Tab.ins, Tab.del]
  | cons e r ih =>
    obtain ⟨j, w⟩ := e
    simp only [Tab.keys, List.map_cons, List.mem_cons, not_or] at h
    unfold Tab.ins
    split
    · simp [Tab.del]
    · simp [Tab.del, Ne.symm h.1, ih h.2]

@[simp] theorem Tab.del_del (t : Tab α) (k : Nat) : Tab.del (Tab.del t k) k = Tab.del t k := by
  induction t with
  | nil => rfl
  | cons e r ih =>
    obtain ⟨j, w⟩ := e
    by_cases h : j = k <;> simp [Tab.del, h, ih]

/-- Of two writes of one key the later counts. -/
@[simp] theorem Tab.set_set [DecidableEq α] (t : Tab α) (d : α) (k : Nat) (v w : α) : Tab.set (Tab.set t d k v) d k w = Tab.set t d k w := by
  have h : Tab.del (Tab.set t d k v) k = Tab.del t k := by
    unfold Tab.set
    split
    · simp
    · simp [Tab.del_ins _ _ _ (Tab.not_mem_del t k)]
  simp only [Tab.set, h] at *

theorem Tab.rising_iff (t : Tab α) : Tab.rising t = true ↔ (Tab.keys t).Pairwise (· < ·) := by
  induction t with
  | nil => simp [Tab.rising, Tab.keys]
  | cons e r ih =>
    obtain ⟨j, v⟩ := e
    cases r with
    | nil => simp [Tab.rising, Tab.keys]
    | cons f q =>
      obtain ⟨k, w⟩ := f
      have hk : Tab.keys ((k, w) :: q) = k :: Tab.keys q := rfl
      have hj : Tab.keys ((j, v) :: (k, w) :: q) = j :: k :: Tab.keys q := rfl
      rw [hj, List.pairwise_cons]
      rw [hk] at ih
      simp only [Tab.rising, Bool.and_eq_true, decide_eq_true_eq, ih]
      constructor
      · rintro ⟨h1, h2⟩
        refine ⟨?_, h2⟩
        intro x hx
        rcases List.mem_cons.1 hx with rfl | hx
        · exact h1
        · exact lt_trans h1 ((List.pairwise_cons.1 h2).1 x hx)
      · rintro ⟨h1, h2⟩
        exact ⟨h1 k (by simp), h2⟩

theorem Tab.wf_iff [DecidableEq α] (t : Tab α) (d : α) :
    Tab.wf t d = true ↔ (Tab.keys t).Pairwise (· < ·) ∧ ∀ e ∈ t, e.2 ≠ d := by
  simp [Tab.wf, Tab.rising_iff, List.all_eq_true]

theorem Tab.mem_del {t : Tab α} {k : Nat} {e : Nat × α} (h : e ∈ Tab.del t k) : e ∈ t ∧ e.1 ≠ k := by
  induction t with
  | nil => simp [Tab.del] at h
  | cons f r ih =>
    obtain ⟨j, v⟩ := f
    by_cases hj : j = k
    · simp only [Tab.del, hj, if_true] at h
      exact ⟨List.mem_cons_of_mem _ (ih h).1, (ih h).2⟩
    · simp only [Tab.del, hj, if_false, List.mem_cons] at h
      rcases h with rfl | h
      · exact ⟨by simp, hj⟩
      · exact ⟨List.mem_cons_of_mem _ (ih h).1, (ih h).2⟩

theorem Tab.mem_ins {t : Tab α} {k : Nat} {v : α} {e : Nat × α} (h : e ∈ Tab.ins t k v) : e = (k, v) ∨ e ∈ t := by
  induction t with
  | nil => simpa [Tab.ins] using h
  | cons f r ih =>
    obtain ⟨j, w⟩ := f
    by_cases hk : k < j
    · simpa [Tab.ins, hk] using h
    · simp only [Tab.ins, hk, if_false, List.mem_cons] at h
      rcases h with rfl | h
      · simp
      · rcases ih h with h | h
        · exact Or.inl h
        · exact Or.inr (List.mem_cons_of_mem _ h)

theorem Tab.keys_del_sublist (t : Tab α) (k : Nat) : (Tab.keys (Tab.del t k)).Sublist (Tab.keys t) := by
  induction t with
  | nil => simp [Tab.del, Tab.keys]
  | cons e r ih =>
    obtain ⟨j, v⟩ := e
    by_cases hj : j = k
    · simpa [Tab.del, hj, Tab.keys] using List.Sublist.cons _ ih
    · simpa [Tab.del, hj, Tab.keys] using ih.cons_cons j

theorem Tab.pairwise_ins {t : Tab α} {k : Nat} (v : α) (h : (Tab.keys t).Pairwise (· < ·)) (hk : k ∉ Tab.keys t) :
    (Tab.keys (Tab.ins t k v)).Pairwise (· < ·) := by
  induction t with
  | nil => simp [Tab.ins, Tab.keys]
  | cons e r ih =>
    obtain ⟨j, w⟩ := e
    have hp := List.pairwise_cons.1 (show (j :: Tab.keys r).Pairwise (· < ·) from h)
    have hne : k ≠ j ∧ k ∉ Tab.keys r := by simpa [Tab.keys] using hk
    by_cases hlt : k < j
    · simp only [Tab.ins, hlt, if_true]
      refine List.pairwise_cons.2 ⟨?_, h⟩
      intro x hx
      rcases List.mem_cons.1 (show x ∈ j :: Tab.keys r from hx) with rfl | hx
      · exact hlt
      · exact lt_trans hlt (hp.1 x hx)
    · simp only [Tab.ins, hlt, if_false]
      refine List.pairwise_cons.2 ⟨?_, ih hp.2 hne.2⟩
      intro x hx
      obtain ⟨e, he, rfl⟩ := List.mem_map.1 hx
      rcases Tab.mem_ins he with rfl | he
      · exact lt_of_le_of_ne (not_lt.1 hlt) (Ne.symm hne.1)
      · exact hp.1 _ (List.mem_map.2 ⟨e, he, rfl⟩)

/-- A write keeps the canonical form. -/
theorem Tab.wf_set [DecidableEq α] {t : Tab α} {d : α} (k : Nat) (v : α) (h : Tab.wf t d = true) : Tab.wf (Tab.set t d k v) d = true := by
  rw [Tab.wf_iff] at h ⊢
  have hdel : (Tab.keys (Tab.del t k)).Pairwise (· < ·) := h.1.sublist (Tab.keys_del_sublist t k)
  by_cases hv : v = d
  · simp only [Tab.set, hv, if_true]
    exact ⟨hdel, fun e he => h.2 e (Tab.mem_del he).1⟩
  · simp only [Tab.set, hv, if_false]
    refine ⟨Tab.pairwise_ins v hdel (Tab.not_mem_del t k), ?_⟩
    intro e he
    rcases Tab.mem_ins he with rfl | he
    · exact hv
    · exact h.2 e (Tab.mem_del he).1

/-- A write of several values keeps the canonical form. -/
theorem Tab.wf_write [DecidableEq α] {d : α} (l : List α) (k : Nat) {t : Tab α} (h : Tab.wf t d = true) :
    Tab.wf (Tab.write t d k l) d = true := by
  induction l generalizing t k with
  | nil => exact h
  | cons v vs ih => exact ih (k + 1) (Tab.wf_set k v h)

/-- What a key reads as after a write of several values. -/
theorem Tab.get_write [DecidableEq α] (d : α) (l : List α) (k m : Nat) (t : Tab α) :
    Tab.get (Tab.write t d k l) d m = if k ≤ m ∧ m < k + l.length then l.getD (m - k) d else Tab.get t d m := by
  induction l generalizing t k with
  | nil =>
    have : ¬(k ≤ m ∧ m < k + ([] : List α).length) := by simp
    rw [if_neg this, Tab.write]
  | cons v vs ih =>
    simp only [Tab.write, ih, Tab.get_set, List.length_cons]
    by_cases h : m = k
    · subst h
      simp
    · by_cases h2 : k + 1 ≤ m ∧ m < k + 1 + vs.length
      · have h3 : k ≤ m ∧ m < k + (vs.length + 1) := by omega
        have h4 : m - k = (m - (k + 1)) + 1 := by omega
        simp [h2, h3, h4]
      · have h3 : ¬(k ≤ m ∧ m < k + (vs.length + 1)) := by omega
        rw [if_neg h2, if_neg h3, if_neg h]

/-- A read of several values, value by value. -/
theorem Tab.getElem?_read (t : Tab α) (d : α) (n k i : Nat) (h : i < n) : (Tab.read t d k n)[i]? = some (Tab.get t d (k + i)) := by
  induction n generalizing k i with
  | zero => omega
  | succ n ih =>
    cases i with
    | zero => simp [Tab.read]
    | succ i =>
      have := ih (k + 1) i (by omega)
      simp only [Tab.read, List.getElem?_cons_succ, this]
      congr 2
      omega

@[simp] theorem Tab.length_read (t : Tab α) (d : α) (n k : Nat) : (Tab.read t d k n).length = n := by
  induction n generalizing k with
  | zero => rfl
  | succ n ih => simp [Tab.read, ih]

end Sys2Proof.Machine
end

