-- ==== Sys2Proof/Laws/State.lean ====
section
/-! SUPPORT. What the named updates of the state leave alone, and what they set: one lemma for each field and update, so that no proof unfolds
a record update. -/
namespace Sys2Proof.Machine

@[simp] theorem State.setCtx_pending (s : State) (c : Nat) (x : Ctx) : (s.setCtx c x).pending = s.pending := rfl
@[simp] theorem State.setCtx_regs (s : State) (c : Nat) (x : Ctx) : (s.setCtx c x).regs = s.regs := rfl
@[simp] theorem State.setCtx_latched (s : State) (c : Nat) (x : Ctx) : (s.setCtx c x).latched = s.latched := rfl
@[simp] theorem State.setCtx_lowHalf (s : State) (c : Nat) (x : Ctx) : (s.setCtx c x).lowHalf = s.lowHalf := rfl
@[simp] theorem State.setCtx_draws (s : State) (c : Nat) (x : Ctx) : (s.setCtx c x).draws = s.draws := rfl
@[simp] theorem State.setCtx_outs (s : State) (c : Nat) (x : Ctx) : (s.setCtx c x).outs = s.outs := rfl
@[simp] theorem State.setCtx_boot (s : State) (c : Nat) (x : Ctx) : (s.setCtx c x).boot = s.boot := rfl
@[simp] theorem State.setCtx_pow (s : State) (c : Nat) (x : Ctx) : (s.setCtx c x).pow = s.pow := rfl
@[simp] theorem State.setCtx_cp (s : State) (c : Nat) (x : Ctx) : (s.setCtx c x).cp = s.cp := rfl
@[simp] theorem State.setCtx_sv (s : State) (c : Nat) (x : Ctx) : (s.setCtx c x).sv = s.sv := rfl
@[simp] theorem State.setCtx_ld (s : State) (c : Nat) (x : Ctx) : (s.setCtx c x).ld = s.ld := rfl
@[simp] theorem State.setCtx_tm (s : State) (c : Nat) (x : Ctx) : (s.setCtx c x).tm = s.tm := rfl
@[simp] theorem State.setCtx_tb (s : State) (c : Nat) (x : Ctx) : (s.setCtx c x).tb = s.tb := rfl
@[simp] theorem State.setCtx_lanes (s : State) (c : Nat) (x : Ctx) : (s.setCtx c x).lanes = s.lanes := rfl
@[simp] theorem State.setCtx_macs (s : State) (c : Nat) (x : Ctx) : (s.setCtx c x).macs = s.macs := rfl
@[simp] theorem State.setCtx_cx (s : State) (c : Nat) (x : Ctx) : (s.setCtx c x).cx = s.cx := rfl
@[simp] theorem State.setCtx_fib (s : State) (c : Nat) (x : Ctx) : (s.setCtx c x).fib = s.fib := rfl
@[simp] theorem State.setCtx_hbm (s : State) (c : Nat) (x : Ctx) : (s.setCtx c x).hbm = s.hbm := rfl
@[simp] theorem State.setCtx_base (s : State) (c : Nat) (x : Ctx) : (s.setCtx c x).base = s.base := rfl
@[simp] theorem State.setCtx_save (s : State) (c : Nat) (x : Ctx) : (s.setCtx c x).save = s.save := rfl

@[simp] theorem State.setEng_pending (s : State) (e : Nat) (x : Eng) : (s.setEng e x).pending = s.pending := rfl
@[simp] theorem State.setEng_regs (s : State) (e : Nat) (x : Eng) : (s.setEng e x).regs = s.regs := rfl
@[simp] theorem State.setEng_latched (s : State) (e : Nat) (x : Eng) : (s.setEng e x).latched = s.latched := rfl
@[simp] theorem State.setEng_lowHalf (s : State) (e : Nat) (x : Eng) : (s.setEng e x).lowHalf = s.lowHalf := rfl
@[simp] theorem State.setEng_draws (s : State) (e : Nat) (x : Eng) : (s.setEng e x).draws = s.draws := rfl
@[simp] theorem State.setEng_outs (s : State) (e : Nat) (x : Eng) : (s.setEng e x).outs = s.outs := rfl
@[simp] theorem State.setEng_boot (s : State) (e : Nat) (x : Eng) : (s.setEng e x).boot = s.boot := rfl
@[simp] theorem State.setEng_pow (s : State) (e : Nat) (x : Eng) : (s.setEng e x).pow = s.pow := rfl
@[simp] theorem State.setEng_cp (s : State) (e : Nat) (x : Eng) : (s.setEng e x).cp = s.cp := rfl
@[simp] theorem State.setEng_sv (s : State) (e : Nat) (x : Eng) : (s.setEng e x).sv = s.sv := rfl
@[simp] theorem State.setEng_ld (s : State) (e : Nat) (x : Eng) : (s.setEng e x).ld = s.ld := rfl
@[simp] theorem State.setEng_tm (s : State) (e : Nat) (x : Eng) : (s.setEng e x).tm = s.tm := rfl
@[simp] theorem State.setEng_tb (s : State) (e : Nat) (x : Eng) : (s.setEng e x).tb = s.tb := rfl
@[simp] theorem State.setEng_lanes (s : State) (e : Nat) (x : Eng) : (s.setEng e x).lanes = s.lanes := rfl
@[simp] theorem State.setEng_macs (s : State) (e : Nat) (x : Eng) : (s.setEng e x).macs = s.macs := rfl
@[simp] theorem State.setEng_cx (s : State) (e : Nat) (x : Eng) : (s.setEng e x).cx = s.cx := rfl
@[simp] theorem State.setEng_fib (s : State) (e : Nat) (x : Eng) : (s.setEng e x).fib = s.fib := rfl
@[simp] theorem State.setEng_hbm (s : State) (e : Nat) (x : Eng) : (s.setEng e x).hbm = s.hbm := rfl
@[simp] theorem State.setEng_base (s : State) (e : Nat) (x : Eng) : (s.setEng e x).base = s.base := rfl
@[simp] theorem State.setEng_save (s : State) (e : Nat) (x : Eng) : (s.setEng e x).save = s.save := rfl

@[simp] theorem State.setGate_pending (s : State) (p : Nat) (x : GateSeq) : (s.setGate p x).pending = s.pending := rfl
@[simp] theorem State.setGate_regs (s : State) (p : Nat) (x : GateSeq) : (s.setGate p x).regs = s.regs := rfl
@[simp] theorem State.setGate_latched (s : State) (p : Nat) (x : GateSeq) : (s.setGate p x).latched = s.latched := rfl
@[simp] theorem State.setGate_lowHalf (s : State) (p : Nat) (x : GateSeq) : (s.setGate p x).lowHalf = s.lowHalf := rfl
@[simp] theorem State.setGate_draws (s : State) (p : Nat) (x : GateSeq) : (s.setGate p x).draws = s.draws := rfl
@[simp] theorem State.setGate_outs (s : State) (p : Nat) (x : GateSeq) : (s.setGate p x).outs = s.outs := rfl
@[simp] theorem State.setGate_boot (s : State) (p : Nat) (x : GateSeq) : (s.setGate p x).boot = s.boot := rfl
@[simp] theorem State.setGate_pow (s : State) (p : Nat) (x : GateSeq) : (s.setGate p x).pow = s.pow := rfl
@[simp] theorem State.setGate_cp (s : State) (p : Nat) (x : GateSeq) : (s.setGate p x).cp = s.cp := rfl
@[simp] theorem State.setGate_sv (s : State) (p : Nat) (x : GateSeq) : (s.setGate p x).sv = s.sv := rfl
@[simp] theorem State.setGate_ld (s : State) (p : Nat) (x : GateSeq) : (s.setGate p x).ld = s.ld := rfl
@[simp] theorem State.setGate_tm (s : State) (p : Nat) (x : GateSeq) : (s.setGate p x).tm = s.tm := rfl
@[simp] theorem State.setGate_tb (s : State) (p : Nat) (x : GateSeq) : (s.setGate p x).tb = s.tb := rfl
@[simp] theorem State.setGate_lanes (s : State) (p : Nat) (x : GateSeq) : (s.setGate p x).lanes = s.lanes := rfl
@[simp] theorem State.setGate_macs (s : State) (p : Nat) (x : GateSeq) : (s.setGate p x).macs = s.macs := rfl
@[simp] theorem State.setGate_cx (s : State) (p : Nat) (x : GateSeq) : (s.setGate p x).cx = s.cx := rfl
@[simp] theorem State.setGate_fib (s : State) (p : Nat) (x : GateSeq) : (s.setGate p x).fib = s.fib := rfl
@[simp] theorem State.setGate_hbm (s : State) (p : Nat) (x : GateSeq) : (s.setGate p x).hbm = s.hbm := rfl
@[simp] theorem State.setGate_base (s : State) (p : Nat) (x : GateSeq) : (s.setGate p x).base = s.base := rfl
@[simp] theorem State.setGate_save (s : State) (p : Nat) (x : GateSeq) : (s.setGate p x).save = s.save := rfl

@[simp] theorem State.wrReg_pending (s : State) (r : Reg) (v : Quad) (i k : Nat) : (s.wrReg r v i k).pending = s.pending := rfl
@[simp] theorem State.wrReg_latched (s : State) (r : Reg) (v : Quad) (i k : Nat) : (s.wrReg r v i k).latched = s.latched := rfl
@[simp] theorem State.wrReg_lowHalf (s : State) (r : Reg) (v : Quad) (i k : Nat) : (s.wrReg r v i k).lowHalf = s.lowHalf := rfl
@[simp] theorem State.wrReg_draws (s : State) (r : Reg) (v : Quad) (i k : Nat) : (s.wrReg r v i k).draws = s.draws := rfl
@[simp] theorem State.wrReg_outs (s : State) (r : Reg) (v : Quad) (i k : Nat) : (s.wrReg r v i k).outs = s.outs := rfl
@[simp] theorem State.wrReg_boot (s : State) (r : Reg) (v : Quad) (i k : Nat) : (s.wrReg r v i k).boot = s.boot := rfl
@[simp] theorem State.wrReg_pow (s : State) (r : Reg) (v : Quad) (i k : Nat) : (s.wrReg r v i k).pow = s.pow := rfl
@[simp] theorem State.wrReg_cp (s : State) (r : Reg) (v : Quad) (i k : Nat) : (s.wrReg r v i k).cp = s.cp := rfl
@[simp] theorem State.wrReg_pre (s : State) (r : Reg) (v : Quad) (i k : Nat) : (s.wrReg r v i k).pre = s.pre := rfl
@[simp] theorem State.wrReg_sv (s : State) (r : Reg) (v : Quad) (i k : Nat) : (s.wrReg r v i k).sv = s.sv := rfl
@[simp] theorem State.wrReg_ld (s : State) (r : Reg) (v : Quad) (i k : Nat) : (s.wrReg r v i k).ld = s.ld := rfl
@[simp] theorem State.wrReg_tm (s : State) (r : Reg) (v : Quad) (i k : Nat) : (s.wrReg r v i k).tm = s.tm := rfl
@[simp] theorem State.wrReg_tb (s : State) (r : Reg) (v : Quad) (i k : Nat) : (s.wrReg r v i k).tb = s.tb := rfl
@[simp] theorem State.wrReg_lanes (s : State) (r : Reg) (v : Quad) (i k : Nat) : (s.wrReg r v i k).lanes = s.lanes := rfl
@[simp] theorem State.wrReg_macs (s : State) (r : Reg) (v : Quad) (i k : Nat) : (s.wrReg r v i k).macs = s.macs := rfl
@[simp] theorem State.wrReg_cx (s : State) (r : Reg) (v : Quad) (i k : Nat) : (s.wrReg r v i k).cx = s.cx := rfl
@[simp] theorem State.wrReg_fib (s : State) (r : Reg) (v : Quad) (i k : Nat) : (s.wrReg r v i k).fib = s.fib := rfl
@[simp] theorem State.wrReg_hbm (s : State) (r : Reg) (v : Quad) (i k : Nat) : (s.wrReg r v i k).hbm = s.hbm := rfl
@[simp] theorem State.wrReg_base (s : State) (r : Reg) (v : Quad) (i k : Nat) : (s.wrReg r v i k).base = s.base := rfl
@[simp] theorem State.wrReg_save (s : State) (r : Reg) (v : Quad) (i k : Nat) : (s.wrReg r v i k).save = s.save := rfl

@[simp] theorem State.wr_pending (s : State) (f : Fld) (v i k : Nat) : (s.wr f v i k).pending = s.pending := rfl
@[simp] theorem State.wr_latched (s : State) (f : Fld) (v i k : Nat) : (s.wr f v i k).latched = s.latched := rfl
@[simp] theorem State.wr_lowHalf (s : State) (f : Fld) (v i k : Nat) : (s.wr f v i k).lowHalf = s.lowHalf := rfl
@[simp] theorem State.wr_draws (s : State) (f : Fld) (v i k : Nat) : (s.wr f v i k).draws = s.draws := rfl
@[simp] theorem State.wr_outs (s : State) (f : Fld) (v i k : Nat) : (s.wr f v i k).outs = s.outs := rfl
@[simp] theorem State.wr_boot (s : State) (f : Fld) (v i k : Nat) : (s.wr f v i k).boot = s.boot := rfl
@[simp] theorem State.wr_pow (s : State) (f : Fld) (v i k : Nat) : (s.wr f v i k).pow = s.pow := rfl
@[simp] theorem State.wr_cp (s : State) (f : Fld) (v i k : Nat) : (s.wr f v i k).cp = s.cp := rfl
@[simp] theorem State.wr_pre (s : State) (f : Fld) (v i k : Nat) : (s.wr f v i k).pre = s.pre := rfl
@[simp] theorem State.wr_sv (s : State) (f : Fld) (v i k : Nat) : (s.wr f v i k).sv = s.sv := rfl
@[simp] theorem State.wr_ld (s : State) (f : Fld) (v i k : Nat) : (s.wr f v i k).ld = s.ld := rfl
@[simp] theorem State.wr_tm (s : State) (f : Fld) (v i k : Nat) : (s.wr f v i k).tm = s.tm := rfl
@[simp] theorem State.wr_tb (s : State) (f : Fld) (v i k : Nat) : (s.wr f v i k).tb = s.tb := rfl
@[simp] theorem State.wr_lanes (s : State) (f : Fld) (v i k : Nat) : (s.wr f v i k).lanes = s.lanes := rfl
@[simp] theorem State.wr_macs (s : State) (f : Fld) (v i k : Nat) : (s.wr f v i k).macs = s.macs := rfl
@[simp] theorem State.wr_cx (s : State) (f : Fld) (v i k : Nat) : (s.wr f v i k).cx = s.cx := rfl
@[simp] theorem State.wr_fib (s : State) (f : Fld) (v i k : Nat) : (s.wr f v i k).fib = s.fib := rfl
@[simp] theorem State.wr_hbm (s : State) (f : Fld) (v i k : Nat) : (s.wr f v i k).hbm = s.hbm := rfl
@[simp] theorem State.wr_base (s : State) (f : Fld) (v i k : Nat) : (s.wr f v i k).base = s.base := rfl
@[simp] theorem State.wr_save (s : State) (f : Fld) (v i k : Nat) : (s.wr f v i k).save = s.save := rfl

@[simp] theorem State.flag_pending (s : State) (f : Fld) (v : Bool) (i k : Nat) : (s.flag f v i k).pending = s.pending := rfl
@[simp] theorem State.flag_latched (s : State) (f : Fld) (v : Bool) (i k : Nat) : (s.flag f v i k).latched = s.latched := rfl
@[simp] theorem State.flag_lowHalf (s : State) (f : Fld) (v : Bool) (i k : Nat) : (s.flag f v i k).lowHalf = s.lowHalf := rfl
@[simp] theorem State.flag_draws (s : State) (f : Fld) (v : Bool) (i k : Nat) : (s.flag f v i k).draws = s.draws := rfl
@[simp] theorem State.flag_outs (s : State) (f : Fld) (v : Bool) (i k : Nat) : (s.flag f v i k).outs = s.outs := rfl
@[simp] theorem State.flag_boot (s : State) (f : Fld) (v : Bool) (i k : Nat) : (s.flag f v i k).boot = s.boot := rfl
@[simp] theorem State.flag_pow (s : State) (f : Fld) (v : Bool) (i k : Nat) : (s.flag f v i k).pow = s.pow := rfl
@[simp] theorem State.flag_cp (s : State) (f : Fld) (v : Bool) (i k : Nat) : (s.flag f v i k).cp = s.cp := rfl
@[simp] theorem State.flag_pre (s : State) (f : Fld) (v : Bool) (i k : Nat) : (s.flag f v i k).pre = s.pre := rfl
@[simp] theorem State.flag_sv (s : State) (f : Fld) (v : Bool) (i k : Nat) : (s.flag f v i k).sv = s.sv := rfl
@[simp] theorem State.flag_ld (s : State) (f : Fld) (v : Bool) (i k : Nat) : (s.flag f v i k).ld = s.ld := rfl
@[simp] theorem State.flag_tm (s : State) (f : Fld) (v : Bool) (i k : Nat) : (s.flag f v i k).tm = s.tm := rfl
@[simp] theorem State.flag_tb (s : State) (f : Fld) (v : Bool) (i k : Nat) : (s.flag f v i k).tb = s.tb := rfl
@[simp] theorem State.flag_lanes (s : State) (f : Fld) (v : Bool) (i k : Nat) : (s.flag f v i k).lanes = s.lanes := rfl
@[simp] theorem State.flag_macs (s : State) (f : Fld) (v : Bool) (i k : Nat) : (s.flag f v i k).macs = s.macs := rfl
@[simp] theorem State.flag_cx (s : State) (f : Fld) (v : Bool) (i k : Nat) : (s.flag f v i k).cx = s.cx := rfl
@[simp] theorem State.flag_fib (s : State) (f : Fld) (v : Bool) (i k : Nat) : (s.flag f v i k).fib = s.fib := rfl
@[simp] theorem State.flag_hbm (s : State) (f : Fld) (v : Bool) (i k : Nat) : (s.flag f v i k).hbm = s.hbm := rfl
@[simp] theorem State.flag_base (s : State) (f : Fld) (v : Bool) (i k : Nat) : (s.flag f v i k).base = s.base := rfl
@[simp] theorem State.flag_save (s : State) (f : Fld) (v : Bool) (i k : Nat) : (s.flag f v i k).save = s.save := rfl

@[simp] theorem State.count_pending (s : State) (f : Fld) (i k n : Nat) : (s.count f i k n).pending = s.pending := rfl
@[simp] theorem State.count_latched (s : State) (f : Fld) (i k n : Nat) : (s.count f i k n).latched = s.latched := rfl
@[simp] theorem State.count_lowHalf (s : State) (f : Fld) (i k n : Nat) : (s.count f i k n).lowHalf = s.lowHalf := rfl
@[simp] theorem State.count_draws (s : State) (f : Fld) (i k n : Nat) : (s.count f i k n).draws = s.draws := rfl
@[simp] theorem State.count_outs (s : State) (f : Fld) (i k n : Nat) : (s.count f i k n).outs = s.outs := rfl
@[simp] theorem State.count_boot (s : State) (f : Fld) (i k n : Nat) : (s.count f i k n).boot = s.boot := rfl
@[simp] theorem State.count_pow (s : State) (f : Fld) (i k n : Nat) : (s.count f i k n).pow = s.pow := rfl
@[simp] theorem State.count_cp (s : State) (f : Fld) (i k n : Nat) : (s.count f i k n).cp = s.cp := rfl
@[simp] theorem State.count_pre (s : State) (f : Fld) (i k n : Nat) : (s.count f i k n).pre = s.pre := rfl
@[simp] theorem State.count_sv (s : State) (f : Fld) (i k n : Nat) : (s.count f i k n).sv = s.sv := rfl
@[simp] theorem State.count_ld (s : State) (f : Fld) (i k n : Nat) : (s.count f i k n).ld = s.ld := rfl
@[simp] theorem State.count_tm (s : State) (f : Fld) (i k n : Nat) : (s.count f i k n).tm = s.tm := rfl
@[simp] theorem State.count_tb (s : State) (f : Fld) (i k n : Nat) : (s.count f i k n).tb = s.tb := rfl
@[simp] theorem State.count_lanes (s : State) (f : Fld) (i k n : Nat) : (s.count f i k n).lanes = s.lanes := rfl
@[simp] theorem State.count_macs (s : State) (f : Fld) (i k n : Nat) : (s.count f i k n).macs = s.macs := rfl
@[simp] theorem State.count_cx (s : State) (f : Fld) (i k n : Nat) : (s.count f i k n).cx = s.cx := rfl
@[simp] theorem State.count_fib (s : State) (f : Fld) (i k n : Nat) : (s.count f i k n).fib = s.fib := rfl
@[simp] theorem State.count_hbm (s : State) (f : Fld) (i k n : Nat) : (s.count f i k n).hbm = s.hbm := rfl
@[simp] theorem State.count_base (s : State) (f : Fld) (i k n : Nat) : (s.count f i k n).base = s.base := rfl
@[simp] theorem State.count_save (s : State) (f : Fld) (i k n : Nat) : (s.count f i k n).save = s.save := rfl

@[simp] theorem State.emit_pending (s : State) (o : Out) : (s.emit o).pending = s.pending := rfl
@[simp] theorem State.emit_regs (s : State) (o : Out) : (s.emit o).regs = s.regs := rfl
@[simp] theorem State.emit_latched (s : State) (o : Out) : (s.emit o).latched = s.latched := rfl
@[simp] theorem State.emit_lowHalf (s : State) (o : Out) : (s.emit o).lowHalf = s.lowHalf := rfl
@[simp] theorem State.emit_draws (s : State) (o : Out) : (s.emit o).draws = s.draws := rfl
@[simp] theorem State.emit_boot (s : State) (o : Out) : (s.emit o).boot = s.boot := rfl
@[simp] theorem State.emit_pow (s : State) (o : Out) : (s.emit o).pow = s.pow := rfl
@[simp] theorem State.emit_cp (s : State) (o : Out) : (s.emit o).cp = s.cp := rfl
@[simp] theorem State.emit_pre (s : State) (o : Out) : (s.emit o).pre = s.pre := rfl
@[simp] theorem State.emit_sv (s : State) (o : Out) : (s.emit o).sv = s.sv := rfl
@[simp] theorem State.emit_ld (s : State) (o : Out) : (s.emit o).ld = s.ld := rfl
@[simp] theorem State.emit_tm (s : State) (o : Out) : (s.emit o).tm = s.tm := rfl
@[simp] theorem State.emit_tb (s : State) (o : Out) : (s.emit o).tb = s.tb := rfl
@[simp] theorem State.emit_lanes (s : State) (o : Out) : (s.emit o).lanes = s.lanes := rfl
@[simp] theorem State.emit_macs (s : State) (o : Out) : (s.emit o).macs = s.macs := rfl
@[simp] theorem State.emit_cx (s : State) (o : Out) : (s.emit o).cx = s.cx := rfl
@[simp] theorem State.emit_fib (s : State) (o : Out) : (s.emit o).fib = s.fib := rfl
@[simp] theorem State.emit_hbm (s : State) (o : Out) : (s.emit o).hbm = s.hbm := rfl
@[simp] theorem State.emit_base (s : State) (o : Out) : (s.emit o).base = s.base := rfl
@[simp] theorem State.emit_save (s : State) (o : Out) : (s.emit o).save = s.save := rfl

@[simp] theorem State.writeS_pending (s : State) (a : Nat) (b : List Byte) : (s.writeS a b).pending = s.pending := rfl
@[simp] theorem State.writeS_regs (s : State) (a : Nat) (b : List Byte) : (s.writeS a b).regs = s.regs := rfl
@[simp] theorem State.writeS_latched (s : State) (a : Nat) (b : List Byte) : (s.writeS a b).latched = s.latched := rfl
@[simp] theorem State.writeS_lowHalf (s : State) (a : Nat) (b : List Byte) : (s.writeS a b).lowHalf = s.lowHalf := rfl
@[simp] theorem State.writeS_draws (s : State) (a : Nat) (b : List Byte) : (s.writeS a b).draws = s.draws := rfl
@[simp] theorem State.writeS_outs (s : State) (a : Nat) (b : List Byte) : (s.writeS a b).outs = s.outs := rfl
@[simp] theorem State.writeS_boot (s : State) (a : Nat) (b : List Byte) : (s.writeS a b).boot = s.boot := rfl
@[simp] theorem State.writeS_pow (s : State) (a : Nat) (b : List Byte) : (s.writeS a b).pow = s.pow := rfl
@[simp] theorem State.writeS_cp (s : State) (a : Nat) (b : List Byte) : (s.writeS a b).cp = s.cp := rfl
@[simp] theorem State.writeS_sv (s : State) (a : Nat) (b : List Byte) : (s.writeS a b).sv = s.sv := rfl
@[simp] theorem State.writeS_ld (s : State) (a : Nat) (b : List Byte) : (s.writeS a b).ld = s.ld := rfl
@[simp] theorem State.writeS_tm (s : State) (a : Nat) (b : List Byte) : (s.writeS a b).tm = s.tm := rfl
@[simp] theorem State.writeS_tb (s : State) (a : Nat) (b : List Byte) : (s.writeS a b).tb = s.tb := rfl
@[simp] theorem State.writeS_lanes (s : State) (a : Nat) (b : List Byte) : (s.writeS a b).lanes = s.lanes := rfl
@[simp] theorem State.writeS_macs (s : State) (a : Nat) (b : List Byte) : (s.writeS a b).macs = s.macs := rfl
@[simp] theorem State.writeS_cx (s : State) (a : Nat) (b : List Byte) : (s.writeS a b).cx = s.cx := rfl
@[simp] theorem State.writeS_fib (s : State) (a : Nat) (b : List Byte) : (s.writeS a b).fib = s.fib := rfl
@[simp] theorem State.writeS_hbm (s : State) (a : Nat) (b : List Byte) : (s.writeS a b).hbm = s.hbm := rfl
@[simp] theorem State.writeS_base (s : State) (a : Nat) (b : List Byte) : (s.writeS a b).base = s.base := rfl
@[simp] theorem State.writeS_save (s : State) (a : Nat) (b : List Byte) : (s.writeS a b).save = s.save := rfl

@[simp] theorem State.setQueue_pending (s : State) (q : Nat) (l : List Packet) : (s.setQueue q l).pending = s.pending := rfl
@[simp] theorem State.setQueue_regs (s : State) (q : Nat) (l : List Packet) : (s.setQueue q l).regs = s.regs := rfl
@[simp] theorem State.setQueue_latched (s : State) (q : Nat) (l : List Packet) : (s.setQueue q l).latched = s.latched := rfl
@[simp] theorem State.setQueue_lowHalf (s : State) (q : Nat) (l : List Packet) : (s.setQueue q l).lowHalf = s.lowHalf := rfl
@[simp] theorem State.setQueue_draws (s : State) (q : Nat) (l : List Packet) : (s.setQueue q l).draws = s.draws := rfl
@[simp] theorem State.setQueue_outs (s : State) (q : Nat) (l : List Packet) : (s.setQueue q l).outs = s.outs := rfl
@[simp] theorem State.setQueue_boot (s : State) (q : Nat) (l : List Packet) : (s.setQueue q l).boot = s.boot := rfl
@[simp] theorem State.setQueue_pow (s : State) (q : Nat) (l : List Packet) : (s.setQueue q l).pow = s.pow := rfl
@[simp] theorem State.setQueue_cp (s : State) (q : Nat) (l : List Packet) : (s.setQueue q l).cp = s.cp := rfl
@[simp] theorem State.setQueue_pre (s : State) (q : Nat) (l : List Packet) : (s.setQueue q l).pre = s.pre := rfl
@[simp] theorem State.setQueue_sv (s : State) (q : Nat) (l : List Packet) : (s.setQueue q l).sv = s.sv := rfl
@[simp] theorem State.setQueue_ld (s : State) (q : Nat) (l : List Packet) : (s.setQueue q l).ld = s.ld := rfl
@[simp] theorem State.setQueue_tb (s : State) (q : Nat) (l : List Packet) : (s.setQueue q l).tb = s.tb := rfl
@[simp] theorem State.setQueue_lanes (s : State) (q : Nat) (l : List Packet) : (s.setQueue q l).lanes = s.lanes := rfl
@[simp] theorem State.setQueue_macs (s : State) (q : Nat) (l : List Packet) : (s.setQueue q l).macs = s.macs := rfl
@[simp] theorem State.setQueue_cx (s : State) (q : Nat) (l : List Packet) : (s.setQueue q l).cx = s.cx := rfl
@[simp] theorem State.setQueue_fib (s : State) (q : Nat) (l : List Packet) : (s.setQueue q l).fib = s.fib := rfl
@[simp] theorem State.setQueue_hbm (s : State) (q : Nat) (l : List Packet) : (s.setQueue q l).hbm = s.hbm := rfl
@[simp] theorem State.setQueue_base (s : State) (q : Nat) (l : List Packet) : (s.setQueue q l).base = s.base := rfl
@[simp] theorem State.setQueue_save (s : State) (q : Nat) (l : List Packet) : (s.setQueue q l).save = s.save := rfl

@[simp] theorem State.setQstat_pending (s : State) (q : Nat) (x : QueueStat) : (s.setQstat q x).pending = s.pending := rfl
@[simp] theorem State.setQstat_regs (s : State) (q : Nat) (x : QueueStat) : (s.setQstat q x).regs = s.regs := rfl
@[simp] theorem State.setQstat_latched (s : State) (q : Nat) (x : QueueStat) : (s.setQstat q x).latched = s.latched := rfl
@[simp] theorem State.setQstat_lowHalf (s : State) (q : Nat) (x : QueueStat) : (s.setQstat q x).lowHalf = s.lowHalf := rfl
@[simp] theorem State.setQstat_draws (s : State) (q : Nat) (x : QueueStat) : (s.setQstat q x).draws = s.draws := rfl
@[simp] theorem State.setQstat_outs (s : State) (q : Nat) (x : QueueStat) : (s.setQstat q x).outs = s.outs := rfl
@[simp] theorem State.setQstat_boot (s : State) (q : Nat) (x : QueueStat) : (s.setQstat q x).boot = s.boot := rfl
@[simp] theorem State.setQstat_pow (s : State) (q : Nat) (x : QueueStat) : (s.setQstat q x).pow = s.pow := rfl
@[simp] theorem State.setQstat_cp (s : State) (q : Nat) (x : QueueStat) : (s.setQstat q x).cp = s.cp := rfl
@[simp] theorem State.setQstat_pre (s : State) (q : Nat) (x : QueueStat) : (s.setQstat q x).pre = s.pre := rfl
@[simp] theorem State.setQstat_sv (s : State) (q : Nat) (x : QueueStat) : (s.setQstat q x).sv = s.sv := rfl
@[simp] theorem State.setQstat_ld (s : State) (q : Nat) (x : QueueStat) : (s.setQstat q x).ld = s.ld := rfl
@[simp] theorem State.setQstat_tb (s : State) (q : Nat) (x : QueueStat) : (s.setQstat q x).tb = s.tb := rfl
@[simp] theorem State.setQstat_lanes (s : State) (q : Nat) (x : QueueStat) : (s.setQstat q x).lanes = s.lanes := rfl
@[simp] theorem State.setQstat_macs (s : State) (q : Nat) (x : QueueStat) : (s.setQstat q x).macs = s.macs := rfl
@[simp] theorem State.setQstat_cx (s : State) (q : Nat) (x : QueueStat) : (s.setQstat q x).cx = s.cx := rfl
@[simp] theorem State.setQstat_fib (s : State) (q : Nat) (x : QueueStat) : (s.setQstat q x).fib = s.fib := rfl
@[simp] theorem State.setQstat_hbm (s : State) (q : Nat) (x : QueueStat) : (s.setQstat q x).hbm = s.hbm := rfl
@[simp] theorem State.setQstat_base (s : State) (q : Nat) (x : QueueStat) : (s.setQstat q x).base = s.base := rfl
@[simp] theorem State.setQstat_save (s : State) (q : Nat) (x : QueueStat) : (s.setQstat q x).save = s.save := rfl

@[simp] theorem State.setShaper_pending (s : State) (k : Nat) (h : Shaper) : (s.setShaper k h).pending = s.pending := rfl
@[simp] theorem State.setShaper_regs (s : State) (k : Nat) (h : Shaper) : (s.setShaper k h).regs = s.regs := rfl
@[simp] theorem State.setShaper_latched (s : State) (k : Nat) (h : Shaper) : (s.setShaper k h).latched = s.latched := rfl
@[simp] theorem State.setShaper_lowHalf (s : State) (k : Nat) (h : Shaper) : (s.setShaper k h).lowHalf = s.lowHalf := rfl
@[simp] theorem State.setShaper_draws (s : State) (k : Nat) (h : Shaper) : (s.setShaper k h).draws = s.draws := rfl
@[simp] theorem State.setShaper_outs (s : State) (k : Nat) (h : Shaper) : (s.setShaper k h).outs = s.outs := rfl
@[simp] theorem State.setShaper_boot (s : State) (k : Nat) (h : Shaper) : (s.setShaper k h).boot = s.boot := rfl
@[simp] theorem State.setShaper_pow (s : State) (k : Nat) (h : Shaper) : (s.setShaper k h).pow = s.pow := rfl
@[simp] theorem State.setShaper_cp (s : State) (k : Nat) (h : Shaper) : (s.setShaper k h).cp = s.cp := rfl
@[simp] theorem State.setShaper_pre (s : State) (k : Nat) (h : Shaper) : (s.setShaper k h).pre = s.pre := rfl
@[simp] theorem State.setShaper_sv (s : State) (k : Nat) (h : Shaper) : (s.setShaper k h).sv = s.sv := rfl
@[simp] theorem State.setShaper_ld (s : State) (k : Nat) (h : Shaper) : (s.setShaper k h).ld = s.ld := rfl
@[simp] theorem State.setShaper_tb (s : State) (k : Nat) (h : Shaper) : (s.setShaper k h).tb = s.tb := rfl
@[simp] theorem State.setShaper_lanes (s : State) (k : Nat) (h : Shaper) : (s.setShaper k h).lanes = s.lanes := rfl
@[simp] theorem State.setShaper_macs (s : State) (k : Nat) (h : Shaper) : (s.setShaper k h).macs = s.macs := rfl
@[simp] theorem State.setShaper_cx (s : State) (k : Nat) (h : Shaper) : (s.setShaper k h).cx = s.cx := rfl
@[simp] theorem State.setShaper_fib (s : State) (k : Nat) (h : Shaper) : (s.setShaper k h).fib = s.fib := rfl
@[simp] theorem State.setShaper_hbm (s : State) (k : Nat) (h : Shaper) : (s.setShaper k h).hbm = s.hbm := rfl
@[simp] theorem State.setShaper_base (s : State) (k : Nat) (h : Shaper) : (s.setShaper k h).base = s.base := rfl
@[simp] theorem State.setShaper_save (s : State) (k : Nat) (h : Shaper) : (s.setShaper k h).save = s.save := rfl

@[simp] theorem State.setLedger_pending (s : State) (c : Nat) (e : Ledger) : (s.setLedger c e).pending = s.pending := rfl
@[simp] theorem State.setLedger_regs (s : State) (c : Nat) (e : Ledger) : (s.setLedger c e).regs = s.regs := rfl
@[simp] theorem State.setLedger_latched (s : State) (c : Nat) (e : Ledger) : (s.setLedger c e).latched = s.latched := rfl
@[simp] theorem State.setLedger_lowHalf (s : State) (c : Nat) (e : Ledger) : (s.setLedger c e).lowHalf = s.lowHalf := rfl
@[simp] theorem State.setLedger_draws (s : State) (c : Nat) (e : Ledger) : (s.setLedger c e).draws = s.draws := rfl
@[simp] theorem State.setLedger_outs (s : State) (c : Nat) (e : Ledger) : (s.setLedger c e).outs = s.outs := rfl
@[simp] theorem State.setLedger_boot (s : State) (c : Nat) (e : Ledger) : (s.setLedger c e).boot = s.boot := rfl
@[simp] theorem State.setLedger_pow (s : State) (c : Nat) (e : Ledger) : (s.setLedger c e).pow = s.pow := rfl
@[simp] theorem State.setLedger_cp (s : State) (c : Nat) (e : Ledger) : (s.setLedger c e).cp = s.cp := rfl
@[simp] theorem State.setLedger_pre (s : State) (c : Nat) (e : Ledger) : (s.setLedger c e).pre = s.pre := rfl
@[simp] theorem State.setLedger_sv (s : State) (c : Nat) (e : Ledger) : (s.setLedger c e).sv = s.sv := rfl
@[simp] theorem State.setLedger_tm (s : State) (c : Nat) (e : Ledger) : (s.setLedger c e).tm = s.tm := rfl
@[simp] theorem State.setLedger_tb (s : State) (c : Nat) (e : Ledger) : (s.setLedger c e).tb = s.tb := rfl
@[simp] theorem State.setLedger_lanes (s : State) (c : Nat) (e : Ledger) : (s.setLedger c e).lanes = s.lanes := rfl
@[simp] theorem State.setLedger_macs (s : State) (c : Nat) (e : Ledger) : (s.setLedger c e).macs = s.macs := rfl
@[simp] theorem State.setLedger_cx (s : State) (c : Nat) (e : Ledger) : (s.setLedger c e).cx = s.cx := rfl
@[simp] theorem State.setLedger_fib (s : State) (c : Nat) (e : Ledger) : (s.setLedger c e).fib = s.fib := rfl
@[simp] theorem State.setLedger_hbm (s : State) (c : Nat) (e : Ledger) : (s.setLedger c e).hbm = s.hbm := rfl
@[simp] theorem State.setLedger_base (s : State) (c : Nat) (e : Ledger) : (s.setLedger c e).base = s.base := rfl
@[simp] theorem State.setLedger_save (s : State) (c : Nat) (e : Ledger) : (s.setLedger c e).save = s.save := rfl

@[simp] theorem State.setFlist_pending (s : State) (p st : Nat) (l : FreeList) : (s.setFlist p st l).pending = s.pending := rfl
@[simp] theorem State.setFlist_regs (s : State) (p st : Nat) (l : FreeList) : (s.setFlist p st l).regs = s.regs := rfl
@[simp] theorem State.setFlist_latched (s : State) (p st : Nat) (l : FreeList) : (s.setFlist p st l).latched = s.latched := rfl
@[simp] theorem State.setFlist_lowHalf (s : State) (p st : Nat) (l : FreeList) : (s.setFlist p st l).lowHalf = s.lowHalf := rfl
@[simp] theorem State.setFlist_draws (s : State) (p st : Nat) (l : FreeList) : (s.setFlist p st l).draws = s.draws := rfl
@[simp] theorem State.setFlist_outs (s : State) (p st : Nat) (l : FreeList) : (s.setFlist p st l).outs = s.outs := rfl
@[simp] theorem State.setFlist_boot (s : State) (p st : Nat) (l : FreeList) : (s.setFlist p st l).boot = s.boot := rfl
@[simp] theorem State.setFlist_pow (s : State) (p st : Nat) (l : FreeList) : (s.setFlist p st l).pow = s.pow := rfl
@[simp] theorem State.setFlist_cp (s : State) (p st : Nat) (l : FreeList) : (s.setFlist p st l).cp = s.cp := rfl
@[simp] theorem State.setFlist_pre (s : State) (p st : Nat) (l : FreeList) : (s.setFlist p st l).pre = s.pre := rfl
@[simp] theorem State.setFlist_sv (s : State) (p st : Nat) (l : FreeList) : (s.setFlist p st l).sv = s.sv := rfl
@[simp] theorem State.setFlist_tm (s : State) (p st : Nat) (l : FreeList) : (s.setFlist p st l).tm = s.tm := rfl
@[simp] theorem State.setFlist_tb (s : State) (p st : Nat) (l : FreeList) : (s.setFlist p st l).tb = s.tb := rfl
@[simp] theorem State.setFlist_lanes (s : State) (p st : Nat) (l : FreeList) : (s.setFlist p st l).lanes = s.lanes := rfl
@[simp] theorem State.setFlist_macs (s : State) (p st : Nat) (l : FreeList) : (s.setFlist p st l).macs = s.macs := rfl
@[simp] theorem State.setFlist_cx (s : State) (p st : Nat) (l : FreeList) : (s.setFlist p st l).cx = s.cx := rfl
@[simp] theorem State.setFlist_fib (s : State) (p st : Nat) (l : FreeList) : (s.setFlist p st l).fib = s.fib := rfl
@[simp] theorem State.setFlist_hbm (s : State) (p st : Nat) (l : FreeList) : (s.setFlist p st l).hbm = s.hbm := rfl
@[simp] theorem State.setFlist_base (s : State) (p st : Nat) (l : FreeList) : (s.setFlist p st l).base = s.base := rfl
@[simp] theorem State.setFlist_save (s : State) (p st : Nat) (l : FreeList) : (s.setFlist p st l).save = s.save := rfl

@[simp] theorem State.setUsed_pending (s : State) (r p n : Nat) : (s.setUsed r p n).pending = s.pending := rfl
@[simp] theorem State.setUsed_regs (s : State) (r p n : Nat) : (s.setUsed r p n).regs = s.regs := rfl
@[simp] theorem State.setUsed_latched (s : State) (r p n : Nat) : (s.setUsed r p n).latched = s.latched := rfl
@[simp] theorem State.setUsed_lowHalf (s : State) (r p n : Nat) : (s.setUsed r p n).lowHalf = s.lowHalf := rfl
@[simp] theorem State.setUsed_draws (s : State) (r p n : Nat) : (s.setUsed r p n).draws = s.draws := rfl
@[simp] theorem State.setUsed_outs (s : State) (r p n : Nat) : (s.setUsed r p n).outs = s.outs := rfl
@[simp] theorem State.setUsed_boot (s : State) (r p n : Nat) : (s.setUsed r p n).boot = s.boot := rfl
@[simp] theorem State.setUsed_pow (s : State) (r p n : Nat) : (s.setUsed r p n).pow = s.pow := rfl
@[simp] theorem State.setUsed_cp (s : State) (r p n : Nat) : (s.setUsed r p n).cp = s.cp := rfl
@[simp] theorem State.setUsed_pre (s : State) (r p n : Nat) : (s.setUsed r p n).pre = s.pre := rfl
@[simp] theorem State.setUsed_sv (s : State) (r p n : Nat) : (s.setUsed r p n).sv = s.sv := rfl
@[simp] theorem State.setUsed_tm (s : State) (r p n : Nat) : (s.setUsed r p n).tm = s.tm := rfl
@[simp] theorem State.setUsed_tb (s : State) (r p n : Nat) : (s.setUsed r p n).tb = s.tb := rfl
@[simp] theorem State.setUsed_lanes (s : State) (r p n : Nat) : (s.setUsed r p n).lanes = s.lanes := rfl
@[simp] theorem State.setUsed_macs (s : State) (r p n : Nat) : (s.setUsed r p n).macs = s.macs := rfl
@[simp] theorem State.setUsed_cx (s : State) (r p n : Nat) : (s.setUsed r p n).cx = s.cx := rfl
@[simp] theorem State.setUsed_fib (s : State) (r p n : Nat) : (s.setUsed r p n).fib = s.fib := rfl
@[simp] theorem State.setUsed_hbm (s : State) (r p n : Nat) : (s.setUsed r p n).hbm = s.hbm := rfl
@[simp] theorem State.setUsed_base (s : State) (r p n : Nat) : (s.setUsed r p n).base = s.base := rfl
@[simp] theorem State.setUsed_save (s : State) (r p n : Nat) : (s.setUsed r p n).save = s.save := rfl

@[simp] theorem State.hbmWrite_pending (s : State) (part o : Nat) (b : List Byte) : (s.hbmWrite part o b).pending = s.pending := rfl
@[simp] theorem State.hbmWrite_regs (s : State) (part o : Nat) (b : List Byte) : (s.hbmWrite part o b).regs = s.regs := rfl
@[simp] theorem State.hbmWrite_latched (s : State) (part o : Nat) (b : List Byte) : (s.hbmWrite part o b).latched = s.latched := rfl
@[simp] theorem State.hbmWrite_lowHalf (s : State) (part o : Nat) (b : List Byte) : (s.hbmWrite part o b).lowHalf = s.lowHalf := rfl
@[simp] theorem State.hbmWrite_draws (s : State) (part o : Nat) (b : List Byte) : (s.hbmWrite part o b).draws = s.draws := rfl
@[simp] theorem State.hbmWrite_outs (s : State) (part o : Nat) (b : List Byte) : (s.hbmWrite part o b).outs = s.outs := rfl
@[simp] theorem State.hbmWrite_boot (s : State) (part o : Nat) (b : List Byte) : (s.hbmWrite part o b).boot = s.boot := rfl
@[simp] theorem State.hbmWrite_pow (s : State) (part o : Nat) (b : List Byte) : (s.hbmWrite part o b).pow = s.pow := rfl
@[simp] theorem State.hbmWrite_cp (s : State) (part o : Nat) (b : List Byte) : (s.hbmWrite part o b).cp = s.cp := rfl
@[simp] theorem State.hbmWrite_pre (s : State) (part o : Nat) (b : List Byte) : (s.hbmWrite part o b).pre = s.pre := rfl
@[simp] theorem State.hbmWrite_sv (s : State) (part o : Nat) (b : List Byte) : (s.hbmWrite part o b).sv = s.sv := rfl
@[simp] theorem State.hbmWrite_ld (s : State) (part o : Nat) (b : List Byte) : (s.hbmWrite part o b).ld = s.ld := rfl
@[simp] theorem State.hbmWrite_tm (s : State) (part o : Nat) (b : List Byte) : (s.hbmWrite part o b).tm = s.tm := rfl
@[simp] theorem State.hbmWrite_tb (s : State) (part o : Nat) (b : List Byte) : (s.hbmWrite part o b).tb = s.tb := rfl
@[simp] theorem State.hbmWrite_lanes (s : State) (part o : Nat) (b : List Byte) : (s.hbmWrite part o b).lanes = s.lanes := rfl
@[simp] theorem State.hbmWrite_macs (s : State) (part o : Nat) (b : List Byte) : (s.hbmWrite part o b).macs = s.macs := rfl
@[simp] theorem State.hbmWrite_cx (s : State) (part o : Nat) (b : List Byte) : (s.hbmWrite part o b).cx = s.cx := rfl
@[simp] theorem State.hbmWrite_fib (s : State) (part o : Nat) (b : List Byte) : (s.hbmWrite part o b).fib = s.fib := rfl
@[simp] theorem State.hbmWrite_base (s : State) (part o : Nat) (b : List Byte) : (s.hbmWrite part o b).base = s.base := rfl
@[simp] theorem State.hbmWrite_save (s : State) (part o : Nat) (b : List Byte) : (s.hbmWrite part o b).save = s.save := rfl

@[simp] theorem State.setChan_pending (s : State) (n : Nat) (x : Channel) : (s.setChan n x).pending = s.pending := rfl
@[simp] theorem State.setChan_regs (s : State) (n : Nat) (x : Channel) : (s.setChan n x).regs = s.regs := rfl
@[simp] theorem State.setChan_latched (s : State) (n : Nat) (x : Channel) : (s.setChan n x).latched = s.latched := rfl
@[simp] theorem State.setChan_lowHalf (s : State) (n : Nat) (x : Channel) : (s.setChan n x).lowHalf = s.lowHalf := rfl
@[simp] theorem State.setChan_draws (s : State) (n : Nat) (x : Channel) : (s.setChan n x).draws = s.draws := rfl
@[simp] theorem State.setChan_outs (s : State) (n : Nat) (x : Channel) : (s.setChan n x).outs = s.outs := rfl
@[simp] theorem State.setChan_boot (s : State) (n : Nat) (x : Channel) : (s.setChan n x).boot = s.boot := rfl
@[simp] theorem State.setChan_pow (s : State) (n : Nat) (x : Channel) : (s.setChan n x).pow = s.pow := rfl
@[simp] theorem State.setChan_cp (s : State) (n : Nat) (x : Channel) : (s.setChan n x).cp = s.cp := rfl
@[simp] theorem State.setChan_pre (s : State) (n : Nat) (x : Channel) : (s.setChan n x).pre = s.pre := rfl
@[simp] theorem State.setChan_sv (s : State) (n : Nat) (x : Channel) : (s.setChan n x).sv = s.sv := rfl
@[simp] theorem State.setChan_ld (s : State) (n : Nat) (x : Channel) : (s.setChan n x).ld = s.ld := rfl
@[simp] theorem State.setChan_tm (s : State) (n : Nat) (x : Channel) : (s.setChan n x).tm = s.tm := rfl
@[simp] theorem State.setChan_tb (s : State) (n : Nat) (x : Channel) : (s.setChan n x).tb = s.tb := rfl
@[simp] theorem State.setChan_lanes (s : State) (n : Nat) (x : Channel) : (s.setChan n x).lanes = s.lanes := rfl
@[simp] theorem State.setChan_macs (s : State) (n : Nat) (x : Channel) : (s.setChan n x).macs = s.macs := rfl
@[simp] theorem State.setChan_cx (s : State) (n : Nat) (x : Channel) : (s.setChan n x).cx = s.cx := rfl
@[simp] theorem State.setChan_hbm (s : State) (n : Nat) (x : Channel) : (s.setChan n x).hbm = s.hbm := rfl
@[simp] theorem State.setChan_base (s : State) (n : Nat) (x : Channel) : (s.setChan n x).base = s.base := rfl
@[simp] theorem State.setChan_save (s : State) (n : Nat) (x : Channel) : (s.setChan n x).save = s.save := rfl

@[simp] theorem State.dataVote_pending (s : State) (d : Nat) (cast : Bool) : (s.dataVote d cast).pending = s.pending := rfl
@[simp] theorem State.dataVote_regs (s : State) (d : Nat) (cast : Bool) : (s.dataVote d cast).regs = s.regs := rfl
@[simp] theorem State.dataVote_latched (s : State) (d : Nat) (cast : Bool) : (s.dataVote d cast).latched = s.latched := rfl
@[simp] theorem State.dataVote_lowHalf (s : State) (d : Nat) (cast : Bool) : (s.dataVote d cast).lowHalf = s.lowHalf := rfl
@[simp] theorem State.dataVote_draws (s : State) (d : Nat) (cast : Bool) : (s.dataVote d cast).draws = s.draws := rfl
@[simp] theorem State.dataVote_outs (s : State) (d : Nat) (cast : Bool) : (s.dataVote d cast).outs = s.outs := rfl
@[simp] theorem State.dataVote_boot (s : State) (d : Nat) (cast : Bool) : (s.dataVote d cast).boot = s.boot := rfl
@[simp] theorem State.dataVote_cp (s : State) (d : Nat) (cast : Bool) : (s.dataVote d cast).cp = s.cp := rfl
@[simp] theorem State.dataVote_pre (s : State) (d : Nat) (cast : Bool) : (s.dataVote d cast).pre = s.pre := rfl
@[simp] theorem State.dataVote_sv (s : State) (d : Nat) (cast : Bool) : (s.dataVote d cast).sv = s.sv := rfl
@[simp] theorem State.dataVote_ld (s : State) (d : Nat) (cast : Bool) : (s.dataVote d cast).ld = s.ld := rfl
@[simp] theorem State.dataVote_tm (s : State) (d : Nat) (cast : Bool) : (s.dataVote d cast).tm = s.tm := rfl
@[simp] theorem State.dataVote_tb (s : State) (d : Nat) (cast : Bool) : (s.dataVote d cast).tb = s.tb := rfl
@[simp] theorem State.dataVote_lanes (s : State) (d : Nat) (cast : Bool) : (s.dataVote d cast).lanes = s.lanes := rfl
@[simp] theorem State.dataVote_macs (s : State) (d : Nat) (cast : Bool) : (s.dataVote d cast).macs = s.macs := rfl
@[simp] theorem State.dataVote_cx (s : State) (d : Nat) (cast : Bool) : (s.dataVote d cast).cx = s.cx := rfl
@[simp] theorem State.dataVote_fib (s : State) (d : Nat) (cast : Bool) : (s.dataVote d cast).fib = s.fib := rfl
@[simp] theorem State.dataVote_hbm (s : State) (d : Nat) (cast : Bool) : (s.dataVote d cast).hbm = s.hbm := rfl
@[simp] theorem State.dataVote_base (s : State) (d : Nat) (cast : Bool) : (s.dataVote d cast).base = s.base := rfl
@[simp] theorem State.dataVote_save (s : State) (d : Nat) (cast : Bool) : (s.dataVote d cast).save = s.save := rfl

@[simp] theorem State.kettleVote_pending (s : State) (d b : Nat) (cast : Bool) : (s.kettleVote d b cast).pending = s.pending := rfl
@[simp] theorem State.kettleVote_regs (s : State) (d b : Nat) (cast : Bool) : (s.kettleVote d b cast).regs = s.regs := rfl
@[simp] theorem State.kettleVote_latched (s : State) (d b : Nat) (cast : Bool) : (s.kettleVote d b cast).latched = s.latched := rfl
@[simp] theorem State.kettleVote_lowHalf (s : State) (d b : Nat) (cast : Bool) : (s.kettleVote d b cast).lowHalf = s.lowHalf := rfl
@[simp] theorem State.kettleVote_draws (s : State) (d b : Nat) (cast : Bool) : (s.kettleVote d b cast).draws = s.draws := rfl
@[simp] theorem State.kettleVote_outs (s : State) (d b : Nat) (cast : Bool) : (s.kettleVote d b cast).outs = s.outs := rfl
@[simp] theorem State.kettleVote_boot (s : State) (d b : Nat) (cast : Bool) : (s.kettleVote d b cast).boot = s.boot := rfl
@[simp] theorem State.kettleVote_cp (s : State) (d b : Nat) (cast : Bool) : (s.kettleVote d b cast).cp = s.cp := rfl
@[simp] theorem State.kettleVote_pre (s : State) (d b : Nat) (cast : Bool) : (s.kettleVote d b cast).pre = s.pre := rfl
@[simp] theorem State.kettleVote_sv (s : State) (d b : Nat) (cast : Bool) : (s.kettleVote d b cast).sv = s.sv := rfl
@[simp] theorem State.kettleVote_ld (s : State) (d b : Nat) (cast : Bool) : (s.kettleVote d b cast).ld = s.ld := rfl
@[simp] theorem State.kettleVote_tm (s : State) (d b : Nat) (cast : Bool) : (s.kettleVote d b cast).tm = s.tm := rfl
@[simp] theorem State.kettleVote_tb (s : State) (d b : Nat) (cast : Bool) : (s.kettleVote d b cast).tb = s.tb := rfl
@[simp] theorem State.kettleVote_lanes (s : State) (d b : Nat) (cast : Bool) : (s.kettleVote d b cast).lanes = s.lanes := rfl
@[simp] theorem State.kettleVote_macs (s : State) (d b : Nat) (cast : Bool) : (s.kettleVote d b cast).macs = s.macs := rfl
@[simp] theorem State.kettleVote_cx (s : State) (d b : Nat) (cast : Bool) : (s.kettleVote d b cast).cx = s.cx := rfl
@[simp] theorem State.kettleVote_fib (s : State) (d b : Nat) (cast : Bool) : (s.kettleVote d b cast).fib = s.fib := rfl
@[simp] theorem State.kettleVote_hbm (s : State) (d b : Nat) (cast : Bool) : (s.kettleVote d b cast).hbm = s.hbm := rfl
@[simp] theorem State.kettleVote_base (s : State) (d b : Nat) (cast : Bool) : (s.kettleVote d b cast).base = s.base := rfl
@[simp] theorem State.kettleVote_save (s : State) (d b : Nat) (cast : Bool) : (s.kettleVote d b cast).save = s.save := rfl

/-! ## Contexts, engines and gate sequencers -/

theorem State.ctx_setCtx (s : State) (c d : Nat) (x : Ctx) : (s.setCtx c x).ctx d = if d = c then x else s.ctx d := by
  simp [State.ctx, State.setCtx, Tab.get_set]

@[simp] theorem State.ctx_setCtx_self (s : State) (c : Nat) (x : Ctx) : (s.setCtx c x).ctx c = x := by simp [State.ctx_setCtx]

theorem State.eng_setEng (s : State) (e d : Nat) (x : Eng) : (s.setEng e x).eng d = if d = e then x else s.eng d := by
  simp [State.eng, State.setEng, Tab.get_set]

@[simp] theorem State.eng_setEng_self (s : State) (e : Nat) (x : Eng) : (s.setEng e x).eng e = x := by simp [State.eng_setEng]

theorem State.gate_setGate (s : State) (p q : Nat) (x : GateSeq) : (s.setGate p x).gate q = if q = p then x else s.gate q := by
  simp [State.gate, State.setGate, Tab.get_set]

@[simp] theorem State.gate_setGate_self (s : State) (p : Nat) (x : GateSeq) : (s.setGate p x).gate p = x := by simp [State.gate_setGate]

@[simp] theorem State.ctx_setEng (s : State) (e c : Nat) (x : Eng) : (s.setEng e x).ctx c = s.ctx c := rfl

@[simp] theorem State.ctx_setGate (s : State) (p c : Nat) (x : GateSeq) : (s.setGate p x).ctx c = s.ctx c := rfl

@[simp] theorem State.eng_setCtx (s : State) (c e : Nat) (x : Ctx) : (s.setCtx c x).eng e = s.eng e := rfl

@[simp] theorem State.eng_setGate (s : State) (p e : Nat) (x : GateSeq) : (s.setGate p x).eng e = s.eng e := rfl

@[simp] theorem State.gate_setCtx (s : State) (c p : Nat) (x : Ctx) : (s.setCtx c x).gate p = s.gate p := rfl

@[simp] theorem State.gate_setEng (s : State) (e p : Nat) (x : Eng) : (s.setEng e x).gate p = s.gate p := rfl

@[simp] theorem State.ctx_wrReg (s : State) (r : Reg) (v : Quad) (i k c : Nat) : (s.wrReg r v i k).ctx c = s.ctx c := rfl

@[simp] theorem State.eng_wrReg (s : State) (r : Reg) (v : Quad) (i k e : Nat) : (s.wrReg r v i k).eng e = s.eng e := rfl

@[simp] theorem State.gate_wrReg (s : State) (r : Reg) (v : Quad) (i k p : Nat) : (s.wrReg r v i k).gate p = s.gate p := rfl

/-! ## Registers -/

@[simp] theorem State.rdReg_setCtx (s : State) (c : Nat) (x : Ctx) (r : Reg) (i k : Nat) : (s.setCtx c x).rdReg r i k = s.rdReg r i k := rfl

@[simp] theorem State.rdReg_setEng (s : State) (e : Nat) (x : Eng) (r : Reg) (i k : Nat) : (s.setEng e x).rdReg r i k = s.rdReg r i k := rfl

@[simp] theorem State.rdReg_setGate (s : State) (p : Nat) (x : GateSeq) (r : Reg) (i k : Nat) : (s.setGate p x).rdReg r i k = s.rdReg r i k := rfl

@[simp] theorem State.rd_setCtx (s : State) (c : Nat) (x : Ctx) (f : Fld) (i k : Nat) : (s.setCtx c x).rd f i k = s.rd f i k := rfl

@[simp] theorem State.rd_setEng (s : State) (e : Nat) (x : Eng) (f : Fld) (i k : Nat) : (s.setEng e x).rd f i k = s.rd f i k := rfl

@[simp] theorem State.rd_setGate (s : State) (p : Nat) (x : GateSeq) (f : Fld) (i k : Nat) : (s.setGate p x).rd f i k = s.rd f i k := rfl

/-- A register reads as the value just written to it. -/
@[simp] theorem State.rdReg_wrReg_self (s : State) (r : Reg) (v : Quad) (i k : Nat) : (s.wrReg r v i k).rdReg r i k = v := by
  simp [State.rdReg, State.wrReg]

/-- A write of a register leaves every register with another key alone. -/
theorem State.rdReg_wrReg_other (s : State) (r q : Reg) (v : Quad) (i k j m : Nat) (h : q.key j m ≠ r.key i k) :
    (s.wrReg r v i k).rdReg q j m = s.rdReg q j m := by
  have hset : ∀ d : Quad, Tab.get (Tab.set s.regs (BitVec.ofNat 64 (r.reset i k)) (r.key i k) v) d (q.key j m) = Tab.get s.regs d (q.key j m) := by
    intro d
    by_cases hv : v = BitVec.ofNat 64 (r.reset i k)
    · simp [Tab.set, hv, Tab.get_del_other _ _ h]
    · simp [Tab.set, hv, Tab.get_ins_other _ _ _ h, Tab.get_del_other _ _ h]
  simp [State.rdReg, State.wrReg, hset]

/-- Registers, instances and elements have different keys. -/
theorem Reg.key_inj {r q : Reg} {i k j m : Nat} (hi : i < 4096) (hk : k < 4096) (hj : j < 4096) (hm : m < 4096)
    (h : r.key i k = q.key j m) : r.ctorIdx = q.ctorIdx ∧ i = j ∧ k = m := by
  unfold Reg.key at h
  omega

/-! ## General registers -/

@[simp] theorem Cpu.get_zero (x : Cpu) : x.get 0 = 0 := rfl

@[simp] theorem Cpu.put_zero (x : Cpu) (v : Quad) : x.put 0 v = x := rfl

/-- Reading a general register after a write of one (R36, R37). -/
theorem Cpu.get_put (x : Cpu) (r q : GReg) (v : Quad) :
    (x.put r v).get q = if q = 0 then 0 else if q = r then v else x.get q := by
  unfold Cpu.get Cpu.put
  by_cases hq : q = 0
  · rw [if_pos hq, if_pos hq]
  · rw [if_neg hq, if_neg hq]
    by_cases hr : r = 0
    · rw [if_pos hr, if_neg (fun e => hq (e.trans hr)), if_neg hq]
    · rw [if_neg hr]
      by_cases h : q = r
      · rw [if_pos h, h]
        exact Tab.get_set_self _ _ _ _
      · have hn : q.toNat ≠ r.toNat := fun e => h (BitVec.eq_of_toNat_eq e)
        rw [if_neg h, if_neg hq]
        exact Tab.get_set_other _ _ _ hn

@[simp] theorem Cpu.put_pc (x : Cpu) (r : GReg) (v : Quad) : (x.put r v).pc = x.pc := by
  unfold Cpu.put
  split <;> rfl

@[simp] theorem Cpu.put_ranOff (x : Cpu) (r : GReg) (v : Quad) : (x.put r v).ranOff = x.ranOff := by
  unfold Cpu.put
  split <;> rfl

@[simp] theorem Cpu.put_z (x : Cpu) (r : GReg) (v : Quad) : (x.put r v).z = x.z := by
  unfold Cpu.put
  split <;> rfl

@[simp] theorem Cpu.put_n (x : Cpu) (r : GReg) (v : Quad) : (x.put r v).n = x.n := by
  unfold Cpu.put
  split <;> rfl

@[simp] theorem Cpu.put_c (x : Cpu) (r : GReg) (v : Quad) : (x.put r v).c = x.c := by
  unfold Cpu.put
  split <;> rfl

@[simp] theorem Cpu.put_v (x : Cpu) (r : GReg) (v : Quad) : (x.put r v).v = x.v := by
  unfold Cpu.put
  split <;> rfl

@[simp] theorem State.setLane_pending (s : State) (p : Nat) (x : Lane) : (s.setLane p x).pending = s.pending := rfl
@[simp] theorem State.setLane_regs (s : State) (p : Nat) (x : Lane) : (s.setLane p x).regs = s.regs := rfl
@[simp] theorem State.setLane_latched (s : State) (p : Nat) (x : Lane) : (s.setLane p x).latched = s.latched := rfl
@[simp] theorem State.setLane_lowHalf (s : State) (p : Nat) (x : Lane) : (s.setLane p x).lowHalf = s.lowHalf := rfl
@[simp] theorem State.setLane_draws (s : State) (p : Nat) (x : Lane) : (s.setLane p x).draws = s.draws := rfl
@[simp] theorem State.setLane_outs (s : State) (p : Nat) (x : Lane) : (s.setLane p x).outs = s.outs := rfl
@[simp] theorem State.setLane_boot (s : State) (p : Nat) (x : Lane) : (s.setLane p x).boot = s.boot := rfl
@[simp] theorem State.setLane_pow (s : State) (p : Nat) (x : Lane) : (s.setLane p x).pow = s.pow := rfl
@[simp] theorem State.setLane_cp (s : State) (p : Nat) (x : Lane) : (s.setLane p x).cp = s.cp := rfl
@[simp] theorem State.setLane_pre (s : State) (p : Nat) (x : Lane) : (s.setLane p x).pre = s.pre := rfl
@[simp] theorem State.setLane_sv (s : State) (p : Nat) (x : Lane) : (s.setLane p x).sv = s.sv := rfl
@[simp] theorem State.setLane_ld (s : State) (p : Nat) (x : Lane) : (s.setLane p x).ld = s.ld := rfl
@[simp] theorem State.setLane_tm (s : State) (p : Nat) (x : Lane) : (s.setLane p x).tm = s.tm := rfl
@[simp] theorem State.setLane_tb (s : State) (p : Nat) (x : Lane) : (s.setLane p x).tb = s.tb := rfl
@[simp] theorem State.setLane_macs (s : State) (p : Nat) (x : Lane) : (s.setLane p x).macs = s.macs := rfl
@[simp] theorem State.setLane_cx (s : State) (p : Nat) (x : Lane) : (s.setLane p x).cx = s.cx := rfl
@[simp] theorem State.setLane_fib (s : State) (p : Nat) (x : Lane) : (s.setLane p x).fib = s.fib := rfl
@[simp] theorem State.setLane_base (s : State) (p : Nat) (x : Lane) : (s.setLane p x).base = s.base := rfl
@[simp] theorem State.setLane_hbm (s : State) (p : Nat) (x : Lane) : (s.setLane p x).hbm = s.hbm := rfl
@[simp] theorem State.setLane_save (s : State) (p : Nat) (x : Lane) : (s.setLane p x).save = s.save := rfl

@[simp] theorem State.setMac_pending (s : State) (p : Nat) (x : Mac) : (s.setMac p x).pending = s.pending := rfl
@[simp] theorem State.setMac_regs (s : State) (p : Nat) (x : Mac) : (s.setMac p x).regs = s.regs := rfl
@[simp] theorem State.setMac_latched (s : State) (p : Nat) (x : Mac) : (s.setMac p x).latched = s.latched := rfl
@[simp] theorem State.setMac_lowHalf (s : State) (p : Nat) (x : Mac) : (s.setMac p x).lowHalf = s.lowHalf := rfl
@[simp] theorem State.setMac_draws (s : State) (p : Nat) (x : Mac) : (s.setMac p x).draws = s.draws := rfl
@[simp] theorem State.setMac_outs (s : State) (p : Nat) (x : Mac) : (s.setMac p x).outs = s.outs := rfl
@[simp] theorem State.setMac_boot (s : State) (p : Nat) (x : Mac) : (s.setMac p x).boot = s.boot := rfl
@[simp] theorem State.setMac_pow (s : State) (p : Nat) (x : Mac) : (s.setMac p x).pow = s.pow := rfl
@[simp] theorem State.setMac_cp (s : State) (p : Nat) (x : Mac) : (s.setMac p x).cp = s.cp := rfl
@[simp] theorem State.setMac_pre (s : State) (p : Nat) (x : Mac) : (s.setMac p x).pre = s.pre := rfl
@[simp] theorem State.setMac_sv (s : State) (p : Nat) (x : Mac) : (s.setMac p x).sv = s.sv := rfl
@[simp] theorem State.setMac_ld (s : State) (p : Nat) (x : Mac) : (s.setMac p x).ld = s.ld := rfl
@[simp] theorem State.setMac_tm (s : State) (p : Nat) (x : Mac) : (s.setMac p x).tm = s.tm := rfl
@[simp] theorem State.setMac_tb (s : State) (p : Nat) (x : Mac) : (s.setMac p x).tb = s.tb := rfl
@[simp] theorem State.setMac_lanes (s : State) (p : Nat) (x : Mac) : (s.setMac p x).lanes = s.lanes := rfl
@[simp] theorem State.setMac_cx (s : State) (p : Nat) (x : Mac) : (s.setMac p x).cx = s.cx := rfl
@[simp] theorem State.setMac_fib (s : State) (p : Nat) (x : Mac) : (s.setMac p x).fib = s.fib := rfl
@[simp] theorem State.setMac_base (s : State) (p : Nat) (x : Mac) : (s.setMac p x).base = s.base := rfl
@[simp] theorem State.setMac_hbm (s : State) (p : Nat) (x : Mac) : (s.setMac p x).hbm = s.hbm := rfl
@[simp] theorem State.setMac_save (s : State) (p : Nat) (x : Mac) : (s.setMac p x).save = s.save := rfl

@[simp] theorem State.setExpress_pending (s : State) (p : Nat) (x : Express) : (s.setExpress p x).pending = s.pending := rfl
@[simp] theorem State.setExpress_regs (s : State) (p : Nat) (x : Express) : (s.setExpress p x).regs = s.regs := rfl
@[simp] theorem State.setExpress_latched (s : State) (p : Nat) (x : Express) : (s.setExpress p x).latched = s.latched := rfl
@[simp] theorem State.setExpress_lowHalf (s : State) (p : Nat) (x : Express) : (s.setExpress p x).lowHalf = s.lowHalf := rfl
@[simp] theorem State.setExpress_draws (s : State) (p : Nat) (x : Express) : (s.setExpress p x).draws = s.draws := rfl
@[simp] theorem State.setExpress_outs (s : State) (p : Nat) (x : Express) : (s.setExpress p x).outs = s.outs := rfl
@[simp] theorem State.setExpress_boot (s : State) (p : Nat) (x : Express) : (s.setExpress p x).boot = s.boot := rfl
@[simp] theorem State.setExpress_pow (s : State) (p : Nat) (x : Express) : (s.setExpress p x).pow = s.pow := rfl
@[simp] theorem State.setExpress_cp (s : State) (p : Nat) (x : Express) : (s.setExpress p x).cp = s.cp := rfl
@[simp] theorem State.setExpress_pre (s : State) (p : Nat) (x : Express) : (s.setExpress p x).pre = s.pre := rfl
@[simp] theorem State.setExpress_sv (s : State) (p : Nat) (x : Express) : (s.setExpress p x).sv = s.sv := rfl
@[simp] theorem State.setExpress_tm (s : State) (p : Nat) (x : Express) : (s.setExpress p x).tm = s.tm := rfl
@[simp] theorem State.setExpress_tb (s : State) (p : Nat) (x : Express) : (s.setExpress p x).tb = s.tb := rfl
@[simp] theorem State.setExpress_lanes (s : State) (p : Nat) (x : Express) : (s.setExpress p x).lanes = s.lanes := rfl
@[simp] theorem State.setExpress_macs (s : State) (p : Nat) (x : Express) : (s.setExpress p x).macs = s.macs := rfl
@[simp] theorem State.setExpress_cx (s : State) (p : Nat) (x : Express) : (s.setExpress p x).cx = s.cx := rfl
@[simp] theorem State.setExpress_fib (s : State) (p : Nat) (x : Express) : (s.setExpress p x).fib = s.fib := rfl
@[simp] theorem State.setExpress_base (s : State) (p : Nat) (x : Express) : (s.setExpress p x).base = s.base := rfl
@[simp] theorem State.setExpress_hbm (s : State) (p : Nat) (x : Express) : (s.setExpress p x).hbm = s.hbm := rfl
@[simp] theorem State.setExpress_save (s : State) (p : Nat) (x : Express) : (s.setExpress p x).save = s.save := rfl

@[simp] theorem State.putServo_pending (s : State) (v : Servo) : (s.putServo v).pending = s.pending := rfl
@[simp] theorem State.putServo_regs (s : State) (v : Servo) : (s.putServo v).regs = s.regs := rfl
@[simp] theorem State.putServo_latched (s : State) (v : Servo) : (s.putServo v).latched = s.latched := rfl
@[simp] theorem State.putServo_lowHalf (s : State) (v : Servo) : (s.putServo v).lowHalf = s.lowHalf := rfl
@[simp] theorem State.putServo_draws (s : State) (v : Servo) : (s.putServo v).draws = s.draws := rfl
@[simp] theorem State.putServo_outs (s : State) (v : Servo) : (s.putServo v).outs = s.outs := rfl
@[simp] theorem State.putServo_boot (s : State) (v : Servo) : (s.putServo v).boot = s.boot := rfl
@[simp] theorem State.putServo_pow (s : State) (v : Servo) : (s.putServo v).pow = s.pow := rfl
@[simp] theorem State.putServo_cp (s : State) (v : Servo) : (s.putServo v).cp = s.cp := rfl
@[simp] theorem State.putServo_pre (s : State) (v : Servo) : (s.putServo v).pre = s.pre := rfl
@[simp] theorem State.putServo_sv (s : State) (v : Servo) : (s.putServo v).sv = s.sv := rfl
@[simp] theorem State.putServo_ld (s : State) (v : Servo) : (s.putServo v).ld = s.ld := rfl
@[simp] theorem State.putServo_tm (s : State) (v : Servo) : (s.putServo v).tm = s.tm := rfl
@[simp] theorem State.putServo_tb (s : State) (v : Servo) : (s.putServo v).tb = s.tb := rfl
@[simp] theorem State.putServo_lanes (s : State) (v : Servo) : (s.putServo v).lanes = s.lanes := rfl
@[simp] theorem State.putServo_macs (s : State) (v : Servo) : (s.putServo v).macs = s.macs := rfl
@[simp] theorem State.putServo_cx (s : State) (v : Servo) : (s.putServo v).cx = s.cx := rfl
@[simp] theorem State.putServo_fib (s : State) (v : Servo) : (s.putServo v).fib = s.fib := rfl
@[simp] theorem State.putServo_hbm (s : State) (v : Servo) : (s.putServo v).hbm = s.hbm := rfl
@[simp] theorem State.putServo_save (s : State) (v : Servo) : (s.putServo v).save = s.save := rfl

@[simp] theorem State.putHo_pending (s : State) (h : Holdover) : (s.putHo h).pending = s.pending := rfl
@[simp] theorem State.putHo_regs (s : State) (h : Holdover) : (s.putHo h).regs = s.regs := rfl
@[simp] theorem State.putHo_latched (s : State) (h : Holdover) : (s.putHo h).latched = s.latched := rfl
@[simp] theorem State.putHo_lowHalf (s : State) (h : Holdover) : (s.putHo h).lowHalf = s.lowHalf := rfl
@[simp] theorem State.putHo_draws (s : State) (h : Holdover) : (s.putHo h).draws = s.draws := rfl
@[simp] theorem State.putHo_outs (s : State) (h : Holdover) : (s.putHo h).outs = s.outs := rfl
@[simp] theorem State.putHo_boot (s : State) (h : Holdover) : (s.putHo h).boot = s.boot := rfl
@[simp] theorem State.putHo_pow (s : State) (h : Holdover) : (s.putHo h).pow = s.pow := rfl
@[simp] theorem State.putHo_cp (s : State) (h : Holdover) : (s.putHo h).cp = s.cp := rfl
@[simp] theorem State.putHo_pre (s : State) (h : Holdover) : (s.putHo h).pre = s.pre := rfl
@[simp] theorem State.putHo_sv (s : State) (h : Holdover) : (s.putHo h).sv = s.sv := rfl
@[simp] theorem State.putHo_ld (s : State) (h : Holdover) : (s.putHo h).ld = s.ld := rfl
@[simp] theorem State.putHo_tm (s : State) (h : Holdover) : (s.putHo h).tm = s.tm := rfl
@[simp] theorem State.putHo_tb (s : State) (h : Holdover) : (s.putHo h).tb = s.tb := rfl
@[simp] theorem State.putHo_lanes (s : State) (h : Holdover) : (s.putHo h).lanes = s.lanes := rfl
@[simp] theorem State.putHo_macs (s : State) (h : Holdover) : (s.putHo h).macs = s.macs := rfl
@[simp] theorem State.putHo_cx (s : State) (h : Holdover) : (s.putHo h).cx = s.cx := rfl
@[simp] theorem State.putHo_fib (s : State) (h : Holdover) : (s.putHo h).fib = s.fib := rfl
@[simp] theorem State.putHo_hbm (s : State) (h : Holdover) : (s.putHo h).hbm = s.hbm := rfl
@[simp] theorem State.putHo_save (s : State) (h : Holdover) : (s.putHo h).save = s.save := rfl

@[simp] theorem State.putClock_pending (s : State) (k : Clock) : (s.putClock k).pending = s.pending := rfl
@[simp] theorem State.putClock_regs (s : State) (k : Clock) : (s.putClock k).regs = s.regs := rfl
@[simp] theorem State.putClock_latched (s : State) (k : Clock) : (s.putClock k).latched = s.latched := rfl
@[simp] theorem State.putClock_lowHalf (s : State) (k : Clock) : (s.putClock k).lowHalf = s.lowHalf := rfl
@[simp] theorem State.putClock_draws (s : State) (k : Clock) : (s.putClock k).draws = s.draws := rfl
@[simp] theorem State.putClock_outs (s : State) (k : Clock) : (s.putClock k).outs = s.outs := rfl
@[simp] theorem State.putClock_boot (s : State) (k : Clock) : (s.putClock k).boot = s.boot := rfl
@[simp] theorem State.putClock_pow (s : State) (k : Clock) : (s.putClock k).pow = s.pow := rfl
@[simp] theorem State.putClock_cp (s : State) (k : Clock) : (s.putClock k).cp = s.cp := rfl
@[simp] theorem State.putClock_pre (s : State) (k : Clock) : (s.putClock k).pre = s.pre := rfl
@[simp] theorem State.putClock_sv (s : State) (k : Clock) : (s.putClock k).sv = s.sv := rfl
@[simp] theorem State.putClock_ld (s : State) (k : Clock) : (s.putClock k).ld = s.ld := rfl
@[simp] theorem State.putClock_tm (s : State) (k : Clock) : (s.putClock k).tm = s.tm := rfl
@[simp] theorem State.putClock_tb (s : State) (k : Clock) : (s.putClock k).tb = s.tb := rfl
@[simp] theorem State.putClock_lanes (s : State) (k : Clock) : (s.putClock k).lanes = s.lanes := rfl
@[simp] theorem State.putClock_macs (s : State) (k : Clock) : (s.putClock k).macs = s.macs := rfl
@[simp] theorem State.putClock_cx (s : State) (k : Clock) : (s.putClock k).cx = s.cx := rfl
@[simp] theorem State.putClock_fib (s : State) (k : Clock) : (s.putClock k).fib = s.fib := rfl
@[simp] theorem State.putClock_hbm (s : State) (k : Clock) : (s.putClock k).hbm = s.hbm := rfl
@[simp] theorem State.putClock_save (s : State) (k : Clock) : (s.putClock k).save = s.save := rfl

@[simp] theorem State.keepAt_pending (s : State) (a : Nat) (b : List Byte) : (s.keepAt a b).pending = s.pending := rfl
@[simp] theorem State.keepAt_regs (s : State) (a : Nat) (b : List Byte) : (s.keepAt a b).regs = s.regs := rfl
@[simp] theorem State.keepAt_latched (s : State) (a : Nat) (b : List Byte) : (s.keepAt a b).latched = s.latched := rfl
@[simp] theorem State.keepAt_lowHalf (s : State) (a : Nat) (b : List Byte) : (s.keepAt a b).lowHalf = s.lowHalf := rfl
@[simp] theorem State.keepAt_draws (s : State) (a : Nat) (b : List Byte) : (s.keepAt a b).draws = s.draws := rfl
@[simp] theorem State.keepAt_outs (s : State) (a : Nat) (b : List Byte) : (s.keepAt a b).outs = s.outs := rfl
@[simp] theorem State.keepAt_boot (s : State) (a : Nat) (b : List Byte) : (s.keepAt a b).boot = s.boot := rfl
@[simp] theorem State.keepAt_pow (s : State) (a : Nat) (b : List Byte) : (s.keepAt a b).pow = s.pow := rfl
@[simp] theorem State.keepAt_cp (s : State) (a : Nat) (b : List Byte) : (s.keepAt a b).cp = s.cp := rfl
@[simp] theorem State.keepAt_pre (s : State) (a : Nat) (b : List Byte) : (s.keepAt a b).pre = s.pre := rfl
@[simp] theorem State.keepAt_sv (s : State) (a : Nat) (b : List Byte) : (s.keepAt a b).sv = s.sv := rfl
@[simp] theorem State.keepAt_ld (s : State) (a : Nat) (b : List Byte) : (s.keepAt a b).ld = s.ld := rfl
@[simp] theorem State.keepAt_tm (s : State) (a : Nat) (b : List Byte) : (s.keepAt a b).tm = s.tm := rfl
@[simp] theorem State.keepAt_tb (s : State) (a : Nat) (b : List Byte) : (s.keepAt a b).tb = s.tb := rfl
@[simp] theorem State.keepAt_lanes (s : State) (a : Nat) (b : List Byte) : (s.keepAt a b).lanes = s.lanes := rfl
@[simp] theorem State.keepAt_macs (s : State) (a : Nat) (b : List Byte) : (s.keepAt a b).macs = s.macs := rfl
@[simp] theorem State.keepAt_cx (s : State) (a : Nat) (b : List Byte) : (s.keepAt a b).cx = s.cx := rfl
@[simp] theorem State.keepAt_fib (s : State) (a : Nat) (b : List Byte) : (s.keepAt a b).fib = s.fib := rfl
@[simp] theorem State.keepAt_base (s : State) (a : Nat) (b : List Byte) : (s.keepAt a b).base = s.base := rfl
@[simp] theorem State.keepAt_hbm (s : State) (a : Nat) (b : List Byte) : (s.keepAt a b).hbm = s.hbm := rfl

@[simp] theorem State.putServo_servo (s : State) (v : Servo) : (s.putServo v).base.servo = v := rfl
@[simp] theorem State.putHo_ho (s : State) (h : Holdover) : (s.putHo h).base.ho = h := rfl
@[simp] theorem State.putClock_clock (s : State) (k : Clock) : (s.putClock k).base.clock = k := rfl
@[simp] theorem State.putServo_ho (s : State) (v : Servo) : (s.putServo v).base.ho = s.base.ho := rfl
@[simp] theorem State.putServo_clock (s : State) (v : Servo) : (s.putServo v).base.clock = s.base.clock := rfl
@[simp] theorem State.putServo_stmt (s : State) (v : Servo) : (s.putServo v).base.stmt = s.base.stmt := rfl

end Sys2Proof.Machine
end

