-- ==== Sys2Proof/Laws/Ops.lean ====
section
/-! SUPPORT. What the shared operations of Machine/Ops.lean can change: one lemma for each operation, then what follows for every part of the
state that it leaves alone. -/
namespace Sys2Proof.Machine

/-- The state without its control registers and its power state. -/
def State.butPower (s : State) : State := { s with regs := [], pow := {} }

/-- The state without its control registers, its event unit and its outputs. -/
def State.butEvents (s : State) : State := { s with regs := [], cp := {}, outs := [] }

theorem State.butPower_wrReg (s : State) (r : Reg) (v : Quad) (i k : Nat) : (s.wrReg r v i k).butPower = s.butPower := rfl
theorem State.butPower_wr (s : State) (f : Fld) (v i k : Nat) : (s.wr f v i k).butPower = s.butPower := State.butPower_wrReg _ _ _ _ _
theorem State.butPower_flag (s : State) (f : Fld) (b : Bool) (i k : Nat) : (s.flag f b i k).butPower = s.butPower := State.butPower_wr _ _ _ _ _
theorem State.butPower_pow (s : State) (p : Power) : ({ s with pow := p } : State).butPower = s.butPower := rfl
theorem State.butEvents_wrReg (s : State) (r : Reg) (v : Quad) (i k : Nat) : (s.wrReg r v i k).butEvents = s.butEvents := rfl
theorem State.butEvents_wr (s : State) (f : Fld) (v i k : Nat) : (s.wr f v i k).butEvents = s.butEvents := State.butEvents_wrReg _ _ _ _ _
theorem State.butEvents_count (s : State) (f : Fld) (i k n : Nat) : (s.count f i k n).butEvents = s.butEvents := State.butEvents_wr _ _ _ _ _
theorem State.butEvents_cp (s : State) (p : Ports) : ({ s with cp := p } : State).butEvents = s.butEvents := rfl

/-! ## Votes and motion of the domains -/

theorem State.butPower_pickCause (s : State) (d k : Nat) : (s.pickCause d k).butPower = s.butPower := by
  unfold State.pickCause
  split <;> rfl

theorem State.butPower_moveDomain (s : State) (d : Nat) : (s.moveDomain d).butPower = s.butPower := by
  unfold State.moveDomain
  simp only
  repeat' split
  all_goals rfl

theorem State.butPower_kettleVote (s : State) (d b : Nat) (c : Bool) : (s.kettleVote d b c).butPower = s.butPower := rfl

theorem State.butPower_settleDomain (s : State) (d : Nat) : (s.settleDomain d).butPower = s.butPower := by
  unfold State.settleDomain
  simp only [State.butPower_moveDomain, apply_ite State.butPower, State.butPower_pickCause, State.butPower_pow, State.butPower_kettleVote,
    State.butPower_wr, State.butPower_wrReg, ite_self]

/-- What `settle` can change: the control registers and the power state. -/
theorem State.butPower_settle (s : State) : s.settle.butPower = s.butPower := by
  unfold State.settle
  generalize List.range' 1 12 = l
  induction l generalizing s with
  | nil => rfl
  | cons d r ih => exact (ih _).trans (s.butPower_settleDomain d)

/-- What waking a domain can change. -/
theorem State.butPower_wakeFor (s : State) (d : Nat) : (s.wakeFor d).butPower = s.butPower := by
  unfold State.wakeFor
  split
  · exact State.butPower_settle _
  · rfl

/-! ## Events -/

theorem State.butEvents_sendVector (s : State) (v : Nat) : (s.sendVector v).butEvents = s.butEvents := by
  unfold State.sendVector
  simp only
  split <;> rfl

theorem State.butEvents_signal (s : State) (n : Nat) : (s.signal n).butEvents = s.butEvents := by
  unfold State.signal
  simp only
  split
  · exact State.butEvents_sendVector _ _
  · rfl

theorem State.butEvents_ringPut (s : State) (r : EvRecord) : (s.ringPut r).butEvents = s.butEvents := by
  unfold State.ringPut
  simp only [State.butEvents_signal, State.butEvents_wr, State.butEvents_cp]

theorem State.butEvents_ringWrite (s : State) (r : EvRecord) : (s.ringWrite r).butEvents = s.butEvents := by
  unfold State.ringWrite
  simp only [apply_ite State.butEvents, State.butEvents_ringPut, State.butEvents_count, State.butEvents_cp, ite_self]

theorem State.butEvents_latchPut (s : State) (r : EvRecord) : (s.latchPut r).butEvents = s.butEvents := by
  unfold State.latchPut
  split
  · exact State.butEvents_cp _ _
  · simp only [State.butEvents_count, State.butEvents_cp]

theorem State.butEvents_record (s : State) (r : EvRecord) : (s.record r).butEvents = s.butEvents := by
  unfold State.record
  split
  · exact s.butEvents_ringWrite r
  · exact s.butEvents_latchPut r

theorem State.butEvents_rateLimit (s : State) (r : EvRecord) : (s.rateLimit r).butEvents = s.butEvents := by
  unfold State.rateLimit
  simp only [apply_ite State.butEvents, State.butEvents_record, State.butEvents_cp, ite_self]

/-- What raising an event can change: the control registers (the ring's, the latch's and the vectors'), the event unit and the messages
sent. -/
theorem State.butEvents_raise (s : State) (n : Nat) (items : List (Nat × Nat)) (limit obj cnt : Nat) :
    (s.raise n items limit obj cnt).butEvents = s.butEvents := by
  unfold State.raise
  simp only [apply_ite State.butEvents, State.butEvents_rateLimit, State.butEvents_cp, ite_self]

/-! ## The parts of the state that they leave alone -/

theorem State.butPower_pending_eq (s : State) : s.butPower.pending = s.pending := rfl
theorem State.butPower_latched_eq (s : State) : s.butPower.latched = s.latched := rfl
theorem State.butPower_lowHalf_eq (s : State) : s.butPower.lowHalf = s.lowHalf := rfl
theorem State.butPower_draws_eq (s : State) : s.butPower.draws = s.draws := rfl
theorem State.butPower_boot_eq (s : State) : s.butPower.boot = s.boot := rfl
theorem State.butPower_pre_eq (s : State) : s.butPower.pre = s.pre := rfl
theorem State.butPower_sv_eq (s : State) : s.butPower.sv = s.sv := rfl
theorem State.butPower_ld_eq (s : State) : s.butPower.ld = s.ld := rfl
theorem State.butPower_tm_eq (s : State) : s.butPower.tm = s.tm := rfl
theorem State.butPower_tb_eq (s : State) : s.butPower.tb = s.tb := rfl
theorem State.butPower_lanes_eq (s : State) : s.butPower.lanes = s.lanes := rfl
theorem State.butPower_macs_eq (s : State) : s.butPower.macs = s.macs := rfl
theorem State.butPower_cx_eq (s : State) : s.butPower.cx = s.cx := rfl
theorem State.butPower_fib_eq (s : State) : s.butPower.fib = s.fib := rfl
theorem State.butPower_hbm_eq (s : State) : s.butPower.hbm = s.hbm := rfl
theorem State.butPower_base_eq (s : State) : s.butPower.base = s.base := rfl
theorem State.butPower_save_eq (s : State) : s.butPower.save = s.save := rfl
theorem State.butPower_outs_eq (s : State) : s.butPower.outs = s.outs := rfl
theorem State.butPower_cp_eq (s : State) : s.butPower.cp = s.cp := rfl
theorem State.butEvents_pending_eq (s : State) : s.butEvents.pending = s.pending := rfl
theorem State.butEvents_latched_eq (s : State) : s.butEvents.latched = s.latched := rfl
theorem State.butEvents_lowHalf_eq (s : State) : s.butEvents.lowHalf = s.lowHalf := rfl
theorem State.butEvents_draws_eq (s : State) : s.butEvents.draws = s.draws := rfl
theorem State.butEvents_boot_eq (s : State) : s.butEvents.boot = s.boot := rfl
theorem State.butEvents_pre_eq (s : State) : s.butEvents.pre = s.pre := rfl
theorem State.butEvents_sv_eq (s : State) : s.butEvents.sv = s.sv := rfl
theorem State.butEvents_ld_eq (s : State) : s.butEvents.ld = s.ld := rfl
theorem State.butEvents_tm_eq (s : State) : s.butEvents.tm = s.tm := rfl
theorem State.butEvents_tb_eq (s : State) : s.butEvents.tb = s.tb := rfl
theorem State.butEvents_lanes_eq (s : State) : s.butEvents.lanes = s.lanes := rfl
theorem State.butEvents_macs_eq (s : State) : s.butEvents.macs = s.macs := rfl
theorem State.butEvents_cx_eq (s : State) : s.butEvents.cx = s.cx := rfl
theorem State.butEvents_fib_eq (s : State) : s.butEvents.fib = s.fib := rfl
theorem State.butEvents_hbm_eq (s : State) : s.butEvents.hbm = s.hbm := rfl
theorem State.butEvents_base_eq (s : State) : s.butEvents.base = s.base := rfl
theorem State.butEvents_save_eq (s : State) : s.butEvents.save = s.save := rfl
theorem State.butEvents_pow_eq (s : State) : s.butEvents.pow = s.pow := rfl

@[simp] theorem State.settle_pending (s : State) : s.settle.pending = s.pending := by
  rw [← State.butPower_pending_eq, s.butPower_settle, State.butPower_pending_eq]
@[simp] theorem State.settle_latched (s : State) : s.settle.latched = s.latched := by
  rw [← State.butPower_latched_eq, s.butPower_settle, State.butPower_latched_eq]
@[simp] theorem State.settle_lowHalf (s : State) : s.settle.lowHalf = s.lowHalf := by
  rw [← State.butPower_lowHalf_eq, s.butPower_settle, State.butPower_lowHalf_eq]
@[simp] theorem State.settle_draws (s : State) : s.settle.draws = s.draws := by
  rw [← State.butPower_draws_eq, s.butPower_settle, State.butPower_draws_eq]
@[simp] theorem State.settle_boot (s : State) : s.settle.boot = s.boot := by
  rw [← State.butPower_boot_eq, s.butPower_settle, State.butPower_boot_eq]
@[simp] theorem State.settle_pre (s : State) : s.settle.pre = s.pre := by
  rw [← State.butPower_pre_eq, s.butPower_settle, State.butPower_pre_eq]
@[simp] theorem State.settle_sv (s : State) : s.settle.sv = s.sv := by
  rw [← State.butPower_sv_eq, s.butPower_settle, State.butPower_sv_eq]
@[simp] theorem State.settle_ld (s : State) : s.settle.ld = s.ld := by
  rw [← State.butPower_ld_eq, s.butPower_settle, State.butPower_ld_eq]
@[simp] theorem State.settle_tm (s : State) : s.settle.tm = s.tm := by
  rw [← State.butPower_tm_eq, s.butPower_settle, State.butPower_tm_eq]
@[simp] theorem State.settle_tb (s : State) : s.settle.tb = s.tb := by
  rw [← State.butPower_tb_eq, s.butPower_settle, State.butPower_tb_eq]
@[simp] theorem State.settle_lanes (s : State) : s.settle.lanes = s.lanes := by
  rw [← State.butPower_lanes_eq, s.butPower_settle, State.butPower_lanes_eq]
@[simp] theorem State.settle_macs (s : State) : s.settle.macs = s.macs := by
  rw [← State.butPower_macs_eq, s.butPower_settle, State.butPower_macs_eq]
@[simp] theorem State.settle_cx (s : State) : s.settle.cx = s.cx := by
  rw [← State.butPower_cx_eq, s.butPower_settle, State.butPower_cx_eq]
@[simp] theorem State.settle_fib (s : State) : s.settle.fib = s.fib := by
  rw [← State.butPower_fib_eq, s.butPower_settle, State.butPower_fib_eq]
@[simp] theorem State.settle_hbm (s : State) : s.settle.hbm = s.hbm := by
  rw [← State.butPower_hbm_eq, s.butPower_settle, State.butPower_hbm_eq]
@[simp] theorem State.settle_base (s : State) : s.settle.base = s.base := by
  rw [← State.butPower_base_eq, s.butPower_settle, State.butPower_base_eq]
@[simp] theorem State.settle_save (s : State) : s.settle.save = s.save := by
  rw [← State.butPower_save_eq, s.butPower_settle, State.butPower_save_eq]
@[simp] theorem State.settle_outs (s : State) : s.settle.outs = s.outs := by
  rw [← State.butPower_outs_eq, s.butPower_settle, State.butPower_outs_eq]
@[simp] theorem State.settle_cp (s : State) : s.settle.cp = s.cp := by
  rw [← State.butPower_cp_eq, s.butPower_settle, State.butPower_cp_eq]
@[simp] theorem State.settle_ctx (s : State) (c : Nat) : s.settle.ctx c = s.ctx c := by
  rw [State.ctx, State.ctx, State.settle_pre]
@[simp] theorem State.settle_eng (s : State) (c : Nat) : s.settle.eng c = s.eng c := by
  rw [State.eng, State.eng, State.settle_pre]
@[simp] theorem State.settle_gate (s : State) (c : Nat) : s.settle.gate c = s.gate c := by
  rw [State.gate, State.gate, State.settle_pre]

@[simp] theorem State.wakeFor_pending (s : State) (d : Nat) : (s.wakeFor d).pending = s.pending := by
  rw [← State.butPower_pending_eq, s.butPower_wakeFor d, State.butPower_pending_eq]
@[simp] theorem State.wakeFor_latched (s : State) (d : Nat) : (s.wakeFor d).latched = s.latched := by
  rw [← State.butPower_latched_eq, s.butPower_wakeFor d, State.butPower_latched_eq]
@[simp] theorem State.wakeFor_lowHalf (s : State) (d : Nat) : (s.wakeFor d).lowHalf = s.lowHalf := by
  rw [← State.butPower_lowHalf_eq, s.butPower_wakeFor d, State.butPower_lowHalf_eq]
@[simp] theorem State.wakeFor_draws (s : State) (d : Nat) : (s.wakeFor d).draws = s.draws := by
  rw [← State.butPower_draws_eq, s.butPower_wakeFor d, State.butPower_draws_eq]
@[simp] theorem State.wakeFor_boot (s : State) (d : Nat) : (s.wakeFor d).boot = s.boot := by
  rw [← State.butPower_boot_eq, s.butPower_wakeFor d, State.butPower_boot_eq]
@[simp] theorem State.wakeFor_pre (s : State) (d : Nat) : (s.wakeFor d).pre = s.pre := by
  rw [← State.butPower_pre_eq, s.butPower_wakeFor d, State.butPower_pre_eq]
@[simp] theorem State.wakeFor_sv (s : State) (d : Nat) : (s.wakeFor d).sv = s.sv := by
  rw [← State.butPower_sv_eq, s.butPower_wakeFor d, State.butPower_sv_eq]
@[simp] theorem State.wakeFor_ld (s : State) (d : Nat) : (s.wakeFor d).ld = s.ld := by
  rw [← State.butPower_ld_eq, s.butPower_wakeFor d, State.butPower_ld_eq]
@[simp] theorem State.wakeFor_tm (s : State) (d : Nat) : (s.wakeFor d).tm = s.tm := by
  rw [← State.butPower_tm_eq, s.butPower_wakeFor d, State.butPower_tm_eq]
@[simp] theorem State.wakeFor_tb (s : State) (d : Nat) : (s.wakeFor d).tb = s.tb := by
  rw [← State.butPower_tb_eq, s.butPower_wakeFor d, State.butPower_tb_eq]
@[simp] theorem State.wakeFor_lanes (s : State) (d : Nat) : (s.wakeFor d).lanes = s.lanes := by
  rw [← State.butPower_lanes_eq, s.butPower_wakeFor d, State.butPower_lanes_eq]
@[simp] theorem State.wakeFor_macs (s : State) (d : Nat) : (s.wakeFor d).macs = s.macs := by
  rw [← State.butPower_macs_eq, s.butPower_wakeFor d, State.butPower_macs_eq]
@[simp] theorem State.wakeFor_cx (s : State) (d : Nat) : (s.wakeFor d).cx = s.cx := by
  rw [← State.butPower_cx_eq, s.butPower_wakeFor d, State.butPower_cx_eq]
@[simp] theorem State.wakeFor_fib (s : State) (d : Nat) : (s.wakeFor d).fib = s.fib := by
  rw [← State.butPower_fib_eq, s.butPower_wakeFor d, State.butPower_fib_eq]
@[simp] theorem State.wakeFor_hbm (s : State) (d : Nat) : (s.wakeFor d).hbm = s.hbm := by
  rw [← State.butPower_hbm_eq, s.butPower_wakeFor d, State.butPower_hbm_eq]
@[simp] theorem State.wakeFor_base (s : State) (d : Nat) : (s.wakeFor d).base = s.base := by
  rw [← State.butPower_base_eq, s.butPower_wakeFor d, State.butPower_base_eq]
@[simp] theorem State.wakeFor_save (s : State) (d : Nat) : (s.wakeFor d).save = s.save := by
  rw [← State.butPower_save_eq, s.butPower_wakeFor d, State.butPower_save_eq]
@[simp] theorem State.wakeFor_outs (s : State) (d : Nat) : (s.wakeFor d).outs = s.outs := by
  rw [← State.butPower_outs_eq, s.butPower_wakeFor d, State.butPower_outs_eq]
@[simp] theorem State.wakeFor_cp (s : State) (d : Nat) : (s.wakeFor d).cp = s.cp := by
  rw [← State.butPower_cp_eq, s.butPower_wakeFor d, State.butPower_cp_eq]
@[simp] theorem State.wakeFor_ctx (s : State) (d : Nat) (c : Nat) : (s.wakeFor d).ctx c = s.ctx c := by
  rw [State.ctx, State.ctx, State.wakeFor_pre]
@[simp] theorem State.wakeFor_eng (s : State) (d : Nat) (c : Nat) : (s.wakeFor d).eng c = s.eng c := by
  rw [State.eng, State.eng, State.wakeFor_pre]
@[simp] theorem State.wakeFor_gate (s : State) (d : Nat) (c : Nat) : (s.wakeFor d).gate c = s.gate c := by
  rw [State.gate, State.gate, State.wakeFor_pre]

@[simp] theorem State.raise_pending (s : State) (n : Nat) (items : List (Nat × Nat)) (limit obj cnt : Nat) : (s.raise n items limit obj cnt).pending = s.pending := by
  rw [← State.butEvents_pending_eq, s.butEvents_raise n items limit obj cnt, State.butEvents_pending_eq]
@[simp] theorem State.raise_latched (s : State) (n : Nat) (items : List (Nat × Nat)) (limit obj cnt : Nat) : (s.raise n items limit obj cnt).latched = s.latched := by
  rw [← State.butEvents_latched_eq, s.butEvents_raise n items limit obj cnt, State.butEvents_latched_eq]
@[simp] theorem State.raise_lowHalf (s : State) (n : Nat) (items : List (Nat × Nat)) (limit obj cnt : Nat) : (s.raise n items limit obj cnt).lowHalf = s.lowHalf := by
  rw [← State.butEvents_lowHalf_eq, s.butEvents_raise n items limit obj cnt, State.butEvents_lowHalf_eq]
@[simp] theorem State.raise_draws (s : State) (n : Nat) (items : List (Nat × Nat)) (limit obj cnt : Nat) : (s.raise n items limit obj cnt).draws = s.draws := by
  rw [← State.butEvents_draws_eq, s.butEvents_raise n items limit obj cnt, State.butEvents_draws_eq]
@[simp] theorem State.raise_boot (s : State) (n : Nat) (items : List (Nat × Nat)) (limit obj cnt : Nat) : (s.raise n items limit obj cnt).boot = s.boot := by
  rw [← State.butEvents_boot_eq, s.butEvents_raise n items limit obj cnt, State.butEvents_boot_eq]
@[simp] theorem State.raise_pre (s : State) (n : Nat) (items : List (Nat × Nat)) (limit obj cnt : Nat) : (s.raise n items limit obj cnt).pre = s.pre := by
  rw [← State.butEvents_pre_eq, s.butEvents_raise n items limit obj cnt, State.butEvents_pre_eq]
@[simp] theorem State.raise_sv (s : State) (n : Nat) (items : List (Nat × Nat)) (limit obj cnt : Nat) : (s.raise n items limit obj cnt).sv = s.sv := by
  rw [← State.butEvents_sv_eq, s.butEvents_raise n items limit obj cnt, State.butEvents_sv_eq]
@[simp] theorem State.raise_ld (s : State) (n : Nat) (items : List (Nat × Nat)) (limit obj cnt : Nat) : (s.raise n items limit obj cnt).ld = s.ld := by
  rw [← State.butEvents_ld_eq, s.butEvents_raise n items limit obj cnt, State.butEvents_ld_eq]
@[simp] theorem State.raise_tm (s : State) (n : Nat) (items : List (Nat × Nat)) (limit obj cnt : Nat) : (s.raise n items limit obj cnt).tm = s.tm := by
  rw [← State.butEvents_tm_eq, s.butEvents_raise n items limit obj cnt, State.butEvents_tm_eq]
@[simp] theorem State.raise_tb (s : State) (n : Nat) (items : List (Nat × Nat)) (limit obj cnt : Nat) : (s.raise n items limit obj cnt).tb = s.tb := by
  rw [← State.butEvents_tb_eq, s.butEvents_raise n items limit obj cnt, State.butEvents_tb_eq]
@[simp] theorem State.raise_lanes (s : State) (n : Nat) (items : List (Nat × Nat)) (limit obj cnt : Nat) : (s.raise n items limit obj cnt).lanes = s.lanes := by
  rw [← State.butEvents_lanes_eq, s.butEvents_raise n items limit obj cnt, State.butEvents_lanes_eq]
@[simp] theorem State.raise_macs (s : State) (n : Nat) (items : List (Nat × Nat)) (limit obj cnt : Nat) : (s.raise n items limit obj cnt).macs = s.macs := by
  rw [← State.butEvents_macs_eq, s.butEvents_raise n items limit obj cnt, State.butEvents_macs_eq]
@[simp] theorem State.raise_cx (s : State) (n : Nat) (items : List (Nat × Nat)) (limit obj cnt : Nat) : (s.raise n items limit obj cnt).cx = s.cx := by
  rw [← State.butEvents_cx_eq, s.butEvents_raise n items limit obj cnt, State.butEvents_cx_eq]
@[simp] theorem State.raise_fib (s : State) (n : Nat) (items : List (Nat × Nat)) (limit obj cnt : Nat) : (s.raise n items limit obj cnt).fib = s.fib := by
  rw [← State.butEvents_fib_eq, s.butEvents_raise n items limit obj cnt, State.butEvents_fib_eq]
@[simp] theorem State.raise_hbm (s : State) (n : Nat) (items : List (Nat × Nat)) (limit obj cnt : Nat) : (s.raise n items limit obj cnt).hbm = s.hbm := by
  rw [← State.butEvents_hbm_eq, s.butEvents_raise n items limit obj cnt, State.butEvents_hbm_eq]
@[simp] theorem State.raise_base (s : State) (n : Nat) (items : List (Nat × Nat)) (limit obj cnt : Nat) : (s.raise n items limit obj cnt).base = s.base := by
  rw [← State.butEvents_base_eq, s.butEvents_raise n items limit obj cnt, State.butEvents_base_eq]
@[simp] theorem State.raise_save (s : State) (n : Nat) (items : List (Nat × Nat)) (limit obj cnt : Nat) : (s.raise n items limit obj cnt).save = s.save := by
  rw [← State.butEvents_save_eq, s.butEvents_raise n items limit obj cnt, State.butEvents_save_eq]
@[simp] theorem State.raise_pow (s : State) (n : Nat) (items : List (Nat × Nat)) (limit obj cnt : Nat) : (s.raise n items limit obj cnt).pow = s.pow := by
  rw [← State.butEvents_pow_eq, s.butEvents_raise n items limit obj cnt, State.butEvents_pow_eq]
@[simp] theorem State.raise_ctx (s : State) (n : Nat) (items : List (Nat × Nat)) (limit obj cnt : Nat) (c : Nat) : (s.raise n items limit obj cnt).ctx c = s.ctx c := by
  rw [State.ctx, State.ctx, State.raise_pre]
@[simp] theorem State.raise_eng (s : State) (n : Nat) (items : List (Nat × Nat)) (limit obj cnt : Nat) (c : Nat) : (s.raise n items limit obj cnt).eng c = s.eng c := by
  rw [State.eng, State.eng, State.raise_pre]
@[simp] theorem State.raise_gate (s : State) (n : Nat) (items : List (Nat × Nat)) (limit obj cnt : Nat) (c : Nat) : (s.raise n items limit obj cnt).gate c = s.gate c := by
  rw [State.gate, State.gate, State.raise_pre]

end Sys2Proof.Machine
end

