-- ==== Sys2Proof/Tests/Slice0.lean ====
section
/-! SUPPORT. Tests of the model: ill-formed commands, words written out by hand, one step each on small states, and for every statement with
hypotheses a witness, a concrete state and operands that meet them. -/
namespace Sys2Proof.Tests

open Sys2Proof Sys2Proof.Machine Sys2Proof.Spec

set_option Elab.async false

/-- A command answers a next state of which a test holds. -/
def ok (i : Instr) (s : State) (p : State → Bool) : Bool := match exec i s with | .next t => p t | _ => false

/-- A command changes nothing. -/
def still (i : Instr) (s : State) : Bool := ok i s (fun t => t = s)

/-- The test of `CanIssue`. -/
def canB (s : State) (a : Agent) (cost : Nat) : Bool :=
  !(s.cpu a).ranOff && !s.fetchBad a && match a with
  | .ctx c => decide (c < 1024) && (match s.nextTurn (c / 8) with | some (d, _) => d == c | none => false) &&
    (!(s.ctx c).packet || !(s.ctx c).counting || s.rd Fld.PR_ENG_CTRL_STEPLIMIT (c / 8) == 0 ||
      decide ((s.ctx c).pktSteps + cost ≤ s.rd Fld.PR_ENG_CTRL_STEPLIMIT (c / 8)))
  | .gate p => decide (p < 145) && (s.gate p).st == .ready && !s.asleep (portDomain p)

theorem canIssue {s : State} {a : Agent} {n : Nat} (h : canB s a n = true) : CanIssue s a n := by
  cases a with
  | ctx c =>
    simp only [canB, CanIssue, Turn, WithinLimit, Bool.and_eq_true, Bool.not_eq_true', decide_eq_true_eq] at h ⊢
    refine ⟨⟨h.1.1, h.2.1.1, ?_⟩, h.1.2, ?_⟩
    · have := h.2.1.2
      split at this
      · rename_i d t e; exact ⟨t, by rw [e, beq_iff_eq.mp this]⟩
      · cases this
    · intro c' e hp hc hl
      cases e
      have := h.2.2
      simp_all
  | gate p =>
    simp only [canB, CanIssue, Turn, WithinLimit, Bool.and_eq_true, Bool.not_eq_true', decide_eq_true_eq, beq_iff_eq] at h ⊢
    exact ⟨⟨h.1.1, h.2.1.1, h.2.1.2, h.2.2⟩, h.1.2, by intro c e; cases e⟩

/-- The test of `SameRegisters`: the same entries, those of the listed registers apart. -/
def regsB (s t : State) (rs : List Reg) : Bool :=
  let f := fun (x : State) => x.regs.filter (fun e => !rs.contains (Reg.ofKey e.1))
  f t = f s

/-- The test of `Only`. -/
def onlyB (s t : State) (rs : List Reg) : Bool :=
  t.pre = s.pre && t.hbm = s.hbm && t.save = s.save && t.pending = s.pending && regsB s t (rs ++ voteRegs ++ eventRegs)

/-- The test of `SameUnits`. -/
def unitsB (s t : State) : Bool :=
  t.hbm = s.hbm && t.save = s.save && t.sv = s.sv && t.ld = s.ld && t.tm = s.tm && t.tb = s.tb && t.lanes = s.lanes && t.macs = s.macs &&
  t.cx = s.cx && t.fib = s.fib && t.base = s.base && t.boot = s.boot && t.draws = s.draws && t.pending = s.pending

/-- The test of `SameMemory`: the same entries. -/
def memB (s t : State) : Bool :=
  let l := fun (x : State) => (x.pre.engs.map (fun e => (e.1, e.2.lmem))).filter (fun e => !e.2.isEmpty)
  let g := fun (x : State) => (x.pre.gates.map (fun e => (e.1, e.2.lmem))).filter (fun e => !e.2.isEmpty)
  t.hbm = s.hbm && t.pre.shared = s.pre.shared && l t = l s && g t = g s

/-- The test of `OnlyContext`. -/
def onlyCtxB (s t : State) (c : Nat) (x : Ctx) : Bool :=
  t.ctx c = x && t.pre.ctxs.filter (fun e => e.1 != c) = s.pre.ctxs.filter (fun e => e.1 != c) && t.pre.gates = s.pre.gates && memB s t &&
  unitsB s t && regsB s t voteRegs

/-- A running device: input valid, boot complete, every domain at Full, the engines' contexts enabled, the roles of the shared fibre at work. -/
def up : State :=
  let s0 : State := { State.reset with boot := { State.reset.boot with inputValid := true, powered := 0x1FFF }, tb := { incr := 2 ^ 44 } }
  let s1 := (List.range' 1 12).foldl (fun s d => s.wr Fld.PW_DOM_STATUS_DEPTH 0 d) s0
  let s2 := [8, 9, 10, 11, 13, 15, 16, 17, 18, 19].foldl (fun s c => s.setCtx c { st := .waiting, wait := some (.recv 0 0 none), loader := 3, auth := 2 }) s1
  (s2.wr Fld.KT_BOOT_STATUS_STAGE 8).wr Fld.PR_ENG_CTRL_CTXEN 0xFF 0

/-- Context 0 loaded with host authority, Ready, with some registers. -/
def run0 (f : Ctx → Ctx := id) (g : List (Nat × Quad) := []) (s : State := up) : State :=
  s.setCtx 0 (f { st := .ready, loader := 2, auth := 2, cpu := { g := g } })

/-- A state at a later time, in ns since the timebase started. -/
def later (s : State) (ns : Nat) : State := { s with tb := { s.tb with gained := ns * 2 ^ 44 } }
/-! ## Well-formed commands: an ill-formed term for each check -/

theorem test_ill_formed_1 : ((
    [.nop (.ctx 1024), .add (.gate 145) 0 0 0, .steplimitTrap 1024 1, .sendStatusReturn 1024, .packetDelivery 128, .contextStart .serial 1024,
   .engineSingleStep .serial 128 0, .hostMessageDone 128, .timerExpiry 1024 0, .timerExpiry 0 4, .gateStart .serial 145 0, .gateEdgeApply 145,
   .portRerole .serial 144 0, .dsLosChange 4 true, .reorderTimeout 4, .burstProfile true 2 0 0 true 0 0 0, .burstProfile true 0 4 0 true 0 0 0, .burstEnd 2,
   .allocMapWrite .serial 512 0, .holdMaxExpiry 512].all (fun i => !wellFormed i && match exec i up with
      | .fault .noSuchObject => true
      | _ => false)) : Bool) = true := by decide +kernel

theorem test_ill_formed_2 : ((
    [.laneUp 144, .laneRefUnlock 2 0 true, .laneRefUnlock 0 4 true, .sievePass 146 0, .sievePass 0 8, .svEmWordWrite .serial 8 true 0,
   .svTrWordWrite .serial 2 0 true 0, .svTrWordWrite .serial 0 8 true 0, .ladlePrefetchRefill 4 0 true .clean, .ladlePrefetchRefill 0 2 true .clean,
   .ldPartitionWrite .serial 8 0, .ldReserveWrite .serial 256 0 true 0, .ldReserveWrite .serial 0 4 true 0, .captureWrite 240,
   .cipherReviveDone 12 true, .scClear .serial 1024 0, .domainEntryComplete 0, .domainEntryComplete 13, .eventWindowClose 1024 0 true,
   .msixIntervalExpiry 1024, .frozenGraceExpiry 4].all (fun i => !wellFormed i && match exec i up with
      | .fault .noSuchObject => true
      | _ => false)) : Bool) = true := by decide +kernel

theorem witness_EveryWellFormedCommandRuns : ((
    [Instr.nop (.ctx 1023), .nop (.gate 144), .captureWrite 239, .domainEntryComplete 12, .pcieReset].all (fun i => wellFormed i &&
      ok i up (fun _ => true)) && wellFormed (.nop (.ctx 1024)) = false) : Bool) = true := by decide +kernel

/-- The rows of the table give no bits: no word spells a command. -/
theorem test_no_word_spells : ((decodeTableWord 32 0 = none && (up.withFetchWord 32 5).pending = up.pending) : Bool) = true := by decide +kernel

/-! ## Words written out by hand from the encodings of R58 and R61 -/

/-- R61: nop has opcode 0x01 and no operand. -/
theorem test_decode_nop : ((decodeWord (.ctx 0) 0b000001_00000_00000_00000_00000000000 = .nop (.ctx 0)) : Bool) = true := by decide +kernel

/-- R58: the R format has rd, ra and rb in bits 25:21, 20:16 and 15:11. -/
theorem test_decode_add : ((decodeWord (.ctx 0) 0b000010_00001_00010_00011_00000000000 = .add (.ctx 0) 1 2 3) : Bool) = true := by decide +kernel

/-- R58: the I format has a 16-bit immediate. -/
theorem test_decode_addi : ((
    decodeWord (.gate 3) 0b010000_00101_00101_1111111111111111 = .addi (.gate 3) 5 5 0xFFFF) : Bool) = true := by decide +kernel

/-- R58: the M format has the space in bits 15:14, the size in bits 13:12 and the offset below. -/
theorem test_decode_ld : ((
    decodeWord (.ctx 0) 0b100000_00100_00000_11_01_000000001100 = .ld (.ctx 0) 4 0 .k .b16 12 .clean) : Bool) = true := by decide +kernel

/-- R58, R62: bc has its condition in bits 25:22 and its offset in bits 15:0. -/
theorem test_decode_bc : ((decodeWord (.ctx 9) 0b101110_0001_000000_1111111111111110 = .bc (.ctx 9) 1 0xFFFE) : Bool) = true := by decide +kernel

/-- R58: j has a 26-bit offset. -/
theorem test_decode_j : ((decodeWord (.ctx 9) 0b101111_11111111111111111111111111 = .j (.ctx 9) 0x3FFFFFF) : Bool) = true := by decide +kernel

/-- R95: pkt.send is hcall 0x02. -/
theorem test_decode_hcall : ((decodeWord (.ctx 9) 0b110100_00110_00110_00000010_00000000 = .pktSend (.ctx 9) 6 6) : Bool) = true := by decide +kernel

/-- R58: sys has a 16-bit immediate. -/
theorem test_decode_sys : ((decodeWord (.ctx 9) 0b111011_0000000000_0000000000000111 = .sysTrap (.ctx 9) 7) : Bool) = true := by decide +kernel

/-- R59, R63: the word 0, and a word with a bit set that is to be zero, are not listed. -/
theorem test_decode_reserved : ((decodeWord (.ctx 9) 0 = .reservedOpcode (.ctx 9) 0 &&
      decodeWord (.gate 9) 0b000001_00000_00000_00000_00000000001 = .reservedOpcode (.gate 9) 0x04000001) : Bool) = true := by decide +kernel

/-- R61, R62: a word that encode writes is read back, at a boundary value of each field. -/
theorem witness_DecodeOfEncodeIsInstruction : ((
    [Instr.extZ (.ctx 0) 31 31 0 63, .insB (.ctx 0) 1 2 63 0, .sel (.ctx 0) 1 2 3 0xE, .cnt (.ctx 0) 1 2 2, .bswap (.ctx 0) 1 2 2, .aadd (.ctx 0) 1 2 .s .b64 0x800 .clean, .mts (.ctx 0) 6 31, .send (.ctx 0) 1 2 3 7].all (fun i => spelled i &&
      match encode i with
      | some w => decodeWord (.ctx 0) w = i
      | none => false)) : Bool) = true := by decide +kernel

/-! ## Computing -/

/-- R61: addition wraps modulo 2^64; a write of g0 is discarded. -/
theorem witness_RegisterFormResults : ((canB (run0 id [(2, 0xFFFFFFFFFFFFFFFF), (3, 2)]) (.ctx 0) 2 &&
      ok (.add (.ctx 0) 1 2 3) (run0 id [(2, 0xFFFFFFFFFFFFFFFF), (3, 2)]) (fun t => (t.cpu (.ctx 0)).get 1 = 1 && (t.ctx 0).cpu.pc = 4 &&
      (t.ctx 0).steps = 1) && ok (.add (.ctx 0) 0 2 3) (run0 id [(2, 5), (3, 2)]) (fun t => (t.cpu (.ctx 0)).get 0 = 0 &&
      (t.ctx 0).cpu.pc = 4)) : Bool) = true := by decide +kernel

/-- R61: sar keeps the sign, mulhu is the high half of the unsigned product and takes 2 steps. -/
theorem test_sar_mulhu : ((
    let s := run0 id [(2, 0x8000000000000000), (3, 0xC1)]; ok (.sar (.ctx 0) 1 2 3) s (fun t => (t.cpu (.ctx 0)).get 1 = 0xC000000000000000) &&
      ok (.mulhu (.ctx 0) 1 2 3) s (fun t => (t.cpu (.ctx 0)).get 1 = 0x60 && (t.ctx 0).steps = 2)) : Bool) = true := by decide +kernel

/-- R61: kset extends the sign, kcat shifts in 16 bits, andi extends with zeros. -/
theorem witness_ImmediateFormResults : ((let s := run0 id [(2, 0xFFFFFFFFFFFFFFFF), (3, 5)]; canB s (.ctx 0) 1 &&
      ok (.kset (.ctx 0) 1 0x8000) s (fun t => (t.cpu (.ctx 0)).get 1 = 0xFFFFFFFFFFFF8000) &&
      ok (.kcat (.ctx 0) 3 0xABCD) s (fun t => (t.cpu (.ctx 0)).get 3 = 0x5ABCD) &&
      ok (.andi (.ctx 0) 1 2 0xFFFF) s (fun t => (t.cpu (.ctx 0)).get 1 = 0xFFFF)) : Bool) = true := by decide +kernel

/-- R61: ext and exts of the top field, ins below it, and the counts. -/
theorem witness_BitFieldResults : ((let s := run0 id [(2, 0xF000000000000001), (3, 0)]; canB s (.ctx 0) 1 &&
      ok (.exts (.ctx 0) 1 2 60 3) s (fun t => (t.cpu (.ctx 0)).get 1 = 0xFFFFFFFFFFFFFFFF) &&
      ok (.extZ (.ctx 0) 1 2 0 63) s (fun t => (t.cpu (.ctx 0)).get 1 = 0xF000000000000001) &&
      ok (.insB (.ctx 0) 3 2 63 0) s (fun t => (t.cpu (.ctx 0)).get 3 = 0x8000000000000000)) : Bool) = true := by decide +kernel

/-- R61: cnt counts ones, leading zeros and trailing zeros; 64 where there is no one. -/
theorem test_cnt_bswap : ((let s := run0 id [(2, 0x00F0)]; ok (.cnt (.ctx 0) 1 2 0) s (fun t => (t.cpu (.ctx 0)).get 1 = 4) &&
      ok (.cnt (.ctx 0) 1 2 1) s (fun t => (t.cpu (.ctx 0)).get 1 = 56) && ok (.cnt (.ctx 0) 1 2 2) s (fun t => (t.cpu (.ctx 0)).get 1 = 4) &&
      ok (.cnt (.ctx 0) 1 0 2) s (fun t => (t.cpu (.ctx 0)).get 1 = 64) &&
      ok (.bswap (.ctx 0) 1 2 1) s (fun t => (t.cpu (.ctx 0)).get 1 = 0xF0000000)) : Bool) = true := by decide +kernel

/-- R64: a divisor of zero traps DIVZERO (7) with the dividend; otherwise the quotient. -/
theorem witness_DivisionAndDivideByZero : ((let s := run0 id [(2, 17), (3, 5)]; canB s (.ctx 0) 16 &&
      ok (.divu (.ctx 0) 1 2 3) s (fun t => (t.cpu (.ctx 0)).get 1 = 3 && (t.ctx 0).steps = 16) &&
      ok (.remu (.ctx 0) 1 2 4) s (fun t => (t.ctx 0).st = .trapped && (t.ctx 0).tcause = 7 && (t.ctx 0).tval = 17 &&
      (t.ctx 0).tvalid)) : Bool) = true := by decide +kernel

/-- R38: the flags of the comparison of the most negative number with 1. -/
theorem witness_ComparisonSetsFlags : ((let s := run0 id [(2, 0x8000000000000000)]; canB s (.ctx 0) 1 &&
      ok (.cmpi (.ctx 0) 2 1) s (fun t => let x := (t.ctx 0).cpu; !x.z && !x.n && !x.c && x.v)) : Bool) = true := by decide +kernel

/-- R62: codes 0 to 9 and 0xE choose; code 0xA traps ILLOP with the word. -/
theorem witness_SelectionByCondition : ((let s := run0 (fun x => { x with cpu := { x.cpu with c := true } }) [(2, 7), (3, 9)]; canB s (.ctx 0) 1 &&
      condition false false true false 6 = some true && condition false false true false 7 = some false &&
      condition false false true false 0xA = none && ok (.sel (.ctx 0) 1 2 3 6) s (fun t => (t.cpu (.ctx 0)).get 1 = 7) &&
      ok (.sel (.ctx 0) 1 2 3 7) s (fun t => (t.cpu (.ctx 0)).get 1 = 9) && ok (.sel (.ctx 0) 1 2 3 0xA) s (fun t => (t.ctx 0).tcause = 1 &&
      (t.ctx 0).tval = 0b001111_00001_00010_00011_1010_0000000)) : Bool) = true := by decide +kernel

/-- R62: bc taken backwards, not taken, and with a code that is not listed. -/
theorem witness_BranchOnCondition : ((let s := run0 (fun x => { x with cpu := { x.cpu with pc := 8, z := true } }); canB s (.ctx 0) 2 &&
      ok (.bc (.ctx 0) 0 0xFFFE) s (fun t => (t.ctx 0).cpu.pc = 0 && (t.ctx 0).steps = 2) &&
      ok (.bc (.ctx 0) 1 0xFFFE) s (fun t => (t.ctx 0).cpu.pc = 12 && (t.ctx 0).steps = 1) &&
      ok (.bc (.ctx 0) 0xF 0) s (fun t => (t.ctx 0).tcause = 1)) : Bool) = true := by decide +kernel

/-- The frame of an instruction that computes: another context keeps its registers. -/
theorem witness_ComputingLeavesTheRest : ((let s := done (run0 id [(1, 5)]) (.ctx 0) 1 { g := [(1, 6)] }; (s.cpu (.ctx 0)).get 1 = 6 &&
      s.cpu (.ctx 1) = up.cpu (.ctx 1) && memB up s && unitsB up s) : Bool) = true := by decide +kernel

/-! ## Control flow -/

/-- R60: a branch to the last word of instruction memory is taken, one past its end traps BOUNDS with the target; one not taken goes on. -/
theorem witness_BranchesOnRegisters : ((
    let s := run0 (fun x => { x with cpu := { x.cpu with pc := 0xFFF8 } }) [(2, 0xFFFFFFFFFFFFFFFF)]; canB s (.ctx 0) 2 &&
      ok (.blt (.ctx 0) 2 0 1) s (fun t => (t.ctx 0).cpu.pc = 0xFFFC) && ok (.bltu (.ctx 0) 2 0 1) s (fun t => (t.ctx 0).cpu.pc = 0xFFFC &&
      (t.ctx 0).steps = 1) && ok (.bne (.ctx 0) 2 0 2) s (fun t => (t.ctx 0).tcause = 4 &&
      (t.ctx 0).tval = 0x10000)) : Bool) = true := by decide +kernel

/-- R60: call leaves the address of the next instruction in g31; jr to an odd address traps ALIGN and past the end BOUNDS. -/
theorem witness_JumpsAndLinks : ((
    let s := run0 (fun x => { x with cpu := { x.cpu with pc := 8 } }) [(2, 2), (3, 0x10000), (4, 0xFFFC)]; canB s (.ctx 0) 2 &&
      ok (.call (.ctx 0) 0x3FFFFFF) s (fun t => (t.ctx 0).cpu.pc = 4 && (t.cpu (.ctx 0)).get 31 = 12) &&
      ok (.jr (.ctx 0) 2) s (fun t => (t.ctx 0).tcause = 3 && (t.ctx 0).tval = 2) && ok (.jr (.ctx 0) 3) s (fun t => (t.ctx 0).tcause = 4) &&
      ok (.jalr (.ctx 0) 4 4) s (fun t => (t.ctx 0).cpu.pc = 0xFFFC && (t.cpu (.ctx 0)).get 4 = 12)) : Bool) = true := by decide +kernel

/-- R56: bit 63 of time is set while time-stamps are not valid; a yielding context gives up its next turn. -/
theorem witness_YieldAndTime : ((canB (run0) (.ctx 0) 1 && ok (.timeNow (.ctx 0) 1) (run0) (fun t => (t.cpu (.ctx 0)).get 1 = 0x8000000000000000) &&
      ok (.yield (.ctx 0)) (run0) (fun t => Tab.get (t.eng 0).turns 0 0 = 2 && (t.ctx 0).cpu.pc = 4)) : Bool) = true := by decide +kernel

/-- R52, R100: halt in a packet-profile context discards its packet. -/
theorem witness_HaltStopsTheAgent : ((let s := run0 (fun x => { x with packet := true, pkt := some { handle := 5 } }); canB s (.ctx 0) 1 &&
      ok (.halt (.ctx 0)) s (fun t => (t.ctx 0).st = .halted && (t.ctx 0).pkt = none && (t.ctx 0).cpu.pc = 4)) : Bool) = true := by decide +kernel

/-- R57: a target reached by signed difference goes on, one ahead waits until it is reached. -/
theorem witness_TimedWait : ((let s := run0 id [(2, 0xFFFFFFFF00), (3, 0x100)]; canB s (.ctx 0) 1 &&
      ok (.twait (.ctx 0) 2) s (fun t => (t.ctx 0).st = .ready && (t.ctx 0).cpu.pc = 4) &&
      ok (.twait (.ctx 0) 3) s (fun t => (t.ctx 0).wait = some (.twait 1) && still (.twaitExpiry (.ctx 0)) t &&
      ok (.twaitExpiry (.ctx 0)) { t with tb := { t.tb with acc := 2 ^ 44 } } (fun u => (u.ctx 0).st = .ready &&
      (u.ctx 0).cpu.pc = 4))) : Bool) = true := by decide +kernel

/-- R39: mfs of FLAGS shows H in bit 8; number 7 traps ILLOP. -/
theorem witness_SpecialRegisters : ((
    let s := run0 (fun x => { x with hmode := true, cpu := { x.cpu with n := true } }) [(2, 9)]; canB s (.ctx 0) 1 &&
      ok (.mfs (.ctx 0) 1 0) s (fun t => (t.cpu (.ctx 0)).get 1 = 0x102) && ok (.mts (.ctx 0) 0 2) s (fun t => let x := (t.ctx 0).cpu; x.z && !x.n &&
      !x.c && x.v) && ok (.mfs (.ctx 0) 1 7) s (fun t => (t.ctx 0).st = .trapped && (t.ctx 0).tcause = 1)) : Bool) = true := by decide +kernel

/-- R66, R67: sys with a handler enters it with the pc of the next instruction saved, and eret returns there. -/
theorem witness_SystemTrapAndReturn : ((
    let s := run0 (fun x => { x with vecValid := true, vec := 0x40, cpu := { x.cpu with pc := 8 } }); canB s (.ctx 0) 2 &&
      ok (.sysTrap (.ctx 0) 3) s (fun t => (t.ctx 0).cpu.pc = 0x40 && (t.ctx 0).hmode && (t.ctx 0).tpc = 12 && (t.ctx 0).tcause = 9 &&
      (t.ctx 0).tval = 3 && (t.ctx 0).steps = 5 && canB t (.ctx 0) 2 && ok (.eret (.ctx 0)) t (fun u => (u.ctx 0).cpu.pc = 12 && !(u.ctx 0).hmode)) &&
      ok (.eret (.ctx 0)) s (fun t => (t.ctx 0).tcause = 1)) : Bool) = true := by decide +kernel

/-- R59, R76: the word 0 traps ILLOP; fence on a gate sequencer and recv in a packet-profile context trap PROFILE. -/
theorem witness_IllegalAndUnpermittedTrap : ((
    let s := run0 (fun x => { x with packet := true }); let g := up.setGate 2 { st := .ready, loader := 2 }; canB s (.ctx 0) 1 &&
      canB g (.gate 2) 1 && decodeListed (.ctx 0) 0 = none && ok (.reservedOpcode (.ctx 0) 0) s (fun t => (t.ctx 0).tcause = 1) &&
      ok (.fence (.gate 2)) g (fun t => (t.gate 2).st = .trapped && (t.gate 2).tcause = 2) &&
      ok (.recv (.ctx 0) 1 2 3) s (fun t => (t.ctx 0).tcause = 2)) : Bool) = true := by decide +kernel

/-- R71: with STEPLIMIT 10 and 9 steps counted, an instruction of 2 steps does not issue. -/
theorem witness_StepLimitTraps : ((
    let s := run0 (fun x => { x with packet := true, counting := true, pktSteps := 9, cpu := { x.cpu with pc := 16 } }) [] (up.wr Fld.PR_ENG_CTRL_STEPLIMIT 10);
      canB s (.ctx 0) 1 &&
      !canB s (.ctx 0) 2 && s.rd Fld.PR_ENG_CTRL_STEPLIMIT = 10 && ok (.steplimitTrap 0 2) s (fun t => (t.ctx 0).st = .trapped &&
      (t.ctx 0).tcause = 0x0A && (t.ctx 0).tval = 9 && (t.ctx 0).tpc = 16 && (t.ctx 0).steps = 0 &&
      !(t.ctx 0).counting)) : Bool) = true := by decide +kernel

/-! ## Memory -/

/-- R42: a load at the last byte of L, one past it and one not aligned. -/
theorem witness_LoadsFromL : ((let s := ((run0 id [(2, 0x1FFFF), (3, 0x1FFFE)]).writeL (.ctx 0) 0x1FFFF [0x80]); canB s (.ctx 0) 1 &&
      Fits (address s (.ctx 0) 2 0) 1 0x20000 && ok (.lds (.ctx 0) 1 2 .l .b8 0 .clean) s (fun t => (t.cpu (.ctx 0)).get 1 = 0xFFFFFFFFFFFFFF80) &&
      ok (.ld (.ctx 0) 1 3 .l .b16 0 .clean) s (fun t => (t.cpu (.ctx 0)).get 1 = 0x8000) &&
      ok (.ld (.ctx 0) 1 2 .l .b8 1 .clean) s (fun t => (t.ctx 0).tcause = 4 && (t.ctx 0).tval = 0x20000) &&
      ok (.ld (.ctx 0) 1 2 .l .b64 1 .double) s (fun t => (t.ctx 0).tcause = 4) &&
      ok (.ld (.ctx 0) 1 2 .l .b16 0 .clean) s (fun t => (t.ctx 0).tcause = 3) &&
      ok (.ld (.ctx 0) 1 2 .l .b8 0 .double) s (fun t => (t.ctx 0).tcause = 8)) : Bool) = true := by decide +kernel

/-- R49: a corrected error is counted. -/
theorem witness_CorrectedErrorIsCounted : ((let s := (run0).writeL (.ctx 0) 8 [7]; canB s (.ctx 0) 1 && Fits (address s (.ctx 0) 0 8) 8 0x20000 &&
      ok (.ld (.ctx 0) 1 0 .l .b64 8 .single) s (fun t => (t.cpu (.ctx 0)).get 1 = 7 && t.rd Fld.PR_ENG_ECC_LCORR = 1 &&
      memB s t)) : Bool) = true := by decide +kernel

/-- R55: a load from S waits with its step charged, and completes with the bytes of S. -/
theorem witness_LoadsThatWait : ((let s := (run0 id [(2, 0xFFFFF8)]).writeS 0xFFFFF8 [1, 2]; canB s (.ctx 0) 1 &&
      Fits (address s (.ctx 0) 2 0) 8 0x1000000 &&
      ok (.ld (.ctx 0) 1 2 .s .b64 0 .clean) s (fun t => onlyCtxB s t 0 (waiting (s.ctx 0) 1 (.load 1 .s 0xFFFFF8 8 false .clean)) &&
      ok (.memoryAccessComplete (.ctx 0)) t (fun u => onlyCtxB t u 0 (resumed 0 (t.ctx 0) 1 0x201)))) : Bool) = true := by decide +kernel

/-- R55: the same from the data partition of HBM. -/
theorem test_load_hbm : ((let s := (run0 id [(2, 0x1000)]); Fits (address s (.ctx 0) 2 4) 4 (s.partBytes 3) &&
      ok (.lds (.ctx 0) 1 2 .h .b32 4 .clean) s (fun t => onlyCtxB s t 0 (waiting (s.ctx 0) 1 (.load 1 .h 0x1004 4 true .clean)) &&
      ok (.memoryAccessComplete (.ctx 0)) t (fun u => (u.ctx 0).st = .ready))) : Bool) = true := by decide +kernel

/-- R40, R47: a store to L at once; a store to S posted, then applied, and the waiting fence completes. -/
theorem witness_StoresToMemory : ((let s := run0 id [(2, 0x1FFF8), (3, 0x1122334455667788)]; canB s (.ctx 0) 1 &&
      ok (.st (.ctx 0) 3 2 .l .b32 4) s (fun t => t.readL (.ctx 0) 0x1FFFC 4 = [0x88, 0x77, 0x66, 0x55] &&
      t.readL (.ctx 0) 0x1FFF8 4 = [0, 0, 0, 0] && unitsB s t && regsB s t []) &&
      ok (.st (.ctx 0) 3 2 .s .b16 0) s (fun t => onlyCtxB s t 0 { charged (s.ctx 0) 1 with cpu := onward (.ctx 0) (s.cpu (.ctx 0)), posted := [{ sp := .s, addr := 0x1FFF8, data := [0x88, 0x77] }] }) &&
      ok (.st (.ctx 0) 3 2 .l .b64 8) s (fun t => (t.ctx 0).tcause = 4)) : Bool) = true := by decide +kernel

theorem witness_PostedStoresAndFence : ((
    let s := run0 (fun x => { x with posted := [{ sp := .s, addr := 16, data := [0xAB] }] }); canB s (.ctx 0) 1 &&
      ok (.fence (.ctx 0)) s (fun t => onlyCtxB s t 0 (waiting (s.ctx 0) 1 .fence) &&
      ok (.postedStoreComplete (.ctx 0)) t (fun u => u.readS 16 1 = [0xAB] &&
      u.ctx 0 = { t.ctx 0 with posted := [], cpu := onward (.ctx 0) (t.ctx 0).cpu, st := .ready, wait := none })) &&
      ok (.fence (.ctx 0)) (run0) (fun t => (t.ctx 0).cpu.pc = 4)) : Bool) = true := by decide +kernel

/-- R46: cas that matches and cas that does not; aadd on K is not listed. -/
theorem witness_AtomicsOnL : ((let s := (run0 id [(1, 5), (2, 8), (3, 9)]).writeL (.ctx 0) 8 [5]; canB s (.ctx 0) 2 &&
      Fits ((s.cpu (.ctx 0)).get 2) 8 0x20000 && ok (.cas (.ctx 0) 1 2 3 .l .clean) s (fun t => t.readL (.ctx 0) 8 2 = [9, 0] &&
      (t.cpu (.ctx 0)).get 1 = 5 && (t.ctx 0).steps = 2) && ok (.cas (.ctx 0) 3 2 1 .l .clean) s (fun t => t.readL (.ctx 0) 8 2 = [5, 0] &&
      (t.cpu (.ctx 0)).get 3 = 5) && ok (.aadd (.ctx 0) 1 2 .l .b32 0 .clean) s (fun t => t.readL (.ctx 0) 8 2 = [10, 0] &&
      (t.cpu (.ctx 0)).get 1 = 5) && ok (.aadd (.ctx 0) 1 2 .k .b32 0 .clean) s (fun t => (t.ctx 0).tcause = 1)) : Bool) = true := by decide +kernel

/-! ## Messages -/

/-- R81, R84: a message of two words to context 8, its arrival and its status; a destination of kind 2 is refused. -/
theorem witness_SendLaunchesMessage : ((
    let s := ((run0 id [(2, 0x6000000008), (3, 16), (4, 0x80000)]).setCtx 8 { loader := 2 }).writeL (.ctx 0) 16 [1, 2]; canB s (.ctx 0) 2 &&
      destination 0x6000000008 = some (.ctx 8) && destination 0x80000 = none && destination 0x40090 = some (.gate 144) &&
      destination 0x40091 = none && ok (.send (.ctx 0) 1 2 3 1) s (fun t => t.ctx 0 = waiting (s.ctx 0) 2 (.send 1 none none) &&
      t.pre.flights = [sent (.ctx 0 0 2) 0x6000000008 [0x201, 0] (.ctx 8)] && ok (.messageArrive 0) t (fun u => u.pre.flights = [] &&
      (u.ctx 8).mbx.length = 1 && (u.ctx 0).wait = some (.send 1 none (some 0)) &&
      ok (.sendStatusReturn 0) u (fun w => onlyCtxB u w 0 (resumed 0 (u.ctx 0) 1 0)))) &&
      ok (.send (.ctx 0) 1 4 3 1) s (fun t => t.ctx 0 = waiting (s.ctx 0) 2 (.send 1 none (some 0x0C)) && t.pre.flights = []) &&
      ok (.send (.ctx 0) 1 2 2 1) s (fun t => (t.ctx 0).tcause = 4)) : Bool) = true := by decide +kernel

/-- R83: with 13 entries the message enters, with 14 it is refused and counted. -/
theorem witness_MessageArrivalAndStatus : ((
    let m : Msg := { sender := .ctx 0 0 2, tag := 0, body := [1], dword := some 8 };
      let s := fun (n : Nat) => ({ up with pre := { up.pre with flights := [{ msg := m, dest := .ctx 8 }] } }.setCtx 0 { st := .waiting, loader := 2, wait := some (.send 1 none none) }).setCtx 8 { loader := 2, mbx := List.replicate n m }; ok (.messageArrive 0) (s 13) (fun t => (t.ctx 0).wait = some (.send 1 none (some 0)) &&
      (t.ctx 8).mbx.length = 14) && ok (.messageArrive 0) (s 14) (fun t => (t.ctx 0).wait = some (.send 1 none (some 0x0B)) &&
      (t.ctx 8).mbx.length = 14 && t.rd Fld.PR_CTX_MBX_REFUSED 8 = 1 &&
      ok (.sendStatusReturn 0) t (fun u => (u.cpu (.ctx 0)).get 1 = 0x800000000000000B))) : Bool) = true := by decide +kernel

/-- R85, R86: recv waits, takes the head message with its header, and returns 0 at its deadline. -/
theorem witness_ReceiveTakesHeadMessage : ((
    let m : Msg := { sender := .ctx 3 1 2, tag := 7, body := [0x1234], dword := some 0 }; let s := run0 (fun x => { x with mbx := [m] }) [(2, 0x1FFF8), (3, 0x100)];
      canB s (.ctx 0) 1 &&
      ok (.recv (.ctx 0) 1 2 3) s (fun t => onlyCtxB s t 0 (waiting (s.ctx 0) 1 (.recv 1 0x1FFF8 (some 1))) &&
      ok (.recvMessageTaken (.ctx 0)) t (fun u => u.ctx 0 = resumed 0 { t.ctx 0 with mbx := [] } 1 m.header &&
      u.readL (.ctx 0) 0x1FFF8 2 = [0x34, 0x12])) &&
      (let w := run0 (fun x => { x with st := .waiting, wait := some (.recv 1 0 (some 0)) });
      ok (.recvDeadline (.ctx 0)) w (fun u => onlyCtxB w u 0 (resumed 0 (w.ctx 0) 1 0)))) : Bool) = true := by decide +kernel

/-- R88, R102: a timer that has expired sends its message and is disarmed. -/
theorem witness_TimerMessages : ((
    let s := run0 (fun x => { x with timers := [(3, { armed := true, target := 0, tag := 5 })], mbx := List.replicate 15 { sender := .timer 0, tag := 0, body := [], dword := none } }); ok (.timerExpiry 0 3) s (fun t => (t.ctx 0).mbx.length = 16 &&
      ((t.ctx 0).mbx.getLast?.map (·.body)) = some [0] && (t.ctx 0).timers = []) &&
      (let w := { (run0) with pre := { (run0).pre with expiries := [{ c := 0, t := 1, target := 2, tag := 3, missed := 0x12345, stored := false }] } };
      ok (.pendingMessageRelease 0) w (fun t => t.pre.expiries = [] &&
      (t.ctx 0).mbx.map (·.body) = [[BitVec.ofNat 64 (0x200 + 0xFFFF * 2 ^ 40)]]))) : Bool) = true := by decide +kernel

/-- R65, R68: the checks of cwr in their order, a write of PR_STM_ADDR and a read of it. -/
theorem witness_RegisterAccessFromProgram : ((
    let s := run0 id [(2, 0x01400000), (3, 0x1234567)]; let z := run0 (fun x => { x with auth := 0 }) [(2, 0x01400000)]; canB s (.ctx 0) 1 &&
      ok (.cwr (.ctx 0) 2 3) s (fun t => (t.ctx 0).st = .waiting && t.rd Fld.PR_STM_ADDR_ADDR = 0x234564 && (t.ctx 0).steps = 1 && memB s t &&
      regsB s t (.PR_STM_ADDR :: voteRegs) && ok (.memoryAccessComplete (.ctx 0)) t (fun u => (u.ctx 0).st = .ready)) &&
      ok (.creg (.ctx 0) 1 2) s (fun t => match (t.ctx 0).wait with
      | some (.access rd w) => rd = 1 && w = 0 && onlyCtxB s t 0 (waiting (s.ctx 0) 1 (.access 1 w))
      | _ => false) && ok (.creg (.ctx 0) 1 2) z (fun t => (t.ctx 0).tcause = 5 && (t.ctx 0).tval = 0x01400000)) : Bool) = true := by decide +kernel

/-- R65: ALIGN before BOUNDS, BOUNDS before AUTH; ASLEEP has the domain above the offset. -/
theorem test_access_checks : ((
    let s := run0 id [(2, 0x10000001), (3, 0x10000000), (4, 0x01400000)] ((up.wr Fld.PW_DOM_STATUS_DEPTH 2 1));
      ok (.creg (.ctx 0) 1 2) (run0 id [(2, 0x10000001)]) (fun t => (t.ctx 0).tcause = 3) &&
      ok (.creg (.ctx 0) 1 3) (run0 id [(3, 0x10000000)]) (fun t => (t.ctx 0).tcause = 4) && s.asleep 1) : Bool) = true := by decide +kernel

/-! ## Hardware calls -/

/-- R102: timers 0 to 2 armed, the fourth is taken; with all four armed the answer is NOSLOT. -/
theorem witness_TimerCalls : ((
    let k : Timer := { armed := true, target := 9 };
      let s := run0 (fun x => { x with timers := [(0, k), (1, k), (2, k)] }) [(2, 0x70000000500), (3, 3), (4, 0x100)]; canB s (.ctx 0) 2 &&
      ok (.tbTimer (.ctx 0) 1 2) s (fun t => t.agentWait (.ctx 0) = some (.hcall 1 0x50 0x70000000500 (some 3)) &&
      Tab.get (t.ctx 0).timers {} 3 = { armed := true, target := 5, tag := 7 } &&
      ok (.tbTimer (.ctx 0) 1 2) (t.setCtx 0 { t.ctx 0 with st := .ready, wait := none }) (fun u => u.agentWait (.ctx 0) = some (.hcall 1 0x50 0x70000000500 (some (status 7)))) &&
      ok (.hcallComplete (.ctx 0)) t (fun u => onlyCtxB t u 0 (resumed 0 (t.ctx 0) 1 3))) &&
      ok (.tbCancel (.ctx 0) 1 3) s (fun t => Tab.get (t.ctx 0).timers {} 3 = {} && t.agentWait (.ctx 0) = some (.hcall 1 0x51 3 (some 0))) &&
      ok (.pwNext (.ctx 0) 1 4) s (fun t => (t.ctx 0).pnext = some 1 &&
      t.agentWait (.ctx 0) = some (.hcall 1 0x62 0x100 (some 0)))) : Bool) = true := by decide +kernel

/-- R497: the first vote for domain 12 takes slot 0, whose ticket frees it; domain 13 is RANGE, head-end authority AUTH. -/
theorem witness_VoteCalls : ((let s := run0 id [(2, 12), (3, 0xC00), (4, 13)]; canB s (.ctx 0) 2 &&
      ok (.pwVote (.ctx 0) 1 2) s (fun t => t.agentWait (.ctx 0) = some (.hcall 1 0x60 12 (some 0xC00)) && Tab.get t.pow.owner 0 (32 * 12) = 1 &&
      ok (.pwUnvote (.ctx 0) 1 3) (t.setCtx 0 { t.ctx 0 with st := .ready, wait := none }) (fun u => u.agentWait (.ctx 0) = some (.hcall 1 0x61 0xC00 (some 0)) &&
      u.pow.owner = [])) && ok (.pwVote (.ctx 0) 1 4) s (fun t => t.agentWait (.ctx 0) = some (.hcall 1 0x60 13 (some (status 6)))) &&
      ok (.pwVote (.ctx 0) 1 2) (s.setCtx 0 { s.ctx 0 with auth := 3 }) (fun t => t.agentWait (.ctx 0) = some (.hcall 1 0x60 12 (some (status 5))))) : Bool) = true := by decide +kernel

/-- R94: the answer of a call returns in rd; pw.vote with WAIT keeps waiting while its domain sleeps. -/
theorem witness_CallResultIsReturned : ((
    let w := fun (arg r : Quad) => run0 (fun x => { x with st := .waiting, wait := some (.hcall 1 0x60 arg (some r)) });
      ok (.hcallComplete (.ctx 0)) (w 0x105 0x500) (fun t => onlyCtxB (w 0x105 0x500) t 0 (resumed 0 ((w 0x105 0x500).ctx 0) 1 0x500)) &&
      (let z := (w 0x105 0x500).wr Fld.PW_DOM_STATUS_DEPTH 1 5; z.asleep 5 && still (.hcallComplete (.ctx 0)) z)) : Bool) = true := by decide +kernel

/-- R459, R477: depth of an empty queue, delay before the first sample, packet numbers left, flow counters. -/
theorem witness_QueryCalls : ((let s := run0 id [(2, 3)]; canB s (.ctx 0) 2 && s.asleep 4 = false && s.asleep 5 = false && s.asleep 8 = false &&
      ok (.tmDepth (.ctx 0) 1 2) s (fun t => t.agentWait (.ctx 0) = some (.hcall 1 0x30 3 (some 0))) &&
      ok (.tmDelay (.ctx 0) 1 2) s (fun t => t.agentWait (.ctx 0) = some (.hcall 1 0x31 3 (some (status 8)))) &&
      ok (.cxPnleft (.ctx 0) 1 2) s (fun t => t.agentWait (.ctx 0) = some (.hcall 1 0x41 3 (some (BitVec.ofNat 64 (s.pnLeft 3))))) &&
      ok (.svFlowstat (.ctx 0) 1 2) { s with sv := { s.sv with fsProg := [(3, (100, 2))] } } (fun t => t.agentWait (.ctx 0) = some (.hcall 1 0x21 3 (some 0x20000000064)) &&
      t.sv.fsProg = [])) : Bool) = true := by decide +kernel

/-- R400: an exact-match lookup of a key that no entry holds. -/
theorem test_sv_lookup : ((let s := run0; keyFormed (List.replicate 8 0) &&
      ok (.svLookup (.ctx 0) 1 0) s (fun t => t.agentWait (.ctx 0) = some (.hcall 1 0x20 0 (some (status 8))))) : Bool) = true := by decide +kernel

/-- R420, R424, R426, R487: a buffer is allocated and freed by its owner; an unwrap is queued. R65: creg of a reserved offset, of a register without authority, and of a sleeping domain; cwr of a plain register. -/
theorem test_creg : ((let s := run0 id [(2, 0x0000004C), (3, 0x04000000), (4, 0x12), (5, 0x04000010), (6, 0x00030014)]; Loc.find 0x4C = none &&
      ok (.creg (.ctx 0) 1 2) s (fun t => (t.ctx 0).wait = some (.access 1 0)) &&
      ok (.creg (.ctx 0) 1 3) (s.wr Fld.PW_DOM_STATUS_DEPTH 1 4) (fun t => (t.ctx 0).tcause = 6 && (t.ctx 0).tval = 0x404000000) &&
      ok (.creg (.ctx 0) 1 6) s (fun t => (t.ctx 0).wait = some (.access 1 (s.rdReg .PW_CFG)) || Loc.find 0x00030014 ≠ some { reg := .PW_CFG, i := 0, k := 0, high := false }) &&
      ok (.creg (.ctx 0) 1 2) (run0 id [(2, 0x10000000)]) (fun t => (t.ctx 0).tcause = 4) &&
      ok (.creg (.ctx 0) 1 2) (run0 id [(2, 0x0F000000)]) (fun t => (t.ctx 0).wait = some (.access 1 0))) : Bool) = true := by decide +kernel

theorem witness_BufferAndUnwrapCalls : ((let s := run0 id [(2, 1)]; canB s (.ctx 0) 2 &&
      ok (.ldAlloc (.ctx 0) 1 2) s (fun t => match t.agentWait (.ctx 0) with
      | some (.hcall 1 0x10 1 (some r)) => (r = status 3 || (t.ledger (r.toNat % 2 ^ 27)) = { owner := 0, gen := r.toNat / 2 ^ 30 % 256, pool := 1, alloc := true })
      | _ => false) && ok (.cxUnwrap (.ctx 0) 1 0) s (fun t => t.agentWait (.ctx 0) = some (.hcall 1 0x40 0 (some 0)) &&
      t.cx.unwraps.map (·.seq) = [s.cx.nextSeq] && t.cx.nextSeq = s.cx.nextSeq + 1)) : Bool) = true := by decide +kernel

theorem test_ld_free : ((
    let s := run0 id [(2, 5 * 2 ^ 30 + 0x1000)];
      let l := fun (o : Nat) => { s with ld := { s.ld with ledger := [(0x1000, { owner := o, gen := 5, pool := 0, alloc := true })] } };
      (l 0).handleFormed (5 * 2 ^ 30 + 0x1000) &&
      ok (.ldFree (.ctx 0) 1 2) (l 0) (fun t => (t.ledger 0x1000).alloc = false &&
      t.agentWait (.ctx 0) = some (.hcall 1 0x11 ((s.cpu (.ctx 0)).get 2) (some 0))) && ok (.ldFree (.ctx 0) 1 2) (l 1) (fun t => t.ld = (l 1).ld &&
      t.agentWait (.ctx 0) = some (.hcall 1 0x11 ((s.cpu (.ctx 0)).get 2) (some (status 4))))) : Bool) = true := by decide +kernel

/-- R96 to R100: what a program does with its packet. -/
theorem witness_PacketReleaseCalls : ((
    let p : Packet := { handle := 0, flow := 3, len := 68 }; let s := run0 (fun x => { x with packet := true, pkt := some p }) [(2, 8), (3, 9)]; canB s (.ctx 0) 4 &&
      s.asleep 4 = false && (s.eng 0).order.all (fun x => x.1 = 0 || x.2 ≠ 3) &&
      ok (.pktDrop (.ctx 0) 1 0) s (fun t => t.agentWait (.ctx 0) = some (.hcall 1 0x03 0 (some 0)) && (t.ctx 0).pkt = none &&
      t.rd Fld.PR_ENG_PROGDROP_COUNT = 1) && ok (.pktRecirc (.ctx 0) 1 0) s (fun t => t.agentWait (.ctx 0) = some (.hcall 1 0x04 0 (some 0)) &&
      (t.ctx 0).pkt = none && (Tab.get t.sv.rx [] 145).map (fun x => (x.pass2, x.flow)) = [(true, 3)]) &&
      ok (.pktRecirc (.ctx 0) 1 0) (s.setCtx 0 { s.ctx 0 with pkt := some { p with pass2 := true } }) (fun t => t.agentWait (.ctx 0) = some (.hcall 1 0x04 0 (some (status 9))) &&
      (t.ctx 0).pkt = some { p with pass2 := true }) &&
      ok (.pktSend (.ctx 0) 1 2) s (fun t => (t.agentWait (.ctx 0) = some (.hcall 1 0x02 8 (some 0)) || t.agentWait (.ctx 0) = some (.hcall 1 0x02 8 (some (status 0x0A)))) &&
      (t.ctx 0).pkt = none) && ok (.pktDup (.ctx 0) 1 2) s (fun t => (t.ctx 0).pkt = some p) &&
      ok (.pktEmit (.ctx 0) 1 3) s (fun t => (t.ctx 0).pkt = some p &&
      t.agentWait (.ctx 0) = some (.hcall 1 0x06 9 (some (status 6))))) : Bool) = true := by decide +kernel

/-- R101: an emit of 64 bytes from L. -/
theorem test_pkt_emit : ((
    let s := ((run0 (fun x => { x with packet := true, pkt := some {} }) [(2, 0x10)]).writeL (.ctx 0) 0x10 (bytes (5 + 64 * 2 ^ 12) 8));
      let w := little (s.readL (.ctx 0) 0x10 8); w < 2 ^ 35 &&
      w / 2 ^ 12 % 2 ^ 14 = 64 && ok (.pktEmit (.ctx 0) 1 2) s (fun t => match t.agentWait (.ctx 0) with
      | some (.hcall 1 0x06 _ (some r)) => (r = 0 || r = status 3 || r = status 0x0A) && (t.ctx 0).pkt = some {}
      | _ => false)) : Bool) = true := by decide +kernel

/-- R96: pkt.next waits, and the delivery of the head of the engine's queue. -/
theorem witness_PacketNextAndDelivery : ((
    let p : Packet := { handle := 5, flow := 3, len := 68, data := [1] };
      let s := run0 (fun x => { x with packet := true }) [(7, 9)] ({ up with tm := { up.tm with queues := [(3200, [p])] } }); canB s (.ctx 0) 2 &&
      ok (.pktNext (.ctx 0) 4 0) s (fun t => onlyCtxB s t 0 (waiting (s.ctx 0) 2 (.pktNext 4)) && t.nextTaker 0 = some 0 &&
      ok (.packetDelivery 0) t (fun u => (u.ctx 0).pkt = some p && (u.ctx 0).cpu.get 1 = p.words.1 && (u.ctx 0).cpu.get 2 = p.words.2.1 &&
      (u.ctx 0).cpu.get 3 = p.words.2.2 && (u.ctx 0).cpu.get 4 = p.words.1 && (u.ctx 0).cpu.get 7 = 9 && (u.ctx 0).counting && u.queue 3200 = [] &&
      (u.ctx 0).st = .ready)) &&
      ok (.pktNext (.ctx 0) 4 0) (s.setCtx 0 { s.ctx 0 with pkt := some p }) (fun t => (t.ctx 0).wait = some (.hcall 4 0x01 0 (some (status 1))))) : Bool) = true := by decide +kernel

/-- R77, R79, R112: events 912 and 911, auth.narrow from host to head end and back, and a call number that the table lacks. -/
theorem witness_EventAuthorityAndGateCalls : ((let s := run0 id [(2, 912), (3, 911), (4, 3), (5, 2)]; canB s (.ctx 0) 2 &&
      ok (.evRaise (.ctx 0) 1 2) s (fun t => t.agentWait (.ctx 0) = some (.hcall 1 0x78 912 (some 0)) && t.cp.latch.length + t.outs.length ≤ 1) &&
      ok (.evRaise (.ctx 0) 1 3) s (fun t => t.agentWait (.ctx 0) = some (.hcall 1 0x78 911 (some (status 6))) && t.cp = s.cp) &&
      ok (.authNarrow (.ctx 0) 1 4) s (fun t => (t.ctx 0).auth = 3 && (t.cpu (.ctx 0)).get 1 = 0 && (t.ctx 0).cpu.pc = 4) &&
      ok (.authNarrow (.ctx 0) 1 5) s (fun t => (t.ctx 0).auth = 2 && (t.cpu (.ctx 0)).get 1 = status 6) &&
      ok (.unknownHcall (.ctx 0) 1 2 0xFF) s (fun t => (t.ctx 0).tcause = 0x0B && (t.ctx 0).tval = 0xFF)) : Bool) = true := by decide +kernel

/-- R105: gt.edge with 15 edges pending, and gt.flush of those later than its time. -/
theorem test_gate_calls : ((
    let s := (up.setGate 2 { st := .ready, loader := 2, cpu := { g := [(2, 0x0100000500)] }, edges := (List.range 15).map (fun k => (BitVec.ofNat 32 k, 1)) });
      canB s (.gate 2) 2 &&
      ok (.gtEdge (.gate 2) 1 2) s (fun t => t.agentWait (.gate 2) = some (.hcall 1 0x80 0x0100000500 (some 0)) &&
      (t.gate 2).edges.getLast? = some (0x01000005, 0)) &&
      ok (.gtFlush (.gate 2) 1 2) (s.setGate 2 { s.gate 2 with cpu := { g := [(2, 0x500)] } }) (fun t => t.agentWait (.gate 2) = some (.hcall 1 0x81 0x500 (some 9)) &&
      (t.gate 2).edges.length = 6)) : Bool) = true := by decide +kernel

/-! ## Contexts and gate sequencers -/

/-- R52: START from Idle clears flags and keeps registers; STOP of a waiting fence waits for its boundary; RESET clears the registers. -/
theorem witness_ContextCommands : ((
    let s := up.setCtx 9 { loader := 2, auth := 2, cpu := { g := [(1, 2)], z := true } }; decide (Accepted s .serial (contextBlock 9) 0x10) &&
      decide (Accepted s .serial (contextBlock 9) 0x20) && decide (Accepted s .serial (contextBlock 9) 0x30) &&
      ok (.contextStart .serial 9) s (fun t => (t.ctx 9).st = .ready && (t.ctx 9).cpu.flagBits = 0 && (t.ctx 9).cpu.get 1 = 2 &&
      ok (.contextStop .serial 9) t (fun u => u.ctx 9 = { t.ctx 9 with st := .stopped, wait := none, after := .go } &&
      ok (.contextReset .serial 9) u (fun w => (w.ctx 9).st = .idle && (w.ctx 9).cpu = {} && (w.ctx 9).auth = 2))) &&
      ok (.contextStop .serial 9) (s.setCtx 9 { s.ctx 9 with st := .waiting, wait := some .fence }) (fun t => (t.ctx 9).st = .waiting &&
      (t.ctx 9).after = .stop)) : Bool) = true := by decide +kernel

/-- R364: START at word 3 of a gate sequencer, STOP and RESET; port 144 has its block in D9. -/
theorem witness_GateCommands : ((
    let s := up.setGate 144 { loader := 2, edges := [(5, 1)] }; decide (Accepted s .serial (portBlock 144 + 0x3000) (3 * 2 ^ 18 + 1)) &&
      ok (.gateStart .serial 144 0xC0001) s (fun t => (t.gate 144).st = .ready && (t.gate 144).cpu.pc = 12 &&
      ok (.gateStop .serial 144 2) t (fun u => (u.gate 144).st = .stopped && ok (.gateReset .serial 144 3) u (fun w => (w.gate 144).st = .idle &&
      (w.gate 144).edges = [] && w.rd Fld.GT_GATES_OPEN 144 = 0xFF)))) : Bool) = true := by decide +kernel

/-- R89: the host mailbox of engine 127. -/
theorem witness_HostMailbox : ((
    let s := (up.wrReg .PR_HMSG_DEST 9 127).wrReg .PR_HMSG_BODY 0x77 127 1; decide (Accepted s .serial (engineBlock 127 + 0x20) 0x9) &&
      s.on Fld.PR_HMSG_STATUS_DONE 127 && destination 9 = some (.ctx 9) &&
      ok (.hostMessageGo .serial 127 0x9) s (fun t => !t.on Fld.PR_HMSG_STATUS_DONE 127 && t.pre.flights = [sent (.host 127) 9 [0, 0x77] (.ctx 9)] &&
      (t.eng 127).hmsg = none) && ok (.hostMessageGo .serial 127 0x9) (s.wrReg .PR_HMSG_DEST 0x80000 127) (fun t => (t.eng 127).hmsg = some 0x0C &&
      t.pre.flights = [] && ok (.hostMessageDone 127) t (fun u => u.on Fld.PR_HMSG_STATUS_DONE 127 &&
      u.rd Fld.PR_HMSG_STATUS_CODE 127 = 0x0C))) : Bool) = true := by decide +kernel

/-- R73, R129: the windows onto L, instruction memory and S. -/
theorem witness_MemoryWindows : ((
    let s := (up.wr Fld.PR_MEM_ADDR_ADDR 8 3).wr Fld.PR_STM_ADDR_ADDR 0xFFFFFC; let l := s.wr Fld.PR_MEM_ADDR_SPACE 1 3;
      decide (Accepted s .serial (engineBlock 3 + 0x14) 0x01020304) &&
      decide (Readable s .serial (engineBlock 3 + 0x14)) && decide (Accepted s .serial 0x01400004 5) && decide (Readable s .serial 0x01400004) &&
      ok (.prMemDataAccess .serial 3 (some 0x01020304)) s (fun t => Tab.get (t.eng 3).imem 0 2 = 0x01020304 && (t.eng 3).lmem = [] &&
      ok (.prMemDataAccess .serial 3 none) (t.wr Fld.PR_MEM_ADDR_ADDR 8 3) (fun u => u.outs.head? = some (.regRead .serial 0x01020304))) &&
      ok (.prMemDataAccess .serial 3 (some 0x01020304)) l (fun t => Tab.read (t.eng 3).lmem 0 8 4 = [4, 3, 2, 1] && (t.eng 3).imem = []) &&
      ok (.prMemDataAccess .serial 3 (some 7)) (s.setCtx 24 { st := .ready }) (fun t => (t.eng 3).imem = []) &&
      ok (.prStmDataAccess .serial (some 5)) s (fun t => t.readS 0xFFFFFC 4 = [5, 0, 0, 0] &&
      ok (.prStmDataAccess .serial none) t (fun u => memB t u && u.outs.head?.isSome))) : Bool) = true := by decide +kernel

/-- R129, R132: a load of an engine and of a gate sequencer starts and, as nothing stands at its source, fails. -/
theorem witness_ImageLoads : ((let s := up; decide (Accepted s .serial (engineBlock 16 + 0x38) 1) &&
      decide (Accepted s .serial (portBlock 0 + 0x3018) 1) && ok (.engineLoadGo .serial 16 1) s (fun t => t.on Fld.PR_LOAD_STATUS_BUSY 16 &&
      match (t.eng 16).load with
      | some j => j.code ≠ 0 && j.code < 256 && (loadDomains (t.rdReg .PR_LOAD_SRC 16) 2).all (fun d => !t.asleep d) &&
      ok (.engineLoadComplete 16) t (fun u => !u.on Fld.PR_LOAD_STATUS_BUSY 16 && u.rd ⟨.PR_LOAD_STATUS, 0, 8⟩ 16 = j.code && u.pre.ctxs = t.pre.ctxs)
      | none => false) && ok (.gateLoadGo .serial 0 1) s (fun t => t.on Fld.GT_LOAD_STATUS_BUSY 0 && match (t.gate 0).load with
      | some j => ok (.gateLoadComplete 0) t (fun u => !u.on Fld.GT_LOAD_STATUS_BUSY 0 && u.rd ⟨.GT_LOAD_STATUS, 0, 8⟩ 0 = j.code)
      | none => false)) : Bool) = true := by decide +kernel

/-- R132: a load that is good binds its contexts. -/
theorem test_load_binds : ((
    let s := up.setEng 16 { up.eng 16 with load := some { code := 0, mask := 0x82, loader := 2, codeWords := [7] } };
      ok (.engineLoadComplete 16) s (fun t => (t.ctx 129).packet &&
      (t.ctx 129).auth = 2 && (t.ctx 129).gen = 1 && (t.ctx 135).gen = 1 && (t.ctx 128).gen = 0 &&
      t.rd ⟨.PR_LOAD_STATUS, 0, 8⟩ 16 = 0)) : Bool) = true := by decide +kernel

/-- R73: with STEP in single mode, one nop issues; without it only the register is written. -/
theorem witness_SingleStepIssuesOneWord : ((
    let s := ((up.setCtx 7 { st := .ready, loader := 2, auth := 2, cpu := { pc := 4 } }).setEng 0 { up.eng 0 with imem := [(1, 0x04000000)] });
      decide (Accepted s .serial (engineBlock 0) 0x380) &&
      ok (.engineSingleStep .serial 0 0x380) s (fun t => (t.ctx 7).cpu.pc = 8 && (t.ctx 7).steps = 1 && !(t.eng 0).stepDue && (t.eng 0).last = 7) &&
      ok (.engineSingleStep .serial 0 0x50080) s (fun t => (t.ctx 7).cpu.pc = 4 && t.rd Fld.PR_ENG_CTRL_STEPLIMIT 0 = 5 &&
      t.rd Fld.PR_ENG_CTRL_CTXEN 0 = 0x80)) : Bool) = true := by decide +kernel

/-! ## Start-up and the Kettle -/

theorem witness_StepRunsFrontCommand : ((match step { up with pending := [.nop (.ctx 0), .pcieReset] } with
      | .next t => t.pending = [.pcieReset]
      | _ => false) : Bool) = true := by decide +kernel

/-- Before the input is valid nothing happens; the running device is one that ticks. -/
theorem witness_EmptyQueueTicksTimebase : ((!State.reset.boot.inputValid && State.reset.pending = [] && up.pending = [] && up.boot.inputValid &&
      2 ≤ up.rd Fld.KT_BOOT_STATUS_STAGE) : Bool) = true := by decide +kernel

/-- R113, R119: stage by stage. R131, R365: a load that has been checked writes its words and bytes and binds. -/
theorem test_load_completes : ((
    let s := (up.setEng 16 { up.eng 16 with load := some { code := 0, mask := 1, entry := 9, codeWords := [7, 8], codeAddr := 4, dataBytes := [3], dataAddr := 5 } }).setGate 0 { load := some { code := 0, mask := 1, entry := 12, codeWords := [6], codeAddr := 0 }, edges := [(0, 1)] }; ok (.engineLoadComplete 16) s (fun t => Tab.get (t.eng 16).imem 0 1 = 7 &&
      Tab.get (t.eng 16).imem 0 2 = 8 && Tab.get (t.eng 16).lmem 0 5 = 3 && (t.ctx 128).st = .idle && (t.ctx 128).cpu.pc = 8 && (t.ctx 128).packet) &&
      ok (.gateLoadComplete 0) s (fun t => Tab.get (t.gate 0).imem 0 0 = 6 && (t.gate 0).st = .idle && (t.gate 0).edges = [] &&
      t.rd Fld.GT_CTRL_PC 0 = 12)) : Bool) = true := by decide +kernel

theorem witness_BootSequence : ((ok (.inputValid true 5) State.reset (fun s => s.rd Fld.KT_BOOT_STATUS_STAGE = 1 && s.on Fld.KT_BOOT_CTRL_HOLD &&
      s.rd Fld.MG_SER_STATUS_ADDR = 0x5D)) : Bool) = true := by decide +kernel

theorem test_stage_3 : ((let s := { (up.wr Fld.KT_BOOT_STATUS_STAGE 3) with boot := { up.boot with powered := 1 } }; s.boot.inputValid &&
      !s.on Fld.KT_BOOT_STATUS_FAIL && !s.on Fld.PW_THERM_TRIPPED && ok (.bootStageComplete .ok) s (fun t => t.rd Fld.KT_BOOT_STATUS_STAGE = 4 &&
      t.boot.powered = 0x1FFF && t.on Fld.OP_DS_STATUS_RXON)) : Bool) = true := by decide +kernel

theorem test_stage_2 : ((
    let s := up.wr Fld.KT_BOOT_STATUS_STAGE 2; ok (.bootStageComplete .calibBad) s (fun t => t.rd Fld.KT_BOOT_STATUS_STAGE = 3 && t.boot.calibBad &&
      t.rd Fld.PW_GOV_STATUS_VCORE = 860)) : Bool) = true := by decide +kernel

theorem test_stage_4_5 : ((
    let s := up.wr Fld.KT_BOOT_STATUS_STAGE 4; ok (.bootStageComplete (.memFail 3 9)) s (fun f => f.on Fld.KT_BOOT_STATUS_FAIL &&
      f.rd Fld.KT_BOOT_STATUS_FAILDOM = 3 && f.rd Fld.KT_BOOT_STATUS_FAILBLK = 9) &&
      ok (.bootStageComplete (.hbmFail true)) (up.wr Fld.KT_BOOT_STATUS_STAGE 5) (fun f => f.rd Fld.KT_BOOT_STATUS_FAILDOM = 7)) : Bool) = true := by decide +kernel

theorem test_stage_6 : ((let s := (up.wr Fld.KT_BOOT_STATUS_STAGE 6).wr Fld.KT_BOOT_STATUS_HOLDING 1; decide (Accepted s .serial 4 2) &&
      ok (.bootGo .serial 2) s (fun t => t.rd Fld.KT_BOOT_STATUS_STAGE = 7 && !t.on Fld.KT_BOOT_STATUS_HOLDING) &&
      ok (.bootStageComplete .ok) ((up.wr Fld.KT_BOOT_STATUS_STAGE 5).wr Fld.KT_BOOT_CTRL_HOLD 1) (fun t => t.rd Fld.KT_BOOT_STATUS_STAGE = 6 &&
      t.on Fld.KT_BOOT_STATUS_HOLDING)) : Bool) = true := by decide +kernel

/-- R109: a context of the base set is bound with its authority and runs to its first wait. -/
theorem test_stage_7 : ((let t := up.bindBase { role := 3, ctxs := [8], auth := 3, group := 4 } 8; (t.ctx 8).auth = 3 && (t.ctx 8).loader = 3 &&
      (t.ctx 8).st = .waiting && (t.ctx 8).wait = some (.recv 0 0 none)) : Bool) = true := by decide +kernel

/-- R123: a warm reset keeps the data partition, a cold one does not; without CONFIRM nothing starts. -/
theorem witness_ResetRequests : ((let s := { up.hbmWrite 3 5 [9] with save := [(0x6FFFF, 1), (0x70000, 2)] }; decide (Accepted s .serial 8 0x5A01) &&
      !s.tooHot && s.cx.rootJob = none && !s.on Fld.KT_BOOT_STATUS_FAIL && !s.on Fld.PW_THERM_TRIPPED &&
      [0x5B02, 0x5A03, 0x5A00].all (fun v => still (.coldResetRequest .serial v) s &&
      still (.warmResetRequest .serial v) s)) : Bool) = true := by decide +kernel

/-- R122: what a warm reset clears and keeps of D1 to D12 and of save memory. -/
theorem test_warm_reset : ((
    let s := { up.hbmWrite 3 5 [9] with save := [(0x6FFFF, 1), (0x70000, 2)] }; let t := s.clearDomains true; t.hbmRead 3 5 1 = [9] &&
      Tab.keep t.save historyByte = [(0x70000, 2)] && t.boot.powered = 1) : Bool) = true := by decide +kernel

theorem test_cold_reset : ((((up.hbmWrite 3 5 [9]).clearDomains false).hbm.isEmpty) : Bool) = true := by decide +kernel

theorem witness_PowerRemovalAndHostLink : ((
    let s := (up.wr Fld.MG_DELEG_LANES 1).wr Fld.MG_PCIE_STATUS_UP 1; let d := s.wr Fld.MG_PCIE_STATUS_UP 0; still (.hostLinkChange false 0 0) d &&
      still (.hostLinkChange true 5 4) (d.wr Fld.PW_DOM_STATUS_DEPTH 1 12) &&
      ok .powerRemoval { s with cx := { s.cx with rootJob := some [1], roots := [{ used := true, key := some [1] }, {}, {}, {}] } } (fun t => t.cx.roots = [{ used := true, key := some [1] }, { used := true, key := none }, {}, {}]) &&
      ok .powerRemoval s (fun t => t.regs = [] && t.boot = State.reset.boot && t.ld = State.reset.ld) &&
      ok .pcieReset s (fun t => !t.on Fld.MG_PCIE_STATUS_UP && t.rdReg .MG_DELEG = BitVec.ofNat 64 (Reg.reset .MG_DELEG 0 0) && t.pre = s.pre) &&
      ok (.hostLinkChange false 0 0) s (fun t => !t.on Fld.MG_PCIE_STATUS_UP && t.rdReg .MG_DELEG = BitVec.ofNat 64 (Reg.reset .MG_DELEG 0 0)) &&
      ok (.hostLinkChange true 5 4) s (fun t => t.on Fld.MG_PCIE_STATUS_UP && t.rd Fld.MG_PCIE_STATUS_SPEED = 5 &&
      t.rd Fld.MG_PCIE_STATUS_WIDTH = 4)) : Bool) = true := by decide +kernel

/-- R125, R260, R558. -/
theorem witness_KettleEvents : ((decide (Accepted up .serial 0x10 0x1407) &&
      ok (.watchdogFeed .serial 0x1407) (later up 7) (fun t => t.on Fld.KT_WDOG_EN && t.on Fld.KT_WDOG_ACTION && t.rd Fld.KT_WDOG_TIMEOUT = 0x14 &&
      t.boot.fed = 7 && still .kettleWatchdogExpired (later t 20000000006))) : Bool) = true := by decide +kernel

theorem test_watchdog_expires : ((
    let s := later (((up.wr Fld.KT_WDOG_EN 1).wr Fld.KT_WDOG_ACTION 1).wr Fld.KT_WDOG_TIMEOUT 20) 20000000000; s.wdogDue && !s.pow.timekeep &&
      !s.on Fld.PW_THERM_TRIPPED && s.cx.rootJob = none) : Bool) = true := by decide +kernel

theorem test_oven : ((ok (.ovenFirstStable 0xFFFB 6) (later up 20000000000) (fun t => t.on Fld.KT_OVEN_STATUS_FIRST && t.tsValid &&
      t.on Fld.KT_OVEN_STATUS_INBAND && ok (.ovenBandChange false 0xFFCD 7) t (fun u => !u.on Fld.KT_OVEN_STATUS_INBAND &&
      u.rd Fld.KT_OVEN_STATUS_DEV = 0xFFCD && u.rd Fld.KT_OVEN_STATUS_HEATER = 7)) && still (.ovenFirstStable 6 6) (later up 20000000000) &&
      ok (.ovenStabilityTimeout 5 6) (later up 240000000000) (fun t => t.on Fld.KT_OVEN_STATUS_TIMEOUT &&
      t.tsValid)) : Bool) = true := by decide +kernel

theorem test_thermal : ((ok (.overTemperature 12501) up (fun t => t.rd Fld.PW_GOV_TJ_TJ = 12501 && t.on Fld.PW_THERM_WARNING &&
      ok (.thermalTrip 1) t (fun u => u.on Fld.PW_THERM_TRIPPED && u.boot.powered = 1 && u.rd Fld.PW_DOM_STATUS_DEPTH 12 = 4 && u.pre = {}) &&
      ok (.warningCleared 3000) t (fun u => !u.on Fld.PW_THERM_WARNING && u.rd Fld.PW_GOV_TJ_TJ = 3000))) : Bool) = true := by decide +kernel

/-- R133 to R136: the site's vendor before LOCK and after it, the emergency stop, and the root key. -/
theorem witness_SiteIdentityAndRootKey : ((let s := up; s.rd Fld.TC_ACT_STATUS_STATE ≤ 2 && !s.headEnd .serial &&
      decide (Accepted s .serial 0x20 7) && decide (Accepted s .serial 0x24 8) && decide (Accepted s .serial 0x28 4) &&
      ok (.siteVendorWrite .serial 7) s (fun t => t.rdReg .KT_SITE_VENDOR = 7 && t.on Fld.KT_SITE_CTRL_VVALID) &&
      ok (.siteSerialWrite .serial 8) s (fun t => t.rdReg .KT_SITE_SERIAL = 8 && t.on Fld.KT_SITE_CTRL_SVALID) &&
      ok (.siteLockWrite .serial 4) s (fun t => t.on Fld.KT_SITE_CTRL_LOCK && decide (Accepted t .serial 0x20 7) &&
      ok (.siteVendorWrite .serial 7) t (fun u => u.rdReg .KT_SITE_VENDOR = t.rdReg .KT_SITE_VENDOR && u.rd Fld.KT_SITE_CTRL_REFUSED = 1)) &&
      ok (.estopClear .serial 2) (s.wr Fld.KT_ESTOP_LATCH 1) (fun t => !t.on Fld.KT_ESTOP_LATCH) &&
      decide (Accepted (s.wr Fld.KT_ESTOP_LATCH 1) .serial 0x30 2)) : Bool) = true := by decide +kernel

/-- R135, R136: slot 1 is programmed after slot 0, and a failure uses it up; the staging words go after 1 s. -/
theorem test_root_key : ((
    let s := { up with cx := { up.cx with rootStage := [(7, 0x01020304)], roots := [{ used := true, key := some [1] }, {}, {}, {}] } };
      decide (Accepted s .serial 0x08200020 0x5A01) &&
      ok (.rootKeyProgram .serial 0x5A01) s (fun t => t.cx.rootStage = [] && t.cx.rootJob.isSome &&
      (t.rootProgramDone false).cx.roots = [{ used := true, key := some [1] }, { used := true, key := none }, {}, {}]) &&
      ok .rootStagingTimeout (later s 1000000000) (fun t => t.cx.rootStage = [] && t.cx.roots = s.cx.roots) &&
      still .rootStagingTimeout s) : Bool) = true := by decide +kernel

/-! ## The timebase and time transfer -/

/-- R263 to R268: staging, what an accepted step does to the accumulator and the bursts, and REARM. -/
theorem witness_TimebaseIncrementAndStep : ((
    let s := { (up.setCtx 19 {}) with fib := { up.fib with bursts := [{ uc := 0, base := 5, t := 5, sfc := 0, fast := false, fec := false, head := 0, grants := [] }] } }; decide (Accepted s .serial 0x00010010 7) &&
      decide (Accepted s .serial 0x00010020 0xFFFFFFFF) && decide (Accepted s .serial 0x00010024 0xFF) &&
      ok (.tbIncrWrite .serial false 7) s (fun t => t.tb = { s.tb with incrLow := 7 } && onlyB s t []) &&
      ok (.tbStepWrite .serial false 0xFFFFFFFF) s (fun t => t.tb = { s.tb with stepLow := 0xFFFFFFFF } &&
      ok (.tbStepWrite .serial true 0xFF) t (fun u => u.tb.step.map Prod.fst = some 0xFFFFFFFFFF && u.tb.acc = t.tb.acc && onlyB t u [] &&
      (let w := u.addStep; w.tb.acc = 0 - 2 ^ 36 && w.tb.step = none && w.on Fld.TB_STATUS_SETDONE && w.rdReg .TB_STEP_LAST = 0xFFFFFFFFFF &&
      !w.on Fld.TB_PPSOUT_CTRL_ARMED && w.fib.bursts.map (·.t) = [4] &&
      onlyB u w [.TB_STATUS, .TB_STEP_LAST, .TB_PPSOUT_CTRL])))) : Bool) = true := by decide +kernel

theorem test_rearm : ((let s := up.wr Fld.TB_STATUS_SETDONE 1; decide (Accepted s .serial 0x00010034 0x5A01) &&
      ok (.tbStepWrite .serial true 1) s (fun x => x.tb = s.tb && x.rd Fld.TB_STATUS_REFUSED = 1 && onlyB s x [.TB_STATUS]) &&
      ok (.tbRearm .serial 0x5A01) s (fun x => !x.on Fld.TB_STATUS_SETDONE && onlyB s x [.TB_STATUS]) &&
      ok (.tbRearm .serial 0x5B01) s (fun x => x.on Fld.TB_STATUS_SETDONE) && still .timebaseStepApply s) : Bool) = true := by decide +kernel

/-- R264: a read of TB_NS latches the fraction and the wraps for its requester. -/
theorem test_tb_ns_read : ((
    let s := { up with tb := { up.tb with acc := 3 * 2 ^ 76 + 5 * 2 ^ 44 + 7 * 2 ^ 36 } }; decide (Readable s .serial 0x00010000) &&
      ok (.tbNsRead .serial) s (fun t => t.outs = [.regRead .serial 5] && Tab.get t.tb.latch (0, 0) (requesterOf .serial) = (7, 3) &&
      onlyB s t [])) : Bool) = true := by decide +kernel

/-- R263: both clauses on TB_INCR are met, whatever the nominal increment is. -/
theorem witness_increment_bounds : (∃ x, x < 2 ^ 48 ∧ x ≤ Config.incrNom.toNat + Config.incrNom.toNat / 1024 ∧ Config.incrNom.toNat ≤ x + Config.incrNom.toNat / 1024) ∧
    ∃ x, x < 2 ^ 48 ∧ (Config.incrNom.toNat + Config.incrNom.toNat / 1024 < x ∨ x + Config.incrNom.toNat / 1024 < Config.incrNom.toNat) := by
  refine ⟨⟨Config.incrNom.toNat, Config.incrNom.isLt, by omega, by omega⟩, if Config.incrNom.toNat = 0 then 1 else 0, ?_, ?_⟩
  · split <;> omega
  · split <;> omega

/-- R281, R282, R285: an edge armed 1,000 ns ahead, and its going out; PPS_IN, a glitch and a loss. -/
theorem witness_TimingSignals : ((
    let s := (up.wr Fld.TB_PPSOUT_CTRL_EN 1).wr Fld.TB_PPSOUT_CTRL_AUTO 1; decide (Accepted s .serial 0x00010040 1000) &&
      ok (.ppsOutNextWrite .serial 1000) s (fun t => t.rdReg .TB_PPSOUT_NEXT = 1000 && t.on Fld.TB_PPSOUT_CTRL_ARMED &&
      onlyB s t [.TB_PPSOUT_NEXT, .TB_PPSOUT_CTRL] &&
      (let u := { t with tb := { t.tb with acc := 1000 * 2 ^ 44 } }; ok .ppsOutEdge u (fun w => w.rdReg .TB_PPSOUT_LAST = 1000 &&
      w.outs = [.pps (s.rd Fld.TB_PPSOUT_CTRL_WIDTH)] && w.rd Fld.TB_PPSOUT_NEXT_NS = 1000001000 && w.on Fld.TB_PPSOUT_CTRL_ARMED &&
      onlyB u w [.TB_PPSOUT_LAST, .TB_PPSOUT_NEXT, .TB_PPSOUT_CTRL]))) && ok (.ppsOutNextWrite .serial 999) s (fun t => t.tb = s.tb &&
      onlyB s t []) && ok (.ppsInEdge (-3)) s (fun t => t.tb.ppsAt = some 0 &&
      t.rd Fld.TB_PPSIN_TS_TS = (BitVec.ofInt 40 (-3 - (BitVec.ofNat 24 (s.rd Fld.TB_PPSIN_COMP_COMP)).toInt)).toNat &&
      t.rd Fld.TB_PPSIN_STAT_SEQ = 1 && onlyB s t [.TB_PPSIN_TS, .TB_PPSIN_STAT] && ok (.ppsInEdge 0) t (fun u => u.tb = t.tb &&
      u.rd Fld.TB_IO_CNT_PPSGLITCH = 1 && onlyB t u [.TB_IO_CNT]) &&
      (let u := later t 1500000000; ok .ppsInLoss u (fun w => w.on Fld.TB_PPSIN_STAT_LOST && onlyB u w [.TB_PPSIN_STAT]))) &&
      still .ppsInLoss s) : Bool) = true := by decide +kernel

/-- R287, R288: a sentence goes out; a good line comes in, a bad one is counted. -/
theorem test_time_of_day : ((
    let s := later { (((up.wr Fld.TB_TODOUT_CTRL_EN 1).wr Fld.TB_TODOUT_CTRL_FULL 1).wr Fld.TB_TODOUT_CTRL_LEN 2).wrReg .TB_TODOUT_BUF 0x4142 with tb := { up.tb with todDue := some 0 } } 300000000; s.rd Fld.TB_TODOUT_CTRL_DELAY * 1000000 ≤ s.ns64 &&
      ok .todOutSend s (fun t => t.tb.todDue = none && t.tb.todUntil = some 300173611 && t.outs = [.tod [0x42, 0x41]] && onlyB s t []) &&
      ok .todOutSend (s.wr Fld.TB_TODOUT_CTRL_FULL 0) (fun t => t.rd Fld.TB_IO_CNT_TODOUTMISS = 1)) : Bool) = true := by decide +kernel

theorem test_time_of_day_in : ((
    let line : List Byte := [0x24, 0x42, 0x4E, 0x54, 0x4F, 0x44] ++ List.replicate 35 0x30 ++ [0x2A, 0x30, 0x38, 0x30, 0x37, 0x0D, 0x0A]; todLineOk line &&
      ok (.todInLine line false 0) up (fun t => t.rd Fld.TB_TODIN_STAT_SEQ = 1 && t.rdReg .TB_TODIN_BUF 0 0 = 0x544E4224 &&
      onlyB up t [.TB_TODIN_BUF, .TB_TODIN_PPS, .TB_TODIN_STAT]) && ok (.todInLine line true 0) up (fun t => t.rd Fld.TB_IO_CNT_TODINERR = 1 &&
      onlyB up t [.TB_IO_CNT])) : Bool) = true := by decide +kernel

/-- R294, R307, R312. -/
theorem witness_TimeTransferCommands : ((
    let s := (up.wr Fld.TC_ACT_STATUS_STATE 5).wrReg .TT_TOD_SFC 480000; decide (Accepted s .serial 0x01500114 0x80000005) &&
      decide (Accepted s .serial 0x01500214 0x5A01) && decide (Accepted s .serial 0x01500304 9) && decide (Accepted s .serial 0x01500404 0x5F400) &&
      ok (.todCommit .serial 0x80000005) s (fun t => t.on Fld.TT_TOD_STAT_VALID && t.rd Fld.TT_TOD_STAT_SEQ = 1 && t.rdReg .TT_TOD_INFO = 5 &&
      onlyB s t [.TT_TOD_INFO, .TT_TOD_STAT]) &&
      ok (.todCommit .serial 0x80000005) (s.wrReg .TT_TOD_SFC 480001) (fun t => !t.on Fld.TT_TOD_STAT_VALID && t.rd Fld.TT_TOD_STAT_REFUSED = 1) &&
      ok (.bcIdWrite .serial true 9) s (fun t => t.on Fld.TT_BC_CTRL_CIDV && t.rdReg .TT_BC_ID = 0x900000000 &&
      onlyB s t [.TT_BC_ID, .TT_BC_CTRL])) : Bool) = true := by decide +kernel

/-- R199: a refit asks for the pairs that have no result. -/
theorem test_refit_asks : ((
    let s := ((((((up.wr Fld.TC_ACT_STATUS_STATE 5).wr Fld.TC_VPLOAM_CTRL_TYPE 1).wr Fld.TC_VPLOAM_CTRL_HELLO 1).wr Fld.TC_VPLOAM_CTRL_ASYMAG 1).wr Fld.TC_DSC_STATUS_MEMBER 1 2).wr Fld.TC_DSC_STATUS_SYNC 2 2).wr Fld.TC_DS_MODE_BONDED 1 |>.wr Fld.TC_US_MODE_WORKING 1; s.pairMask = 0x10 &&
      ok (.asymRefit .serial 1) s (fun t => t.fib.pairWant = 0x10 && t.fib.pairAt = 0)) : Bool) = true := by decide +kernel

theorem test_holdover_reset : ((let s := (up.wr Fld.TT_HO_STATUS_QUAL 1).wrReg .TT_SERVO_FREQ 5; decide (Accepted s .serial 0x01500214 0x5A01) &&
      ok (.holdoverModelReset .serial 0x5B01) s (fun t => t.on Fld.TT_HO_STATUS_QUAL && onlyB s t [])) : Bool) = true := by decide +kernel

theorem test_asym : ((let s := up.wr Fld.TC_ACT_STATUS_STATE 5; decide (Accepted s .serial 0x01500400 3) &&
      decide (Accepted s .serial 0x01500404 0x5F400) && 0x5F400 % 2 ^ 18 = 128000 &&
      ok (.asymRefit .serial 3) s (fun t => t.on Fld.TT_ASYM_CTRL_FORCEPROG && t.tb = s.tb && t.pre = s.pre) &&
      ok (.asymModelWrite .serial 0x5F400) s (fun t => t.rdReg .TT_ASYM_MODEL = 0x5F400)) : Bool) = true := by decide +kernel

/-! ## The shared fibre -/

/-- A downstream frame with nothing in it. -/
def plain (psync : Bool) (sfc : Option (BitVec 51)) : DsFrame :=
  { psync := psync, sfc := sfc, ocsBad := false, fine := 0, cw := 0, corr := 0, uncorr := 0, map := [], ploam := [], xgem := [], lane := 0, mismatch := false }

/-- Channel `ch` on, in a sync state, expecting superframe counter 9. -/
def chanAt (ch st missed : Nat) : State :=
  (((up.wr Fld.OP_DS_STATUS_RXON 0xF).wr Fld.TC_DSC_STATUS_SYNC st ch).wr Fld.TC_DSC_STATUS_MISSED missed ch).setChan ch { next := 9 }

/-- R146: the sync states of channel 3. -/
theorem witness_DownstreamSynchronisation : ((
    let g := plain true (some 9); let b := plain false none; let w := fun (n : Nat) (t : State) => t.rd Fld.TC_DSC_STATUS_SYNC 3 = n;
      ok (.dsFrame 3 g) (chanAt 3 0 0) (fun t => w 1 t &&
      (t.chan 3).next = 10 && t.rd Fld.TC_DSC_FRLOST_COUNT 3 = 1) && ok (.dsFrame 3 b) (chanAt 3 0 0) (fun t => w 0 t && t.fib = (chanAt 3 0 0).fib &&
      onlyB (chanAt 3 0 0) t [.TC_DSC_FRLOST, .TC_DSC_HEC]) && ok (.dsFrame 3 g) (chanAt 3 1 0) (w 2) && ok (.dsFrame 3 b) (chanAt 3 1 0) (w 0) &&
      ok (.dsFrame 3 g) (chanAt 3 2 0) (fun t => w 2 t && t.rd Fld.TC_DSC_SFC_SFC 3 = 9 && (t.chan 3).run = 1) &&
      ok (.dsFrame 3 b) (chanAt 3 2 0) (fun t => w 3 t && t.rd Fld.TC_DSC_STATUS_MISSED 3 = 1) && ok (.dsFrame 3 b) (chanAt 3 3 1) (fun t => w 3 t &&
      t.rd Fld.TC_DSC_STATUS_MISSED 3 = 2) && still (.dsFrame 3 g) (chanAt 3 4 0) && ok (.dsFrameSyncLost 3) (chanAt 3 3 2) (fun t => w 0 t &&
      t.rd Fld.TC_DSC_STATUS_MISSED 3 = 3)) : Bool) = true := by decide +kernel

/-- R146, R177: the reference channel in O1.1 takes activation to O2-3. -/
theorem test_ds_reference : ((ok (.dsFrame 0 (plain true (some 9))) (chanAt 0 1 0) (fun t => t.rd Fld.TC_DSC_STATUS_SYNC 0 = 2 &&
      t.rd Fld.TC_ACT_STATUS_STATE = 2)) : Bool) = true := by decide +kernel

/-- R167, R510: eight frames make a member of a bonded set; the grace period ends. -/
theorem test_bond_joined : ((
    let s := ((chanAt 2 2 0).wr Fld.TC_DS_MODE_BONDED 1).setChan 2 { next := 9, run := 8, grace := true };
      ok (.bondChannelJoined 2) s (fun t => t.on Fld.TC_DSC_STATUS_MEMBER 2) &&
      still (.frozenGraceExpiry 2) s && ok (.frozenGraceExpiry 2) (later s 500000) (fun t => !(t.chan 2).grace)) : Bool) = true := by decide +kernel

/-- R140, R142, R165, R173, R175. -/
theorem witness_DownstreamChannelEvents : ((let s := chanAt 1 2 0; ok (.dsLosChange 1 true) s (fun t => bit (t.rd Fld.OP_DS_STATUS_LOS) 1 &&
      onlyB s t [.OP_DS_STATUS]) && still (.dsSignalEval 1) s && still (.dsLosChange 1 true) (s.wr Fld.OP_DS_STATUS_RXON 0) &&
      still (.dsFrame 1 (plain true (some 9))) (s.wr Fld.OP_DS_STATUS_RXON 0) && still (.dsFrameSyncLost 1) s &&
      decide (Accepted s .serial 0x09100100 3) && ok (.dsModeWrite .serial 1) s (fun t => t.on Fld.TC_DS_MODE_BONDEN && !t.on Fld.TC_DS_MODE_BONDED &&
      ok (.dsModeWrite .serial 3) t (fun u => u.on Fld.TC_DS_MODE_BONDED)) &&
      (let n := s.wr Fld.TC_DS_MODE_BONDEN 0; ok (.dsModeWrite .serial 3) n (fun t => t.fib = n.fib && onlyB n t [])) &&
      decide (Accepted s .serial 0x09100260 1) && ok (.dsGroupCapWrite .serial 3 1) s (fun t => t.rd Fld.TC_DS_GRP_CTRL_CAP 3 = 1 &&
      onlyB s t [.TC_DS_GRP_CTRL]) && ok (.dsGroupCapWrite .serial 3 0xFFFF) s (fun t => t.fib = s.fib && (s.partBytes 2 < 0xFFFF * 65536 &&
      onlyB s t [] || s.partBytes 2 ≥ 0xFFFF * 65536))) : Bool) = true := by decide +kernel

theorem test_snapshot_arm : ((let s := chanAt 1 2 0; decide (Accepted s .serial 0x09120044 0x80000001) &&
      ok (.snapshotArm .serial 1 0x80000001) s (fun t => (t.chan 1).snap.map Prod.fst = some 0x100000000 && t.on ⟨.TC_DSC_SNAPSTAT, 2, 1⟩ 1) &&
      ok (.snapshotArm .serial 1 0x80000000) s (fun t => (t.chan 1).snap = none &&
      t.on Fld.TC_DSC_SNAPSTAT_MISSED 1)) : Bool) = true := by decide +kernel

/-- R150: a channel with a full window of 8,000 frames, not yet evaluated. -/
theorem witness_signal_eval : ∃ x : Channel, 8000 ≤ x.win.length ∧ x.evalAt = none ∧ ({ up with fib := { up.fib with chans := [(1, x)] } } : State).chan 1 = x :=
  ⟨{ win := List.replicate 8000 (9, 0) }, by simp only [List.length_replicate, Nat.le_refl], rfl, rfl⟩

theorem test_reorder_timeout : ((
    let h : HeldSdu := { bsn := 7, pkt := { len := 64 }, since := 0 };
      let s := { up with fib := { up.fib with groups := [(1, { held := [h] })] }, tb := { up.tb with acc := 65535000 * 2 ^ 44 } };
      s.rd ⟨.TC_DS_REORDER, 0, 16⟩ * 1000 ≤ (s.ns - h.since).toNat &&
      ok (.reorderTimeout 1) s (fun t => (t.group 1).held = [] && t.rd Fld.TC_DS_GRP_SKIPTO_COUNT 1 = 7) &&
      still (.reorderTimeout 1) { s with tb := up.tb }) : Bool) = true := by decide +kernel

/-- R177, R185, R198, R211, R212. -/
theorem witness_ActivationMessages : ((
    let s := fun (n : Nat) => ((up.wr Fld.TC_ACT_STATUS_STATE n).wrReg .KT_SITE_VENDOR 7).wrReg .KT_SITE_SERIAL 8;
      let act := fun (t : State) => t.rd Fld.TC_ACT_STATUS_STATE; ok (.assignOnuId true 5 7 8) (s 3) (fun t => act t = 4 &&
      t.rd Fld.TM_ALLOC_MAP_ALLOCID 511 = 5 && t.rd Fld.TC_ACT_STATUS_ONUID = 5 && t.on Fld.TC_ACT_STATUS_IDVALID) &&
      still (.assignOnuId true 5 7 8) (s 4) && still (.assignOnuId false 5 7 8) (s 3) && still (.assignOnuId true 5 7 9) (s 3) &&
      (s 4).activationRole && (s 4).rangingRole && (s 4).ploamRole && act (s 5) = 5 &&
      ((s 4).wr Fld.TC_ACT_STATUS_IDVALID 1).on Fld.TC_ACT_STATUS_IDVALID && still (.deactivateOnuId true none) (s 3) &&
      still (.deactivateOnuId false none) (s 4) && still (.requestRegistration true) (s 3) && still (.rangingTime true 5) (s 3) && act (s 2) = 2 &&
      act (s 6) = 6 && still (.disableSerialNumber false 7 8) (s 2) && still (.enableSerialNumber false none) (s 7) &&
      ok (.enableSerialNumber true none) ((s 7).wr Fld.OP_WD_STATUS_TRIP0 1) (fun t => act t = 7 && t.rd Fld.TC_ACT_STATUS_CAUSE = 7) &&
      ok (.requestRegistration true) (s 4) (fun t => t.fib.up = [.registration ((List.range 9).flatMap fun k => (bytes ((s 4).rd Fld.TC_ACT_REGID_REGID 0 k) 4).reverse)]) &&
      !(s 7).asleep 9 && act (s 7) = 7 && !(s 7).on Fld.OP_WD_STATUS_TRIP0) : Bool) = true := by decide +kernel

/-- R177, R179, R184, R203, R214, R215. -/
theorem witness_ActivationEvents : ((
    let s := fun (n : Nat) => (up.wr Fld.TC_ACT_STATUS_STATE n).setChan 0 { psbd := some (9, 0) }; let act := fun (t : State) => t.rd Fld.TC_ACT_STATUS_STATE;
      act (s 4) = 4 &&
      act (s 6) = 6 && still .to1Expiry (s 5) && still .to2Expiry (s 5) && still .to1Expiry (s 4) &&
      (s 4).fib.timerAt + (s 4).rd ⟨.TC_ACT_TIMERS, 0, 16⟩ * 1000000 ≤ (later (s 4) 10000000000).ns64 &&
      (s 6).fib.timerAt + (s 6).rd ⟨.TC_ACT_TIMERS, 16, 16⟩ * 1000000 ≤ (later (s 6) 10000000000).ns64 &&
      decide (Accepted (s 5) .serial 0x09100004 3) && ok (.discoveryWindow 9 0) ((s 3).wr Fld.TC_DISC_SKIP 2) (fun t => t.rd Fld.TC_DISC_SKIP = 1 &&
      t.outs = []) && ((s 3).upFrameAt 0 0 9 0).isSome && ok (.discoveryWindow 9 0) (s 3) (fun t => t.fib.responded && t.outs.length = 1) &&
      ok (.rangingGrant 0 9 0) (s 4) (fun t => t.outs.length = 1)) : Bool) = true := by decide +kernel

/-- R203: a stamp lies before 2^40 ns while the timebase is near 0, so the answer to a pair armed at that time starts in time. -/
theorem witness_grant_in_time (t : Nat) : up.nsOf t ≤ 2 ^ 40 + 10000000 := by
  have h : up.stamp40 = 0 := by decide +kernel
  have g : up.ns64 = 0 := by decide +kernel
  simp only [State.nsOf, State.sinceOn, stampDiff, sgn, h, g]
  omega

theorem test_pair_grant : ((
    let s := ((up.wr Fld.TC_ACT_STATUS_STATE 5).wr Fld.TC_DSC_STATUS_SYNC 2 2).setChan 2 { psbd := some (9, 0) };
      let z := { s.wr Fld.TC_RNG_EQD_VALID 1 0 1 with fib := { s.fib with armed := [{ n := 2, m := 1 }] } }; z.on Fld.TC_RNG_EQD_VALID 0 1 &&
      z.rd Fld.TC_DSC_STATUS_SYNC 2 = 2 && z.rangingRole && (z.upFrameAt 2 1 9 0).isSome &&
      still (.rangingGrant 1 9 0) (z.wr Fld.OP_WD_STATUS_TRIP1 1)) : Bool) = true := by decide +kernel

/-- R214: light that goes on 64 ns after a response began, and a trip without any. -/
theorem test_watchdog_response : ((
    let s := { up with fib := { up.fib with respAt := Tab.set [] none 0 (some 1000) } };
      ok (.burstWatchdogTrip 0 false) (later s 1064) (fun t => t.on Fld.OP_WD_STATUS_TRIP0 &&
      t.rd Fld.OP_WD_STATUS_CAUSE0 = 1) && still (.burstWatchdogTrip 0 false) (later s 1063) && still (.burstWatchdogTrip 1 false) (later s 1064) &&
      ok (.burstWatchdogTrip 1 true) s (fun t => t.on Fld.OP_WD_STATUS_TRIP1 && t.rd Fld.OP_WD_STATUS_CAUSE1 = 2)) : Bool) = true := by decide +kernel

theorem test_burst_watchdog : ((let s := up.wr Fld.TC_ACT_STATUS_STATE 5; ok (.burstWatchdogTrip 1 true) s (fun t => t.on Fld.OP_WD_STATUS_TRIP1 &&
      t.rd Fld.OP_WD_STATUS_CAUSE1 = 2 && decide (Accepted t .serial 0x09010000 2) && t.burstOf 1 true true = none &&
      ok (.wdClear1 .serial 2 true) t (fun u => !u.on Fld.OP_WD_STATUS_TRIP1) &&
      ok (.wdClear0 .serial 1 false) t (fun u => u.on Fld.OP_WD_STATUS_TRIP1 && u.fib = t.fib))) : Bool) = true := by decide +kernel

/-- R194, R195, R203, R204, R246: vendor agreements, from the bytes of their messages. -/
theorem witness_HeadEndAgreements : ((
    let s := ((((((up.wr Fld.TC_ACT_STATUS_STATE 5).wr Fld.TC_VPLOAM_CTRL_TYPE 1).wr Fld.TC_VPLOAM_CTRL_HELLO 1).wr Fld.TC_DS_MODE_BONDEN 1).wr Fld.TC_VPLOAM_CTRL_BONDAG 1).wr Fld.TC_VPLOAM_CTRL_ASYMAG 1); let z := fun (l : List Byte) => l ++ List.replicate (40 - l.length) 0; ok (.hello true (z [7])) s (fun t => t.on Fld.TC_VPLOAM_CTRL_HELLO &&
      t.fib.offered = 1 + (if s.on Fld.TC_VPLOAM_CTRL_ASYMEN then 2 else 0) + (if s.on Fld.TC_VPLOAM_CTRL_PREDEN then 4 else 0)) &&
      ok (.bondset true (z [1, 0x1F])) s (fun t => t.on Fld.TC_VPLOAM_CTRL_BONDAG && t.on Fld.TC_DS_MODE_BONDED && t.on Fld.TC_US_MODE_UC1USE &&
      t.fib.bondSet && t.fib.channels = 15) &&
      (let n := s.wr Fld.TC_VPLOAM_CTRL_BONDAG 0; ok (.bondset true (z [1, 0x1F])) n (fun t => t.fib = n.fib && t.rd Fld.TC_VPLOAM_CTRL_IGNORED = 1 &&
      onlyB n t [.TC_VPLOAM_CTRL])) && ok (.memberack true (z [])) s (fun t => t = { s with fib := { s.fib with macked := true } }) &&
      still (.memberack true (z [0, 1])) s && still (.hello false (z [7])) s && still (.pairresult false (z [])) s &&
      ok (.pairrange true (z [0x13])) s (fun t => t = { s with fib := { s.fib with armed := [{ n := 3, m := 1 }] } } &&
      ok (.pairArmTimeout 3 1) (later t 10000000) (fun u => u.fib.armed = []))) : Bool) = true := by decide +kernel

theorem test_pair_result : ((
    let s := ((up.wr Fld.TC_ACT_STATUS_STATE 5).wr Fld.TC_VPLOAM_CTRL_TYPE 1).wr Fld.TC_VPLOAM_CTRL_HELLO 1;
      let a := { (s.wr Fld.TC_VPLOAM_CTRL_ASYMAG 1) with fib := { s.fib with armed := [{ n := 3, m := 1, answered := some true }] } }; !a.asleep 9 &&
      a.on Fld.TC_VPLOAM_CTRL_ASYMAG && [0x13, 0, 0, 0, 0, 0, 0, 1, 0] ++ List.replicate 31 (0 : Byte) ≠ [] &&
      a.fib.armed.length = 1) : Bool) = true := by decide +kernel

/-- R222, R509: a terminal in O5 hears what G.9804.2 sends. -/
theorem test_sleep_alloc : ((let s := up.wr Fld.TC_ACT_STATUS_STATE 5; !s.asleep 9 && s.rd Fld.TC_ACT_STATUS_STATE = 5 &&
      s.fib.assigned.length < 512 && still (.assignAllocId true 1024 true) (up.wr Fld.TC_ACT_STATUS_STATE 4) &&
      still (.keyControl true 1) (up.wr Fld.TC_ACT_STATUS_STATE 4) && s.ploamRole && s.roleRuns 18 && s.roleRuns 19 &&
      s.rd Fld.CX_PON_KEY_TXIDX = 0 && !s.asleep 8 && ok (.keyControl true 2) (s.wr Fld.PW_DOM_STATUS_DEPTH 1 8) (fun t => t.fib.keyWait = 2) &&
      still (.keyControl false 2) s && still (.sleepAllow false 1) s && still (.assignAllocId false 1024 true) s) : Bool) = true := by decide +kernel

theorem test_membership_pairs : ((
    let s := (((up.wr Fld.TC_ACT_STATUS_STATE 5).wr Fld.TC_VPLOAM_CTRL_TYPE 1).wr Fld.TC_VPLOAM_CTRL_HELLO 1);
      let m := { s with fib := { s.fib with macked := false, member := some [1], mtries := 9 } }; ok .membershipRepeat (later m 1000000000) (fun t => t.fib.mtries = 10 &&
      t.fib.up.length = 1) && still .membershipRepeat m &&
      (let z := ((((s.wr Fld.TC_VPLOAM_CTRL_ASYMAG 1).wr Fld.TC_DSC_STATUS_MEMBER 1 2).wr Fld.TC_DSC_STATUS_SYNC 2 2).wr Fld.TC_DS_MODE_BONDED 1).wr Fld.TC_US_MODE_WORKING 1; let y := later z 60000000000000; z.pairMask = 0x10 &&
      ok .pairRequestPeriod y (fun t => t.fib = { y.fib with pairWant := 0x10, pairGot := 0, pairAt := 60000000000000, up := [.vendor 0x83 [0x10]] })) &&
      ok .sleepLowpowerEnd (later (s.wr Fld.TC_SLEEP_STATUS_STATE 2) 60000000000000) (fun t => t.rd Fld.TC_SLEEP_STATUS_STATE = 3 &&
      bit (t.rd Fld.OP_DS_STATUS_RXON) 0) &&
      ok .sleepAwareEnd (later (s.wr Fld.TC_SLEEP_STATUS_STATE 3) 60000000000000) (fun t => t.rd Fld.TC_SLEEP_STATUS_STATE = 0 || t.rd Fld.TC_SLEEP_STATUS_STATE = 2)) : Bool) = true := by decide +kernel

/-- R191: a filtered PLOAM message goes to the context that TC_PLOAM_TARGET names. -/
theorem test_ploam_delivery : ((
    let s := { ((up.wr Fld.TC_PLOAM_TARGET_EN 1).wrReg .TC_PLOAM_TARGET (0x8000000000000008 ||| up.rdReg .TC_PLOAM_TARGET ||| (((up.wr Fld.TC_PLOAM_TARGET_EN 1).rdReg .TC_PLOAM_TARGET)))).setCtx 8 { loader := 2 } with fib := { up.fib with ploam := [List.replicate 48 1] } }; ok .ploamDelivery s (fun t => t.fib.ploam = [] &&
      (t.ctx 8).mbx.map (·.sender) = [.block 0x300])) : Bool) = true := by decide +kernel

/-- R188, R226, R234, R250. -/
theorem witness_UpstreamBurstsAndHold : ((
    let s := up; let b : Burst := { uc := 1, base := 2000, t := 2000, sfc := 0, fast := true, fec := false, head := 0, grants := [{ alloc := none, id := 9, start := 0, room := 100, wire := 148, dbru := false, ploamu := true }] }; let w := { s with fib := { s.fib with bursts := [b], up := [.ack 0, .ack 1] } }; still (.burstProfile false 1 3 1 true 4 160 5) s &&
      still (.burstProfile true 1 3 2 true 4 160 5) s && s.rd Fld.TC_ACT_STATUS_STATE ≠ 7 &&
      still (.burstProfile true 1 3 1 true 4 160 5) (s.wr Fld.TC_ACT_STATUS_STATE 7) && !w.asleep 5 && !w.asleep 8 && !w.asleep 9 &&
      stampDiff b.t w.stamp40 ≤ 5120000 &&
      (let u := { w with fib := { w.fib with bursts := [{ b with staged := true }] } }; u.burstOf 1 true false = some { b with staged := true } &&
      stampDiff b.t u.stamp40 ≤ 2048 && ok (.burstStart 1 0 none) u (fun x => x.outs.length = 1 &&
      x.fib.bursts.map (·.granted) = [2048 + upTime true 148] && still (.burstEnd 1) x &&
      ok (.burstEnd 1) { x with tb := { x.tb with acc := 12000 * 2 ^ 36 } } (fun y => y.fib.bursts = [] && y.rd Fld.TC_USC_BURSTS_COUNT 1 = 1 &&
      !y.tripped 1) && ok (.burstEnd 1) { x with tb := { x.tb with acc := 300000 * 2 ^ 36 } } (fun y => y.tripped 1 &&
      y.rd Fld.OP_WD_STATUS_CAUSE1 = 1)))) : Bool) = true := by decide +kernel

/-- R234, R235: one grant without an allocation takes the first message waiting and is filled with idle bytes. -/
theorem test_burst_staging : ((
    let b : Burst := { uc := 1, base := 2000, t := 2000, sfc := 0, fast := true, fec := false, head := 0, grants := [{ alloc := none, id := 9, start := 0, room := 100, wire := 148, dbru := true, ploamu := true }] }; let s := { up with fib := { up.fib with bursts := [b], up := [.ack 0, .ack 1] } }; stampDiff b.t s.stamp40 ≤ 5120000 &&
      s.burstOf 1 false false = some b &&
      (let w := b.grants.foldl Fill.grant { st := s, b := b, lane := 0, mismatch := none, err := .clean }; w.b.msgs = [.ack 0] &&
      w.b.idle = [(upTime true 52, 100)] && w.st.fib.up = [.ack 1]) &&
      still (.burstStagingStart 1 0 none .clean) { s with fib := { s.fib with bursts := [{ b with staged := true }] } } &&
      still (.burstStagingStart 0 0 none .clean) s) : Bool) = true := by decide +kernel

theorem test_alloc_map : ((let s := up; decide (Accepted s .serial (0x05140000 + 0x20 * 510) 0x28401) &&
      ok (.allocMapWrite .serial 510 0x28401) s (fun t => t.rd Fld.TM_ALLOC_MAP_NQ 510 = 2 && t.on Fld.TM_ALLOC_MAP_EN 510 &&
      t.rd Fld.TM_ALLOC_MAP_ALLOCID 510 = 0x401 && onlyB s t [.TM_ALLOC_MAP, .TM_ALLOC_HOLD])) : Bool) = true := by decide +kernel

theorem test_hold : ((
    let s := later { ((up.wr Fld.TC_ACT_STATUS_STATE 5).wr Fld.TM_HOLD_CTRL_EN 1).wr Fld.TM_ALLOC_HOLD_STATE 1 7 with fib := { up.fib with carried := [(7, some 5)] } } 60000000000; ok (.holdDetectExpiry 7) s (fun t => t.rd Fld.TM_ALLOC_HOLD_STATE 7 = 2 &&
      ok (.holdMaxExpiry 7) t (fun u => u.rd Fld.TM_ALLOC_HOLD_STATE 7 = 2)) && still (.holdDetectExpiry 7) (s.wr Fld.TC_ACT_STATUS_STATE 6) &&
      decide (Accepted s .serial 0x05144030 0x1007) && ok (.holdForceStart .serial 0x1007) s (fun t => t.rd Fld.TM_ALLOC_HOLD_STATE 7 = 2 &&
      ok (.holdForceAbandon .serial 0x2007) t (fun u => u.rd Fld.TM_ALLOC_HOLD_STATE 7 = (if u.holdMarked 7 then 1 else 0))) &&
      ok (.holdMaxExpiry 7) (s.wr Fld.TM_ALLOC_HOLD_STATE 2 7) (fun u => u.rd Fld.TM_ALLOC_HOLD_STATE 7 ≠ 2)) : Bool) = true := by decide +kernel

/-! ## Client lanes -/

/-- Port 5 in a lane state, its receive and transmit sides on at 10 Gb/s. -/
def port5 (st : Nat) : State := (((up.wr Fld.LN_STATUS_STATE st 5).wr Fld.LN_CTRL_RXEN 1 5).wr Fld.LN_CTRL_TXEN 1 5).setLane 5 { txRes := 1, rxRes := 1 }

/-- The test of `LaneFrame`. -/
def laneB (s t : State) : Bool :=
  onlyB s t laneRegs && t.sv = s.sv && t.ld = s.ld && t.tm = s.tm && t.tb = s.tb && t.cx = s.cx && t.fib = s.fib && t.boot = s.boot

/-- R323, R327: what a fixed rate of 50 Gb/s from off meets; a write beyond the budget; one that changes the rate while on; off again. -/
theorem witness_LaneControlWrites : ((
    let st := fun (t : State) => t.rd Fld.LN_STATUS_STATE 5; let s := port5 4; decide (Accepted up .serial (portBlock 5) 0x23) &&
      up.resSum true = 0 && !bit (up.rd Fld.LN_REF_LOCK 0) 9 && decide (Accepted s .serial (portBlock 5) 0x13) &&
      ok (.laneCtrlWrite .serial 5 0x13) s (fun u => u.lanes = s.lanes && u.rdReg .LN_CTRL 5 = s.rdReg .LN_CTRL 5) &&
      ok (.laneCtrlWrite .serial 5 0) s (fun u => st u = 0 && (u.lane 5).txRes = 0) &&
      (let full := { up with lanes := (List.range 72).map (fun k => (k + 72, { txRes := 3, rxRes := 3 })) }; full.resSum true = 3600 &&
      ok (.laneCtrlWrite .serial 5 0x23) full (fun t => t.lanes = full.lanes &&
      t.rd Fld.LN_BUDGET_REFUSED_COUNT 0 = 1))) : Bool) = true := by decide +kernel

/-- Port 5 in a lane state with a Bolnan receiver. -/
def port5rx (st : Nat) (x : BolnanRx) : State := (port5 st).setLane 5 { txRes := 1, rxRes := 1, rx := x }

/-- A block of 130 bits but for its last one. -/
def block129 (a b : Bool) (r : List Bool) : List Bool := a :: b :: (r ++ List.replicate (127 - r.length) true)

/-- R332 to R336: the bit that ends the 64th valid header locks; the 24th invalid header ends the lock; a stuffing bit that is none; the third filler off its prediction; a page, one with a bad check, and a block of unknown type. -/
theorem witness_LaneStateMachine : ((
    let st := fun (t : State) => t.rd Fld.LN_STATUS_STATE 5; let lock := port5rx 1 { block := block129 false true [], good := 63, synced := true };
      let off := port5rx 2 { block := block129 true true [], aligned := true, synced := true, heads := List.replicate 23 true };
      let page : Nat := 0x4B + 2 ^ 8 + 7 * 2 ^ 24; let good := page + 2 ^ 112 * pageCrc page;
      let held := fun (v : Nat) => port5rx 2 { aligned := true, synced := true, store := [{ ctrl := true, payload := v, ok := true }] };
      ok (.laneBlockAligned 5 [true]) lock (fun t => (t.lane 5).rx.aligned &&
      (t.lane 5).rx.block = [] && st t = 2 && laneB lock t) && ok (.laneAlignmentLoss 5 [true]) off (fun t => !(t.lane 5).rx.aligned && st t = 1 &&
      t.rd Fld.LN_BOL_CNT_ALIGNLOSS 5 = 1) &&
      ok (.laneAlignmentLoss 5 [true]) (off.setLane 5 { (off.lane 5) with rx := { (off.lane 5).rx with heads := List.replicate 22 true } }) (fun t => (t.lane 5).rx.aligned &&
      st t = 2) && ok (.laneBlockAligned 5 [true]) (port5rx 1 { run := { last := true, run := 30 } }) (fun t => t.rd Fld.LN_BOL_CNT_STUFFERR 5 = 1 &&
      (t.lane 5).rx.block = []) &&
      ok (.laneBlockAligned 5 [false]) (port5rx 1 { run := { last := true, run := 30 } }) (fun t => t.rd Fld.LN_BOL_CNT_STUFFERR 5 = 0) &&
      ok (.descramblerSyncLoss 5 [true]) (port5rx 2 { block := block129 false true [false, true, true, true, true, false, false, false], aligned := true, synced := true, reg := some 0, miss := 2 }) (fun t => !(t.lane 5).rx.synced &&
      (t.lane 5).rx.aligned && st t = 2) && ok (.lanePageReceive 5 [] 1) (held good) (fun u => u.rd Fld.LN_NEG_PARTNER_PAGE 5 = 1 + 7 * 2 ^ 16 &&
      u.on Fld.LN_NEG_PARTNER_VALID 5 && st u = 2 && (u.lane 5).rx.store = []) &&
      ok (.lanePageReceive 5 [] 1) (held page) (fun u => u.rd Fld.LN_BOL_CNT_PAGEERR 5 = 1 && onlyB (held page) u [.LN_BOL_CNT]) &&
      ok (.lanePageReceive 5 [] 1) (held 0x33) (fun u => u.rd Fld.LN_BOL_CNT_UNKNOWN 5 = 1 &&
      onlyB (held 0x33) u [.LN_BOL_CNT])) : Bool) = true := by decide +kernel

/-- R330 to R334: a page, scrambled and stuffed, comes in at the receiver that has the scrambler's register. -/
theorem test_bolnan_page : ((
    let page : Nat := 0x4B + 2 ^ 8 + 5 * 2 ^ 24; let good := page + 2 ^ 112 * pageCrc page; let r := 0x155AA33CC0FF123;
      let line := (stuff (encodeBlock good r).1 {}).1.map Prod.fst; 130 ≤ line.length &&
      ok (.lanePageReceive 5 line 1) (port5rx 2 { aligned := true, synced := true, reg := some r }) (fun u => u.rd Fld.LN_NEG_PARTNER_PAGE 5 = 1 + 5 * 2 ^ 16 &&
      (u.lane 5).rx.reg = some (encodeBlock good r).2 && (u.lane 5).rx.block = [])) : Bool) = true := by decide +kernel

/-- R331: with a register whose newest bit alone is set, the output is 1 where that bit has moved to s(n-39) or s(n-58). -/
theorem test_scrambler : ((
    (scrBits 60 1).1 = List.replicate 38 false ++ [true] ++ List.replicate 18 false ++ [true, false, false]) : Bool) = true := by decide +kernel

/-- R332: a stuffing bit follows the 30th identical bit. -/
theorem test_stuffing : ((
    (stuff ((List.replicate 31 true).map (·, false)) {}).1.map Prod.fst = List.replicate 30 true ++ [false, true]) : Bool) = true := by decide +kernel

theorem test_lane_states : ((let st := fun (t : State) => t.rd Fld.LN_STATUS_STATE 5; still (.laneNegTimeout 5) (port5 2) &&
      still (.laneBlockAligned 5 [true]) (port5 4) && still (.lanePageSlot 5) (port5 4) && still (.laneUp 5) (port5 4) &&
      ok (.laneUp 5) (port5 3) (fun t => st t = 4) && still (.laneUp 5) ((port5 3).wr Fld.LN_STATUS_LOS 1 5) && still (.laneLinkLoss 5) (port5 2) &&
      ok (.lanePageSlot 5) (port5 1) (fun t => match t.outs with
      | [.line 5 _, .page 5 w] => w % 256 = 0x4B && w / 2 ^ 12 % 16 = 1
      | _ => false) && ok (.laneNegTimeout 5) (later (port5 2) 60000000000) (fun t => st t = 2 && (t.lane 5).huntAt = 60000000000 &&
      onlyB (port5 2) t []) && ok (.laneLinkLoss 5) (port5 4) (fun t => st t = 3) &&
      ok (.clientLosChange 5 true) (port5 4) (fun t => t.on Fld.LN_STATUS_LOS 5 && st t = 3) && ok (.laneTxFault 5) (port5 4) (fun t => st t = 3 &&
      t.on Fld.LN_STATUS_TXFAULT 5) && ok (.laneRefUnlock 0 1 false) (port5 4) (fun t => bit (t.rd Fld.LN_REF_LOCK 0) 1 = false && st t = 3 &&
      (t.lane 5).noRef = some 1)) : Bool) = true := by decide +kernel

theorem test_lane_rejected : ((
    ok (.lanePageSlot 5) (((port5 2).wr Fld.LN_NEG_PARTNER_PAGE 0x70001 5).wr Fld.LN_NEG_PARTNER_VALID 1 5) (fun t => t.rd Fld.LN_STATUS_STATE 5 = 6) &&
      (let s := later (((port5 6).wr Fld.LN_NEG_PARTNER_VALID 1 5).wr Fld.LN_REF_LOCK 1 0) 1000000000;
      ok (.laneRejectTimeout 5) s (fun t => t.rd Fld.LN_STATUS_STATE 5 = 1 &&
      !t.on Fld.LN_NEG_PARTNER_VALID 5))) : Bool) = true := by decide +kernel

theorem test_lane_retry : ((
    let s := (((port5 3).wr Fld.LN_CTRL_MODE 1 5).wr Fld.LN_CTRL_ALLOWED 7 5).wr Fld.LN_REF_LOCK 1 0; still (.laneRetryTimeout 5) s &&
      ok (.laneRetryTimeout 5) (later s 60000000000) (fun t => t.rd Fld.LN_STATUS_STATE 5 = 1 && (t.lane 5).offer = 7 && (t.lane 5).txRes = 3) &&
      ok (.laneRetryTimeout 5) (later (s.setLane 5 { txRes := 1, rxRes := 1, offer := 4 }) 60000000000) (fun t => t.rd Fld.LN_STATUS_STATE 5 = 1)) : Bool) = true := by decide +kernel

/-- R339 to R344: sleep by direction, and what a write of LN_PRBS_CTRL sets and injects. -/
theorem witness_LanePatternsAndSleep : ((let s := (port5 4).wr Fld.LN_STATUS_CURLPI 1 5; s.egressEmpty 5 &&
      !s.edgeWithin 5 (s.rd Fld.LN_LPI_TXWAKE 5 * 10 + 1000) && ok (.txLpiEnter 5) (later s 60000000000) (fun t => t.on Fld.LN_STATUS_TXLPI 5 &&
      laneB (later s 60000000000) t && still (.txLpiWake 5) t) &&
      ok (.txLpiWake 5) { (s.wr Fld.LN_STATUS_TXLPI 1 5) with tm := { s.tm with queues := [(47, [{}])] } } (fun u => !u.on Fld.LN_STATUS_TXLPI 5) &&
      ok (.rxLpiChange 5 true) s (fun t => t.on Fld.LN_STATUS_RXLPI 5) && decide (Accepted s .serial (portBlock 5 + 0x20) 0x12855) &&
      ok (.prbsInjectOne .serial 5 0x12955) s (fun t => t.outs = [.inject 5 false] && t.rd Fld.LN_PRBS_CTRL_GEN 5 = 5) &&
      ok (.prbsInjectOne .serial 5 0x12955) (port5 1) (fun t => t.outs = [] && (t.lane 5).inj.one = 1) &&
      ok (.prbsInjectHdr .serial 5 0x22955) (port5 1) (fun t => (t.lane 5).inj.hdr = 2) &&
      ok (.prbsGenWrite .serial 5 0x2A55) s (fun t => t.outs = [.injectEvery 5 (some 10)]) &&
      ok (.prbsInjectHdr .serial 5 0x22855) s (fun t => t.outs = [.inject 5 true]) &&
      ok (.prbsGenWrite .serial 5 0x285A) s (fun t => t.rdReg .LN_PRBS_CTRL 5 = s.rdReg .LN_PRBS_CTRL 5)) : Bool) = true := by decide +kernel

theorem test_prbs : ((
    let s := (port5 4).wr Fld.LN_PRBS_CTRL_CHK 8 5; let at_ := fun (k : Checker) => s.setLane 5 { txRes := 1, rxRes := 1, chk := k };
      let h := List.replicate 8 true; ok (.prbsCheckerLock 5 [false]) (at_ { hist := h, good := 255 }) (fun u => u.on Fld.LN_PRBS_STAT_LOCK 5 &&
      u.rd Fld.LN_PRBS_BITS_COUNT 5 = 0) &&
      ok (.prbsCheckerLock 5 [false]) (at_ { hist := h, good := 254 }) (fun u => !u.on Fld.LN_PRBS_STAT_LOCK 5) &&
      ok (.prbsCheckerLock 5 [false]) ((at_ { hist := h, locked := true }).wr Fld.LN_PRBS_STAT_LOCK 1 5) (fun u => u.on Fld.LN_PRBS_STAT_LOCK 5 &&
      u.rd Fld.LN_PRBS_BITS_COUNT 5 = 1 && u.rd Fld.LN_PRBS_ERR_COUNT 5 = 0) &&
      ok (.prbsCheckerLoss 5 [true]) ((at_ { hist := h, locked := true, win := List.replicate 63 true }).wr Fld.LN_PRBS_STAT_LOCK 1 5) (fun w => !w.on Fld.LN_PRBS_STAT_LOCK 5 &&
      w.rd Fld.LN_PRBS_ERR_COUNT 5 = 1 && w.rd Fld.LN_PRBS_BITS_COUNT 5 = 1 && w.rd Fld.LN_PRBS_STAT_LOCKLOST 5 = 1) &&
      ok (.prbsCheckerLoss 5 [true]) ((at_ { hist := h, locked := true, win := List.replicate 62 true }).wr Fld.LN_PRBS_STAT_LOCK 1 5) (fun w => w.on Fld.LN_PRBS_STAT_LOCK 5) &&
      still (.prbsCheckerLock 5 [true]) (port5 4) && ok (.prbsGenWrite .serial 5 0x2855) (port5 4) (fun t => t.rd Fld.LN_PRBS_CTRL_CHK 5 = 5 &&
      t.on Fld.LN_STATUS_TXTEST 5 && laneB (port5 4) t)) : Bool) = true := by decide +kernel

/-! ## Frame MACs, gates and the traffic manager -/

/-- A frame of 64 bytes with its check sequence. -/
def frame64 : List Byte :=
  let b := List.replicate 12 1 ++ [0x12, 0x34] ++ List.replicate 46 0
  b ++ bytes (crc32 b) 4

/-- The frame has been counted and waits for Sieve. -/
def whole (t : State) : Bool :=
  t.rdReg .MC_RX_FRAMES 5 = 1 && t.rdReg .MC_RX_OCTETS 5 = 64 && (Tab.get t.sv.rx [] 5).map (fun x => (x.data, x.len, x.inport, x.rxBad)) = [(frame64.take 60, 64, 5, none)]

/-- The first 40 bytes of that frame with their mCRC. -/
def first40 : List Byte := frame64.take 40 ++ bytes (crc32 (frame64.take 40) ^^^ 0xFFFF0000) 4

/-- R353, R372: a good frame of 64 bytes, the same in two fragments, one with a bad check sequence, one too short, a fragment that none waits for. -/
theorem witness_ClientFramesReceived : ((
    let s := port5 4; let env : RxEnv := { lane := 0, mismatch := false, fine := 0, begun := false };
      let go := fun (f : RxFrame) p => ok (.clientFrameReceive 5 f env) s p; decide (GoodFcs frame64) &&
      go (.express frame64) whole && go (.start 1 frame64) whole && go (.start 1 first40) (fun t => t.sv = s.sv &&
      (t.mac 5).asm.map (fun a => (a.count, a.next, a.bytes, a.lost)) = some (1, 0, frame64.take 40, false) &&
      ok (.clientFrameReceive 5 (.cont 1 0 (frame64.drop 40)) env) t (fun u => whole u && u.rdReg .MC_RX_FRAGS 5 = 1 && (u.mac 5).asm = none)) &&
      go (.cont 1 0 frame64) (fun t => t.rdReg .MC_RX_ASSYERR 5 = 1 && t.rdReg .MC_RX_FRAGS 5 = 1 && onlyB s t [.MC_RX_FRAGS, .MC_RX_ASSYERR]) &&
      go (.express (frame64.set 3 9)) (fun t => t.rdReg .MC_RX_FCSERR 5 = 1 && t.sv = s.sv && onlyB s t [.MC_RX_FCSERR]) &&
      (let r := List.replicate 14 0; go (.express (r ++ bytes (crc32 r) 4)) (fun t => t.rdReg .MC_RX_RUNT 5 = 1 && t.sv = s.sv)) &&
      go .badSmd (fun t => t.rdReg .MC_RX_SMDERR 5 = 1 && onlyB s t [.MC_RX_SMDERR]) &&
      ok (.clientFrameReceive 5 (.express frame64) env) (s.wr Fld.PW_DOM_STATUS_DEPTH 1 10) (fun t => t.sv = s.sv &&
      (t.mac 5).inbox.length = 1)) : Bool) = true := by decide +kernel

/-- R353: a verify frame is answered, a response ends verification. -/
theorem test_verify : ((
    let s := (port5 4).wr Fld.MC_PREEMPT_PREEN 1 5; let env : RxEnv := { lane := 0, mismatch := false, fine := 0, begun := false };
      ok (.clientFrameReceive 5 .verify env) s (fun t => t = { s with outs := [.mergeVerify 5 true] }) &&
      ok (.preemptVerifyTimer 5) (s.wr Fld.MC_PREEMPT_STATUS_VSTATUS 1 5) (fun t => t.outs = [.mergeVerify 5 false] &&
      t.rd Fld.MC_PREEMPT_STATUS_VSTATUS 5 = 2 && (t.mac 5).verSent = 1 &&
      ok (.clientFrameReceive 5 .respond env) t (fun u => u.rd Fld.MC_PREEMPT_STATUS_VSTATUS 5 = 3)) &&
      still (.preemptVerifyTimer 5) ((s.wr Fld.MC_PREEMPT_STATUS_VSTATUS 2 5).setMac 5 { verSent := 3 }) &&
      ok (.preemptVerifyTimer 5) (later ((s.wr Fld.MC_PREEMPT_STATUS_VSTATUS 2 5).setMac 5 { verSent := 3 }) 10000000000) (fun t => t.rd Fld.MC_PREEMPT_STATUS_VSTATUS 5 = 4)) : Bool) = true := by decide +kernel

/-- R350, R442: a packet moves to the candidate, then goes out padded and with its check sequence. -/
theorem witness_ClientFramesSent : ((
    let x : Packet := { data := List.replicate 20 7, len := 64 }; let s := { port5 4 with tm := { up.tm with queues := [(47, [x])] } };
      let env : TxEnv := { lane := 0, mismatch := none, dataErr := .clean, fine := 0, preempt := none, underrun := none, closed := none }; decide (TransmitUp s 5) &&
      bit (s.rd Fld.GT_GATES_OPEN 5) 7 && 1 ≤ s.rd ⟨.TM_Q_CFG, 4, 12⟩ 47 && !(s.shaper 47).en && !s.on ⟨.TM_Q_CFG, 25, 1⟩ 47 &&
      !s.on Fld.MC_TS_CTRL_ONESTEP 5 && s.rdReg .MC_CSUM_CTRL 5 = 0 && !s.on Fld.CX_PORT_CFG_PROTECT 5 &&
      ok (.schedulerDequeue 5) s (fun t => (t.mac 5).candE = [(47, x)] && t.queue 47 = [] && t.tm.decisions = s.tm.decisions + 1 &&
      ok (.macTxFrame 5 env) t (fun u => (u.mac 5).candE = [] && u.rdReg .MC_TX_FRAMES 5 = 1 && u.rdReg .MC_TX_OCTETS 5 = 64 &&
      match u.outs.head? with
      | some (.frame 5 b false) => b.take 60 = List.replicate 20 7 ++ List.replicate 40 0 && b.length = 64 && decide (GoodFcs b)
      | _ => false))) : Bool) = true := by decide +kernel

/-- R351, R354: an express frame that becomes ready after 10 bytes preempts at the first legal point, byte 64 of 128, with the mCRC of what was sent. -/
theorem test_preempt : ((
    let x : Packet := { data := (List.range 128).map (BitVec.ofNat 8), len := 132 };
      let s := (((port5 4).wr Fld.MC_PREEMPT_STATUS_ACTIVE 1 5).wr Fld.MC_PREEMPT_EXPRESS 0x80 5).setMac 5 { candP := [(40, x)] };
      let env : TxEnv := { lane := 0, mismatch := none, dataErr := .clean, fine := 0, preempt := some 10, underrun := none, closed := none };
      s.rd Fld.MC_PREEMPT_ADDFRAG 5 = 0 &&
      ok (.macTxFrame 5 env) s (fun t => t.outs = [.fragment 5 (x.data.take 64 ++ bytes (crc32 (x.data.take 64) ^^^ 0xFFFF0000) 4)] &&
      (t.mac 5).held.map (fun h => (h.q, h.sent)) = some (40, 64) && t.on Fld.MC_PREEMPT_STATUS_HELD 5 && t.rdReg .MC_TX_PREEMPTS 5 = 1 &&
      ok (.macResume 5 { env with preempt := none }) t (fun u => (u.mac 5).held = none && match u.outs.head? with
      | some (.frame 5 b false) => b.take 64 = x.data.drop 64 && b.length = 68
      | _ => false))) : Bool) = true := by decide +kernel

/-- R355: a held frame's rest; while it is held, no other preemptable frame starts. -/
theorem test_mac_resume : ((
    let h : HeldFrame := { q := 40, pkt := {}, bytes := List.replicate 64 3, sent := 60, stomp := none };
      let env : TxEnv := { lane := 0, mismatch := none, dataErr := .clean, fine := 0, preempt := none, underrun := none, closed := none };
      let s := ((port5 4).setMac 5 { held := some h }).wr Fld.MC_PREEMPT_STATUS_HELD 1 5;
      ok (.macResume 5 env) s (fun t => t.outs.contains (.frame 5 [3, 3, 3, 3] false) &&
      (t.mac 5).held = none && !t.on Fld.MC_PREEMPT_STATUS_HELD 5) &&
      still (.macTxFrame 5 env) ((s.setMac 5 { held := some h, candP := [(40, {})] }).wr Fld.MC_PREEMPT_STATUS_ACTIVE 1 5)) : Bool) = true := by decide +kernel

/-- R359, R360: the last pending edge of a Ready sequencer leaves its store dry; R92, R366: REROLE. -/
theorem witness_GateEdgesAndRerole : ((
    let m : Msg := { sender := .block 1, tag := 0, body := [], dword := some (0x40005 + 3 * 2 ^ 28 + 2 ^ 36) };
      let s := up.setGate 5 { st := .ready, loader := 2, edges := [(0, 0xF)], mbx := [m] }; ok (.gateEdgeApply 5) s (fun t => t.rd Fld.GT_GATES_OPEN 5 = 0xF &&
      (t.gate 5).edges = [] && t.rd Fld.GT_CNT_DRY 5 = 1) && still (.gateEdgeApply 5) (s.setGate 5 { edges := [(1, 0xF)] }) &&
      decide (Accepted s .serial (portBlock 5 + 0x1210) 0x100) && ok (.portRerole .serial 5 0x100) s (fun t => t.rd Fld.MC_ROLE_GEN 5 = 1 &&
      (t.gate 5).mbx = [] && t.sv = s.sv) && ok (.portRerole .serial 5 0) s (fun t => onlyB s t [])) : Bool) = true := by decide +kernel

/-- R451, R454: staging and commits. -/
theorem witness_ShaperAndPolicerCommits : ((decide (Accepted up .serial 0x05110000 3199) && decide (Accepted up .serial 0x0511000C 0x1B) &&
      ok (.shaperSelect .serial 3199) up (fun t => stageOf t false .serial = (up.shaper 3199).stage 3199 && onlyB up t [] &&
      ok (.shaperCommit .serial 0x19) t (fun u => (u.shaper 3199).en &&
      (u.shaper 3199).credit = ((u.shaper 3199).burst * 65536 : Nat) || 0x19 / 4 % 4 ≠ 2) &&
      ok (.shaperCommit .serial 0x1B) t (fun u => (u.shaper 3199).en && (u.shaper 3199).accIdle &&
      (u.shaper 3199).credit = ((u.shaper 3199).burst * 65536 : Nat) && onlyB t u [])) &&
      ok (.shaperSelect .serial 3200) up (fun t => ok (.shaperCommit .serial 0x1B) t (fun u => u.tm.shapers = t.tm.shapers)) &&
      ok (.policerSelect .serial 5) up (fun t => ok (.policerCommit .serial 0x15) t (fun u => (u.policer 5).en && (u.policer 5).accIdle &&
      (u.policer 5).credit = 0 && onlyB t u []))) : Bool) = true := by decide +kernel

/-- R460, R461: a capture entry, a full ring, and the forecast. R451: a group's shaper is committed. -/
theorem test_group_commit : ((ok (.shaperSelect .serial 4096) up (fun t => ok (.shaperCommit .serial 0x15) t (fun u => (u.shaper 4096).en &&
      (u.shaper 4096).credit = 0 && onlyB t u []))) : Bool) = true := by decide +kernel

theorem witness_CaptureAndForecast : ((
    let x : Packet := { data := [1, 2, 3], len := 64 };
      let s := { (up.wr ⟨.TM_CR_BASE, 40, 20⟩ 2 0) with tm := { up.tm with queues := [(3856, [x])], decisions := 55, admissions := 20 } };
      ok (.captureWrite 0) s (fun t => t.queue 3856 = [] &&
      t.rd ⟨.TM_CR_WR, 0, 20⟩ 0 = 1 && t.hbmRead 5 32 3 = [1, 2, 3]) &&
      ok (.captureWrite 0) (s.wr ⟨.TM_CR_RD, 0, 20⟩ 1 0) (fun t => t.rd ⟨.TM_CR_DROP, 0, 32⟩ 0 = 1 && t.rd ⟨.TM_CR_WR, 0, 20⟩ 0 = 0) &&
      still (.captureWrite 1) s && ok .loadForecast s (fun t => t.rd ⟨.TM_LOAD_FCST, 0, 16⟩ = 5 && t.tm.decisions = 0 &&
      (t.on Fld.TM_LOAD_FCST_QUEUING == decide (s.rd ⟨.TM_LOAD_CFG, 0, 16⟩ * 10 < 55)) &&
      onlyB s t [.TM_LOAD_FCST])) : Bool) = true := by decide +kernel

/-! ## Sieve and Ladle -/

/-- R379, R397: a frame that no rule matches takes flow 0: an action word that is not valid discards it, a valid one queues it. -/
theorem witness_SieveClassifies : ((
    let p : Packet := { data := frame64.take 60, len := 64, handle := 9 }; let s := { (up.wr Fld.SV_CTRL_EN 1) with sv := { up.sv with rx := [(145, [p])] } };
      let a := 2 ^ 60 + 5; let w := (({ s with sv := { s.sv with act := [(0, BitVec.ofNat 64 a)] } }).wr ⟨.TM_Q_CFG, 0, 1⟩ 1 5).wr ⟨.TM_Q_LIMIT, 0, 24⟩ 100 5;
      decide (PlainFrame p.data) &&
      ok (.sievePass 145 7) s (fun t => t.sv.rx = [] && t.rdReg .SV_CNT_PASS1 = 1 && t.rdReg .SV_CNT_DEFAULT = 1 && t.rdReg .SV_DROP_ACTION = 1 &&
      t.tm.queues = []) && ok (.sievePass 145 7) w (fun t => t.rdReg .SV_CNT_DEFAULT = 1 && match t.queue 5 with
      | [y] => y.data = p.data && y.handle = 9 && y.queue = 5
      | _ => false) && still (.sievePass 145 7) (s.wr Fld.SV_CTRL_EN 0)) : Bool) = true := by decide +kernel

/-- R405, R407: a fragment times out, an entry expires, and the back burner takes input 2. -/
theorem test_backburner : ((
    let p : Packet := { data := frame64.take 60, len := 64, handle := 9 };
      let k : FragKey := { port := 1, v6 := false, src := 1, dst := 2, proto := 17, ident := 3 };
      let s := { up with sv := { up.sv with fragWait := [(k, p, 9)], frags := [(k, 5, 9)] }, tm := { up.tm with queues := [(3330, [p])] } };
      ok .backburnerProcess s (fun t => t.queue 3330 = [] &&
      t.tm.bbTurn = 3 && t.rdReg .SV_DROP_ACTION = 1) &&
      (let w := later s (9 + s.rd Fld.SV_BB_CTRL_FRAGWAIT * 1000); let l := later s (9 + s.rd Fld.SV_BB_CTRL_FRAGLIFE * 1000000);
      ok (.fragWaitTimeout 0) w (fun t => t.sv.fragWait = [] &&
      t.rd Fld.SV_BB_CNT_TIMEOUT = 1 && t.sv.frags = s.sv.frags) && ok (.fragEntryExpiry 0) l (fun t => t.sv.frags = [] &&
      t.sv.fragWait = l.sv.fragWait)) && still (.fragWaitTimeout 0) s && still (.fragEntryExpiry 0) s &&
      still (.fragEntryExpiry 1) s) : Bool) = true := by decide +kernel

/-- R391 to R395: the tables; a word is committed at its high word, and not into a valid entry or an active set. -/
theorem witness_SieveTables : ((decide (Accepted up .serial 0x04000004 1) && decide (Accepted up .serial (0x04100008) 7) &&
      decide (Accepted up .serial (0x0410000C) 8) && decide (Accepted up .serial 0x0412000C 8) &&
      decide (Accepted up .serial 0x0400010C 0xFFFFFFFF) && ok (.ruleSetSwap .serial 1) up (fun t => t.rd Fld.SV_RS_CTRL_ACTIVE = 1 &&
      t.sv.tr = up.sv.tr) && ok (.svEmWordWrite .serial 0 false 7) up (fun t => Tab.get t.lowHalf 0 (Reg.key .SV_EM_WORD 0 0) = 7 &&
      ok (.svEmWordWrite .serial 0 true 8) t (fun u => u.emWord 0 0 = 0x800000007 && onlyB t u []) &&
      (let v := { t with sv := { t.sv with em := [(7, 0x8000000000000000)] } }; hasBit (v.emWord 0 7) 63 &&
      ok (.svEmWordWrite .serial 0 true 8) v (fun u => u.sv = v.sv && onlyB v u []))) &&
      ok (.svTrWordWrite .serial 1 0 true 8) up (fun t => t.trWord 1 0 0 = 0x800000000) &&
      ok (.svTrWordWrite .serial 0 0 true 8) up (fun t => t.sv = up.sv) &&
      ok (.svActWordWrite .serial true 0xFFFFFFFF) up (fun t => Tab.get t.sv.act 0 0 = 0x7007FFFF00000000) &&
      ok .ruleSetDrained { up with sv := { up.sv with drainDue := true } } (fun t => t.sv = up.sv)) : Bool) = true := by decide +kernel

theorem test_seed_flowstat : ((decide (Accepted up .serial 0x04000014 5) &&
      ok (.whiskSeedWrite .serial true 5) (up.wr Fld.SV_CTRL_EN 0) (fun t => t.sv = { up.sv with seed := 0x500000000 }) &&
      ok (.whiskSeedWrite .serial true 5) (up.wr Fld.SV_CTRL_EN 1) (fun t => t.sv = up.sv) &&
      (let s := { up with sv := { up.sv with fsHost := [(0, (100, 2))] } }; decide (Readable s .serial 0x04000118) &&
      ok (.flowstatHostRead .serial false false) s (fun t => t.outs = [.regRead .serial 100] && t.sv.fsLatch = 2 && t.sv.fsHost = [] &&
      ok (.flowstatHostRead .serial true false) t (fun u => u.outs.head? = some (.regRead .serial 2) &&
      u.sv = { t.sv with fsLatch := 0 })))) : Bool) = true := by decide +kernel

/-- R413, R421, R422, R425, R430. -/
theorem witness_LadleListsAndLimits : ((
    let s := up.setFlist 0 0 { front := [9], fresh := up.poolBuffers 0 }; let h := up.wr Fld.KT_BOOT_STATUS_HOLDING 1;
      ok (.ladlePrefetchRefill 0 0 false .clean) s (fun t => t = s.setFlist 0 0 { fresh := up.poolBuffers 0, prefetch := [9] }) &&
      ok (.ladlePrefetchRefill 0 0 true .clean) s (fun t => (t.ledger 9).quar && (t.flist 0 0).rebuilding && (t.flist 0 0).front = [] &&
      t.rd ⟨.LD_LEDGER_ERR, 0, 8⟩ = 1) &&
      (let r := up.setFlist 0 0 { front := [9], returned := [5], rebuilding := true }; still (.ladlePrefetchRefill 0 0 false .clean) r &&
      ok (.ledgerRebuildDone 0 0) r (fun t => (t.flist 0 0).front = [5, 9] && !(t.flist 0 0).rebuilding && (t.flist 0 0).returned = [])) &&
      decide (Accepted h .serial 0x06000100 64) && h.rd Fld.LD_PART_RO_UNITS + h.rd Fld.LD_PART_PD_UNITS + h.rd Fld.LD_PART_LS_UNITS + 64 ≤ 504 &&
      ok (.ldPartitionWrite .serial 0 64) h (fun t => t.rd Fld.LD_PART_PS_UNITS = 64 && t.ld = h.ld) &&
      ok (.ldPartitionWrite .serial 0 64) up (fun t => t.ld = up.ld && onlyB up t []) && decide (Accepted h .serial 0x0600012C 7) &&
      ok (.ldPartitionWrite .serial 7 7) h (fun t => t.rd ⟨.LD_POOL_REGION, 0, 9⟩ 0 3 = 7) && decide (Accepted up .serial 0x05001010 9) &&
      ok (.ldReserveWrite .serial 0 0 true 9) up (fun t => t.rd ⟨.LD_REQ_CAP, 0, 27⟩ 0 0 = 9 && onlyB up t [.LD_REQ_CAP]) &&
      ok (.ldReserveWrite .serial 0 0 false 9) up (fun t => t.rd ⟨.LD_REQ_RSV, 0, 27⟩ 0 0 = 9 &&
      ok (.ldReserveWrite .serial 0 0 true 8) t (fun u => u.ld = t.ld && onlyB t u [])) && decide (Accepted up .serial 0x0501000C 0) &&
      ok (.ledgerLookup .serial true 0) { up with lowHalf := [(Reg.key .LD_LOOK 0 0, 9)], ld := { up.ld with ledger := [(9, { owner := 3, gen := 2, pool := 1, alloc := true })] } } (fun t => t.rdReg .LD_LOOK_ENTRY = 0x50203 &&
      t.on ⟨.LD_LOOK_STAT, 0, 1⟩ && t.rd ⟨.LD_LOOK_STAT, 8, 8⟩ = 1)) : Bool) = true := by decide +kernel

/-! ## The cipher engine -/

theorem witness_CipherLanesAndFibreKeys : ((decide (Accepted up .serial (0x08010004 + 0x10000 * 11) 1) &&
      ok (.cipherLaneRevive .serial 11 1) up (fun t => t.cx = { up.cx with reviving := [11] } && onlyB up t [] &&
      ok (.cipherReviveDone 11 false) t (fun u => u.on Fld.CX_LANE_STAT_QUAR 11 && u.on Fld.CX_LANE_STAT_FAILKAT 11 && u.cx.reviving = [] &&
      !bit (u.rd Fld.CX_CAP_INSERV) 11 && onlyB t u [.CX_LANE_STAT, .CX_CAP])) && still (.cipherReviveDone 11 true) up &&
      decide (Accepted up .serial 0x08003004 1) &&
      ok (.ponKeyGenerate .serial 1) (up.wr Fld.CX_PON_KEY_TXIDX 1) (fun t => t.on Fld.CX_PON_GENSTAT_BUSY && t.cx = up.cx) &&
      ok (.ponKeyGenerate .serial 3) up (fun t => t.cx = up.cx && onlyB up t [])) : Bool) = true := by decide +kernel

theorem witness_KeysAndUnwraps : ((
    let s := up.wr Fld.CX_SC_CFG_KEYV 1 1015; let k := { s with cx := { s.cx with keys := [(1015, { key := [1] })], keks := [(63, [1]), (31, [2])] } };
      decide (Accepted k .serial (0x08100000 + 0x40 * 1015) 0x100) &&
      ok (.scClear .serial 1015 0x100) k (fun t => t.cxKey 1015 = {} && !t.on Fld.CX_SC_CFG_KEYV 1015) &&
      ok (.scClear .serial 1016 0x100) k (fun t => t.cx = k.cx && onlyB k t []) &&
      ok (.scPnWrite .serial 3 true 5) up (fun t => t.rdReg .CX_SC_PN 3 = 0x500000000) &&
      ok (.scPnWrite .serial 1015 true 5) k (fun t => t.cx = k.cx && onlyB k t []) && decide (Accepted k .serial 0x0820004C 0x80000000) &&
      ok (.kekClear .serial true 0x80000000) k (fun t => t.cx.keks = [(31, [2])]) && decide (Accepted up .serial 0x08200240 1) &&
      ok (.blobSubmit .serial 1) up (fun t => t.cx.nextSeq = 1 && t.cx.unwraps.length = 1 && t.on ⟨.CX_UNW_RES, 2, 1⟩ 0 0 &&
      onlyB up t [.CX_UNW_RES]) &&
      (let u : Unwrap := { seq := 65535, blob := List.replicate 8 0, src := 0, headEnd := false };
      ok .unwrapComplete { up with cx := { up.cx with unwraps := [u] } } (fun t => t.cx.unwraps = [] &&
      t.rdReg .CX_UNW_RES 0 15 = 0xFFFF0011))) : Bool) = true := by decide +kernel

/-! ## Power -/

/-- R493 to R505. -/
theorem witness_DomainMotion : ((
    let e := (up.wr Fld.PW_DOM_STATUS_ENTERING 1 12); let x := (up.wr Fld.PW_DOM_STATUS_EXITING 1 1).wr Fld.PW_DOM_STATUS_DEPTH 2 1;
      ok (.domainEntryComplete 12) { e with pow := { e.pow with goal := [(12, 2)] } } (fun t => t.rd Fld.PW_DOM_STATUS_DEPTH 12 = 2 &&
      t.pre = e.pre) && still (.domainEntryComplete 12) up && ok (.domainExitComplete 1 false) x (fun t => t.rd Fld.PW_DOM_STATUS_DEPTH 1 = 0 &&
      t.pre = x.pre && bit t.boot.powered 1) && still (.domainExitComplete 1 true) up &&
      ok (.domainWakeTime 5) ((up.wr Fld.PW_DOM_TARGET_WVALID 1 5).wr Fld.PW_DOM_TARGET_DEPTH 2 5) (fun t => !t.on Fld.PW_DOM_TARGET_WVALID 5 &&
      t.rd Fld.PW_DOM_TARGET_DEPTH 5 = 0) &&
      still (.domainWakeTime 5) ((up.wr Fld.PW_DOM_TARGET_WVALID 1 5).wr Fld.PW_DOM_WAKE_NS 1 5)) : Bool) = true := by decide +kernel

/-- R503: domain 1 asleep at depth 2 with a timer of context 0 that is 80 us ahead starts its exit, one more and it does not. -/
theorem test_deadline_wake : ((
    let s := fun (n : Nat) => let z := ((up.wr Fld.PW_DOM_STATUS_DEPTH 2 1).wr Fld.PW_DOM_TARGET_DEPTH 2 1).setCtx 0 { loader := 2, timers := [(0, { armed := true, target := BitVec.ofNat 32 n })] }; z.wrReg .PW_DOM_NEXT (BitVec.ofNat 64 (nextWord (z.nextEvent 1))) 1; decide (NextShown (s 80000) 1) &&
      (s 80000).on Fld.PW_DOM_NEXT_VALID 1 && ok (.domainDeadlineWake 1) (s 80000) (fun t => t.on Fld.PW_DOM_STATUS_EXITING 1 &&
      Tab.get t.pow.goal 0 1 = 0) && still (.domainDeadlineWake 1) (s 80001)) : Bool) = true := by decide +kernel

theorem test_picker : ((
    let s := { (up.wr Fld.PW_PICK_DEST_EN 1).setCtx 0 { loader := 2 } with pow := { up.pow with pickCause := 5 } };
      ok .pickerMessage s (fun t => (t.ctx 0).mbx.map (·.body) = [[5]] &&
      (t.ctx 0).mbx.map (·.sender) = [.block 0x301] && t.pow.pickCause = 0 && t.regs = s.regs) &&
      still .pickerMessage up) : Bool) = true := by decide +kernel

theorem witness_VotesAndSaveMemory : ((
    let s := { (up.wr ⟨.KT_SAVE_ADDR, 0, 19⟩ 0x70003) with save := [(0x70000, 9), (3, 1)] }; decide (Accepted up .serial 0x0003001C 0x1002) &&
      ok (.voteSerialWrite .serial 0x1002) up (fun t => t.rd Fld.PW_VOTE_SER_DOM = 0x801 && t.slots 12 ≠ 0 && t.slots 1 ≠ 0 &&
      onlyB up t [.PW_VOTE_SER]) && ok (.voteHostWrite .host 0x1002) up (fun t => t.rd Fld.PW_VOTE_HOST_DOM = 0x801 && t.slots 12 ≠ 0 &&
      onlyB up t [.PW_VOTE_HOST]) && decide (Accepted up .host 0x00030018 0x1002) && decide (Readable s .serial 0x44) &&
      ok (.saveDataAccess .serial none) s (fun t => t.save = s.save && t.outs = [.regRead .serial 9]) &&
      ok (.saveDataAccess .serial none) (s.wr ⟨.KT_SAVE_ADDR, 0, 19⟩ 0) (fun t => t.outs = [.regRead .serial 0]) &&
      ok (.saveDataAccess .serial (some 7)) (s.wr ⟨.KT_SAVE_ADDR, 0, 19⟩ 0x6FFFC) (fun t => Tab.read t.save 0 0x6FFFC 5 = [7, 0, 0, 0, 9]) &&
      ok (.saveDataAccess .serial (some 7)) s (fun t => t.save = s.save) &&
      ok (.saveDataAccess (.ctx 0) (some 7)) (s.setCtx 0 { loader := 3, auth := 2 }) (fun t => Tab.read t.save 0 0x70000 4 = [7, 0, 0, 0]) &&
      decide (Accepted (s.setCtx 0 { loader := 3, auth := 2 }) (.ctx 0) 0x44 7)) : Bool) = true := by decide +kernel

theorem witness_BatteryAndTimekeep : ((
    let s := (up.wr Fld.PW_STATUS_ONBATT 1).wr Fld.PW_BATT_CTRL_SRC 0; ok (.batteryEnter 100 true) (up.wr Fld.PW_BATT_CTRL_SRC 0) (fun t => t.on Fld.PW_STATUS_ONBATT &&
      t.on Fld.PW_BATT_STATUS_ONBATT && t.rd Fld.PW_BATT_STATUS_VIN = 100) && ok (.batteryLeave 1200 false) s (fun t => !t.on Fld.PW_STATUS_ONBATT) &&
      s.on Fld.PW_STATUS_ONBATT && up.rd Fld.KT_BOOT_STATUS_STAGE = 8 && !up.on Fld.PW_THERM_TRIPPED && still .batteryDelayExpiry up &&
      (let b := later (s.wr Fld.PW_BATT_CTRL_ACT 1) (s.rd Fld.PW_BATT_CTRL_DELAY * 60000000000); b.on Fld.PW_STATUS_ONBATT &&
      b.on Fld.PW_BATT_CTRL_ACT && decide (b.pow.battAt + b.rd Fld.PW_BATT_CTRL_DELAY * 60000000000 ≤ b.ns64)) &&
      decide (Accepted up .serial 0x00030004 0x5A10) &&
      (let t := { (up.wr Fld.PW_DOM_STATUS_DEPTH 4 2) with pow := { up.pow with timekeep := true } }; decide (Accepted t .serial 0x00030004 0x5A20) &&
      ok (.timekeepExitRequest .serial 0x5A20) t (fun u => u.pow.tkExiting && u.on Fld.PW_DOM_STATUS_EXITING 2)) &&
      still .timekeepExitComplete up) : Bool) = true := by decide +kernel

theorem test_voltage_rise : ((
    let s := { (up.wr Fld.PW_BATT_THR_LOWV 1000) with pow := { up.pow with timekeep := true, leftBatt := true } };
      ok (.inputVoltageRise 1021) s (fun t => t.pow.tkExiting) &&
      ok (.inputVoltageRise 1020) s (fun t => !t.pow.tkExiting) && ok (.inputVoltageRise 7) up (fun t => t.rd Fld.PW_BATT_STATUS_VIN = 7 &&
      onlyB up t [.PW_BATT_STATUS])) : Bool) = true := by decide +kernel

theorem witness_GovernorMovesTheRail : ((
    let s := up.wr Fld.PW_GOV_STATUS_VCORE 860; ok (.governorUpdate 500 30 0) s (fun t => t.rd Fld.PW_GOV_STATUS_VCORE = 760 &&
      t.rd Fld.PW_GOV_STATUS_FLOORV = 500 && t.rd Fld.PW_GOV_TJ_TJ = 30 && !t.on Fld.PW_GOV_STATUS_LIMIT && onlyB s t [.PW_GOV_TJ, .PW_GOV_STATUS]) &&
      ok (.governorUpdate 2000 30 0) (up.wr Fld.PW_GOV_STATUS_VCORE 700) (fun t => t.rd Fld.PW_GOV_STATUS_VCORE = 800 &&
      t.rd Fld.PW_GOV_STATUS_FLOORV = 1023 && t.on Fld.PW_GOV_STATUS_LIMIT)) : Bool) = true := by decide +kernel

/-! ## The command ports and the registers -/

theorem witness_HostLinkRequests : ((let s := up.wr ⟨.MG_BAR2_WIN, 0, 3⟩ 3; decide (s.partBytes 3 ≤ 2 ^ 40) &&
      ok (.bar0Request 0x0A000002 [0xF] none) up (fun t => match t.outs.head? with
      | some (.hostRead [w]) => w = BitVec.ofNat 32 (up.rdReg .LN_CTRL 0).toNat
      | _ => false) && ok (.bar0Request 0 [3] none) up (fun t => t.rd ⟨.MG_HOST_CNT, 0, 16⟩ = 1 && t.outs.head? = some (.hostRead [0xFFFFFFFF])) &&
      ok (.bar0Request 0 [3] (some [1])) up (fun t => onlyB up t [.MG_HOST_CNT]) && s.rd ⟨.MG_BAR2_WIN, 8, 5⟩ = 0 &&
      ok (.bar2Request 8 0 (some [1, 2])) s (fun t => t.hbmRead 3 8 3 = [1, 2, 0] && t.pre = s.pre &&
      ok (.bar2Request 8 2 none) t (fun u => u.outs = [.hostBytes [1, 2]])) &&
      (let z := s.wr ⟨.MG_BAR2_WIN, 8, 5⟩ 31; z.partBytes 3 < 31 * 2 ^ 30 + 2 ^ 32 &&
      ok (.bar2Request 0xFFFFFFFF 2 none) z (fun u => u.outs.head? = some (.hostBytes [0xFF, 0xFF]) &&
      u.rd ⟨.MG_HOST_CNT, 16, 16⟩ = 1))) : Bool) = true := by decide +kernel

theorem witness_SerialCommands : ((
    let a : Word := BitVec.ofNat 32 (Reg.addr .SV_EM_INDEX 0 0); let c := BitVec.ofNat 8 (phaseCrc up (0x02 :: wordBytes a ++ [1] ++ wordBytes 0x23));
      let c2 := BitVec.ofNat 8 (phaseCrc up (0x82 :: wordBytes a ++ [2] ++ [7, 8].flatMap wordBytes)); decide (SerialOn up) &&
      ok (.serialWrite a [0x23] 1 c) up (fun t => ok (.registerWrite .serial a 0x23) up (fun u => t = u)) &&
      ok (.serialWrite a [0x23] 1 (c + 1)) up (fun t => t.rd ⟨.MG_SER_CNT, 0, 16⟩ = 1 && bit t.cp.serStatus 2 && onlyB up t [.MG_SER_CNT]) &&
      ok (.serialWriteFixed a [0x23] 1 (BitVec.ofNat 8 (phaseCrc up (0x82 :: wordBytes a ++ [1] ++ wordBytes 0x23)))) up (fun t => t.rd Fld.SV_EM_INDEX_INDEX = 0x23) &&
      ok (.serialWriteFixed a [7, 8] 2 c2) up (fun t => t.rd Fld.SV_EM_INDEX_INDEX = 8 && t = eachWrite .serial 0 a.toNat [7, 8] up) &&
      ok (.serialRead a 16 (BitVec.ofNat 8 (phaseCrc up (0x01 :: wordBytes a ++ [16])))) up (fun t => match t.outs.head? with
      | some (.serial b) => b.length = 66 && t.cp.serStatus = 0
      | _ => false) && ok (.serialReadFixed a 1 (BitVec.ofNat 8 (phaseCrc up (0x81 :: wordBytes a ++ [1])))) up (fun t => match t.outs.head? with
      | some (.serial b) => b.length = 6
      | _ => false) &&
      ok (.serialStatus 0x03 (BitVec.ofNat 8 (phaseCrc up [0x03]))) { up with cp := { up.cp with serStatus := 0x15 } } (fun t => t.cp.serStatus = 0 &&
      match t.outs with
      | [.serial [b, _]] => b = 0x15
      | _ => false) && ok (.serialStatus 0x04 0) up (fun t => t.rd ⟨.MG_SER_CNT, 16, 16⟩ = 1 && bit t.cp.serStatus 4) &&
      ok .serialWritePhaseAbandoned up (fun t => t.rd ⟨.MG_SER_CNT, 16, 16⟩ = 1 && bit t.cp.serStatus 4)) : Bool) = true := by decide +kernel

theorem witness_ProxyAndEventPath : ((
    let s := up.wr Fld.MG_PROXY_ADDR_VALUE 0x09100110; let r : EvRecord := { ev := 1, count := 1, tsv := false, ns := 0, payload := 0 };
      decide (Accepted s .host 0x0C030108 3) &&
      decide (Readable (s.portVote .host) .proxy 0x09100110) && ok (.proxyRead .host 2) s (fun t => t.rd Fld.MG_PROXY_STAT_CODE = 0 &&
      t.on ⟨.MG_PROXY_STAT, 0, 1⟩ && t.rd Fld.MG_PROXY_DATA_VALUE = s.rd ⟨.TC_SLEEP_PARAM, 0, 32⟩) &&
      ok (.proxyRead .host 2) (up.wr Fld.MG_PROXY_ADDR_VALUE 0x0F000000) (fun t => t.rd Fld.MG_PROXY_STAT_CODE = 3) &&
      ok (.proxyWrite .host 3) (s.wr Fld.MG_PROXY_DATA_VALUE 0) (fun t => t.rd ⟨.TC_SLEEP_PARAM, 0, 32⟩ = 0 && t.rd Fld.MG_PROXY_STAT_CODE = 0) &&
      decide (Accepted up .host 0x0C030000 5) && ok (.delegationWrite .host 5) up (fun t => t.on Fld.MG_DELEG_LANES && !t.on Fld.MG_DELEG_TRAFFIC &&
      t.on Fld.MG_DELEG_SIEVE) && decide (Accepted up .host 0x0C020008 0x601) &&
      ok (.ringEnableWrite .host 0x601) { up with cp := { up.cp with latch := [r, r] } } (fun t => t.on Fld.MG_RING_CTRL_EN &&
      t.rd Fld.MG_RING_CTRL_SIZE = 6 && t.rd Fld.MG_RING_WR_INDEX = 0 && t.cp.latch = [r, r] && ok .latchDrain t (fun u => u.cp.latch = [r] &&
      u.rd Fld.MG_RING_WR_INDEX = 1 &&
      Tab.get u.cp.hostMem 0 ((t.rdReg .MG_RING_BASE).toNat) = recordBits r true))) : Bool) = true := by decide +kernel

theorem test_window_latch : ((
    let r : EvRecord := { ev := 1, count := 1, tsv := false, ns := 0, payload := 0 };
      let s := { ((up.wr Fld.PW_DOM_STATUS_DEPTH 2 12).wr Fld.MG_EVT_CFG_EN 1 0 1) with cp := { up.cp with windows := [(windowKey true 1 0, { isOpen := true, openAt := 5, wrote := 1, acc := 300, first := some r })] } }; still (.eventWindowClose 1 7 true) (later s 1000000004) &&
      ok (.eventWindowClose 1 7 true) (later s 1000000005) (fun t => t.cp.latch = [{ r with count := 255, latched := true }] &&
      Tab.get t.cp.windows {} (windowKey true 1 0) = { isOpen := true, openAt := 1000000005, wrote := 1 } && onlyB s t [] &&
      decide (Accepted t .serial 0x00040004 2) && ok (.latchPop .serial 2) t (fun u => u.cp.latch = []))) : Bool) = true := by decide +kernel

theorem test_msix : ((
    let s := later ({ up with cp := { up.cp with vecPend := [(1023, 2)], vecAt := [(1023, 9)] } }.wr Fld.MG_VEC_MOD_ITVL 5 0 1023) 5009;
      still (.msixIntervalExpiry 1023) (later s 5008) &&
      let m := s.wr Fld.MG_MSIX_CTRL_MASK 1 0 1023; ok (.msixIntervalExpiry 1023) (s.wr Fld.MG_MSIX_CTRL_MASK 0 0 1023) (fun t => t.outs = [.msix 1023] &&
      t.cp.vecPend = []) && ok (.msixIntervalExpiry 1023) m (fun t => t.outs = [] && bit (t.rdReg .MG_MSIX_PBA 0 15).toNat 63 &&
      decide (Accepted t .host (0x0C01000C + 16 * 1023) 0) && ok (.msixUnmask .host 1023 0) t (fun u => u.outs = [.msix 1023] &&
      !bit (u.rdReg .MG_MSIX_PBA 0 15).toNat 63))) : Bool) = true := by decide +kernel

/-- R287, R288: the window of events 71 and 73 is a minute. -/
theorem test_minute_window : ((
    let s := { up with cp := { up.cp with windows := [(windowKey false 71 0, { isOpen := true, openAt := 5 })] } };
      still (.eventWindowClose 71 0 false) (later s 60000000004) &&
      ok (.eventWindowClose 71 0 false) (later s 60000000005) (fun t => (Tab.get t.cp.windows {} (windowKey false 71 0)).isOpen = false)) : Bool) = true := by decide +kernel

theorem witness_RegisterReadsAndWrites : ((
    let s := (((up.wrReg .LN_BOL_CNT 0x30004 143).wrReg .MC_RX_FRAMES 0x500000006 143).wr ⟨.LD_LOOK_STAT, 0, 1⟩ 1);
      decide (Readable s .serial (Reg.addr .LN_BOL_CNT 143 0)) &&
      decide (Readable s .serial (Reg.addr .MC_RX_FRAMES 143 0)) && decide (Readable s .serial (Reg.addr .LD_LOOK_STAT 0 0)) &&
      decide (Accepted s .serial (Reg.addr .SV_EM_INDEX 0 0) 0xFFFFFFFF) && decide (Accepted s .serial (Reg.addr .LN_STATUS 143 0) 7) &&
      ok (.clearOnReadRead .serial (BitVec.ofNat 32 (Reg.addr .LN_BOL_CNT 143 0))) s (fun t => t.outs = [.regRead .serial 0x30004] &&
      t.rdReg .LN_BOL_CNT 143 = 0 && onlyB s t [.LN_BOL_CNT]) &&
      ok (.counterLowWordRead .serial (BitVec.ofNat 32 (Reg.addr .MC_RX_FRAMES 143 0))) s (fun t => t.outs = [.regRead .serial 6] &&
      t.rdReg .MC_RX_FRAMES 143 = 0 &&
      ok (.counterLowWordRead .serial (BitVec.ofNat 32 (Reg.addr .MC_RX_FRAMES 143 0 + 4))) t (fun u => u.outs.head? = some (.regRead .serial 5))) &&
      ok (.resultSlotStatusRead .serial (BitVec.ofNat 32 (Reg.addr .LD_LOOK_STAT 0 0))) s (fun t => t.outs = [.regRead .serial 5] &&
      t.on ⟨.LD_LOOK_STAT, 1, 1⟩) &&
      ok (.registerWrite .serial (BitVec.ofNat 32 (Reg.addr .SV_EM_INDEX 0 0)) 0xFFFFFFFF) s (fun t => t.rd Fld.SV_EM_INDEX_INDEX = 0x1FFFF &&
      onlyB s t [.SV_EM_INDEX]) &&
      ok (.registerWrite .serial (BitVec.ofNat 32 (Reg.addr .LN_STATUS 143 0)) 7) s (fun t => t.rdReg .LN_STATUS 143 = s.rdReg .LN_STATUS 143)) : Bool) = true := by decide +kernel

/-- R21, R499, R530: 0x0F000000 is unmapped; 0x05150000 is mapped and no register; the root key is not the host's to write. -/
theorem witness_AccessesNotCarriedOut : ((let z := up.wr Fld.PW_DOM_STATUS_DEPTH 2 10; mapped 0x0F000000 = false &&
      ok (.clearOnReadRead .serial 0x0F000000) up (fun t => t.outs = [.regRead .serial 0] && bit t.cp.serStatus 3 && onlyB up t []) &&
      mapped 0x0A000FFC && Loc.find 0x0A000FFC = none && z.asleep 10 &&
      ok (.clearOnReadRead .serial 0x0A000FFC) z (fun t => t.outs = [.regRead .serial 0xFFFFFFFF] && t.rd Fld.PW_ASLEEP_SERRD = 1 &&
      bit t.cp.serStatus 0) && ok (.registerWrite .serial 0x0A000FFC 0) z (fun t => t.rd Fld.PW_ASLEEP_SERWR = 1 && onlyB z t [.PW_ASLEEP]) &&
      ok (.registerWrite .host 0x0820001C 5) up (fun t => t.cx = up.cx && t.rd Fld.MG_AUTH_CNT_HOST = 1 &&
      onlyB up t [.MG_AUTH_CNT])) : Bool) = true := by decide +kernel

/-- R6, R20: the words of a wide register. -/
theorem witness_RegisterMapIsExact : (((match Loc.find (Reg.addr .MC_RX_FRAMES 143 0 + 4) with
      | some l => l.reg = .MC_RX_FRAMES && l.i = 143 && l.high
      | none => false) && (Loc.find 0x0A000FFC).isNone) : Bool) = true := by decide +kernel

/-! ## Reset and invariants -/

/-- R133 to R136, R523: what stands in place of the invariants at reset and in a running device, and one step. -/
theorem witness_MemoryStaysCanonical : ((Tab.wf State.reset.hbm 0 && Tab.wf up.save 0 &&
      (match step { up with pending := [.bar2Request 8 0 (some [1, 2])] } with
      | .next t => Tab.wf t.hbm 0
      | _ => false)) : Bool) = true := by decide +kernel

theorem witness_RootSlotsAreOneTime : ((
    let s := { up with pending := [.rootKeyProgramDone true], cx := { up.cx with rootJob := some [7], roots := [{ used := true, key := some [1] }, {}, {}, {}] } };
      match step s with
      | .next t => t.cx.roots = [{ used := true, key := some [1] }, { used := true, key := some [7] }, {}, {}]
      | _ => false) : Bool) = true := by decide +kernel

/-! ## Engines -/

/-- R49, R64: the word at the pc has gone wrong; any instruction of that context traps there, before it is looked at. -/
theorem witness_FetchParityTraps : ((let s := let x := run0 id [(2, 1)]; x.setEng 0 { x.eng 0 with ibad := [0] }; s.fetchBad (.ctx 0) &&
      s.nextTurn 0 = some (0, (s.nextTurn 0).elim [] (·.2)) && ok (.add (.ctx 0) 1 2 2) s (fun t => (t.ctx 0).tcause = 8 && (t.ctx 0).tval = 0 &&
      (t.cpu (.ctx 0)).get 1 = 0 && (t.ctx 0).st = .trapped) &&
      ok (.halt (.ctx 0)) s (fun t => (t.ctx 0).tcause = 8)) : Bool) = true := by decide +kernel

/-- R50: contexts 0 and 5 Ready; after place 0 the turn is context 5's, and an instruction of four turns lets the other issue first. -/
theorem witness_TurnsRotate : ((
    let s := (run0).setCtx 5 { st := .ready, loader := 2, auth := 2 }; let z := s.setEng 0 { s.eng 0 with turns := [(5, 4)] }; s.inRotation 0 &&
      s.inRotation 5 && !s.inRotation 1 && ok (.nop (.ctx 0)) (s.setEng 0 { s.eng 0 with last := 7 }) (fun t => (t.eng 0).last = 0 &&
      (t.nextTurn 0).map (·.1) = some 5) && ((z.setEng 0 { z.eng 0 with last := 4 }).nextTurn 0).map (·.1) = some 0 &&
      (State.reset.nextTurn 0).isNone) : Bool) = true := by decide +kernel

/-- R44, R45: a store into the window and a load that crosses 8 bytes; a load past the window waits; one past the frame traps. -/
theorem witness_PacketSpaceAccesses : ((
    let p : Packet := { data := List.replicate 300 7, len := 304, handle := 9 };
      let s := run0 (fun x => { x with packet := true, pkt := some p, win := List.replicate 256 7 }) [(2, 6), (3, 0x1122), (4, 256), (5, 297)]; canB s (.ctx 0) 1 &&
      canB s (.ctx 0) 2 && ok (.st (.ctx 0) 3 2 .k .b16 0) s (fun t => (t.ctx 0).win.take 9 = [7, 7, 7, 7, 7, 7, 0x22, 0x11, 7] &&
      (t.ctx 0).pkt = some p && (t.ctx 0).steps = 1) && ok (.ld (.ctx 0) 1 2 .k .b32 0 .clean) s (fun t => (t.cpu (.ctx 0)).get 1 = 0x07070707 &&
      (t.ctx 0).steps = 2) &&
      ok (.ld (.ctx 0) 1 4 .k .b8 0 .clean) s (fun t => onlyCtxB s t 0 (waiting (s.ctx 0) 1 (.load 1 .k 256 1 false .clean))) &&
      ok (.st (.ctx 0) 3 4 .k .b16 0) s (fun t => (t.ctx 0).posted = [{ sp := .k, addr := 256, data := [0x22, 0x11] }]) &&
      ok (.ld (.ctx 0) 1 5 .k .b32 0 .clean) s (fun t => (t.ctx 0).tcause = 4 && (t.ctx 0).tval = 297)) : Bool) = true := by decide +kernel

/-- R46: an atomic on S waits with one step, takes its effect and charges the second. -/
theorem witness_AtomicsOnS : ((let s := (run0 id [(1, 3), (2, 16)]).writeS 16 [5]; canB s (.ctx 0) 2 && Fits (address s (.ctx 0) 2 0) 4 0x1000000 &&
      ok (.aadd (.ctx 0) 1 2 .s .b32 0 .clean) s (fun t => onlyCtxB s t 0 (waiting (s.ctx 0) 1 (.atomic 1 16 4 false 0 3 .clean)) &&
      ok (.memoryAccessComplete (.ctx 0)) t (fun u => u.readS 16 2 = [8, 0] && (u.cpu (.ctx 0)).get 1 = 5 && (u.ctx 0).steps = 2 &&
      (u.ctx 0).st = .ready)) && ok (.cas (.ctx 0) 1 2 2 .s .clean) s (fun t => ok (.memoryAccessComplete (.ctx 0)) t (fun u => u.readS 16 1 = [5] &&
      (u.cpu (.ctx 0)).get 1 = 5))) : Bool) = true := by decide +kernel

/-- R94, R95: a call of each profile issues with its steps and waits; beyond its profile it traps. -/
theorem witness_HardwareCallsIssue : ((
    let s := run0 id [(2, 3)]; let k := run0 (fun x => { x with packet := true }) [(2, 3)]; let g := up.setGate 144 { st := .ready }; canB s (.ctx 0) 2 &&
      canB s (.ctx 0) 4 && canB k (.ctx 0) 4 && canB g (.gate 144) 2 && ok (.tmDelay (.ctx 0) 1 2) s (fun t => (t.ctx 0).st = .waiting &&
      (t.ctx 0).steps = 2) && ok (.tmDelay (.ctx 0) 1 2) k (fun t => (t.ctx 0).tcause = 2) &&
      ok (.pktDrop (.ctx 0) 1 2) k (fun t => (t.ctx 0).st = .waiting) && ok (.gtFlush (.gate 144) 1 2) g (fun t => (t.gate 144).st = .waiting) &&
      ok (.ldAlloc (.gate 144) 1 2) g (fun t => (t.gate 144).tcause = 2)) : Bool) = true := by decide +kernel

/-- R84: tm.depth issued while D5 sleeps waits without a result, and takes its effect once D5 is awake. -/
theorem witness_WaitingCallTakesEffect : ((
    let z := run0 id [(2, 3)] (up.wr Fld.PW_DOM_STATUS_DEPTH 2 5); ok (.tmDepth (.ctx 0) 1 2) z (fun t => (t.ctx 0).wait = some (.hcall 1 0x30 3 none) &&
      still (.hcallComplete (.ctx 0)) t &&
      (let u := (t.wr Fld.PW_DOM_STATUS_DEPTH 0 5).wr Fld.PW_DOM_STATUS_EXITING 0 5;
      ok (.hcallComplete (.ctx 0)) u (fun v => onlyCtxB u v 0 (resumed 0 (u.ctx 0) 1 0))))) : Bool) = true := by decide +kernel

/-! ## The base program set -/

/-- A context of the base set that waits, with one message. -/
def role (c : Nat) (x : Sender) (s : State := up) : State :=
  s.setCtx c { st := .waiting, loader := 3, auth := 2, wait := some (.recv 0 0 none), mbx := [{ sender := x, tag := 0, body := [], dword := none }] }

/-- R269, R270: two turns of the epoch keeper; SEQ is 2 after the first and 4 after the second. -/
theorem witness_EpochRecord : ((let s := role 1 (.timer 0) ((up.wrReg .TT_SERVO_BASE 0x500000000).wrReg .TT_SERVO_UTC 0x80000025); s.roleRuns 1 &&
      s.asleep (agentDomain (.ctx 1)) = false && s.fetchBad (.ctx 1) = false &&
      ok (.recvMessageTaken (.ctx 1)) s (fun t => t.readS 0x200 16 = leBytes 2 8 ++ leBytes s.ns.toNat 4 ++ leBytes s.wrap.toNat 4 &&
      t.readS 0x210 16 = [0, 0, 0, 0, 5, 0, 0, 0, 3, 0x25, 0, 0, 0, 0, 0, 0] && (t.ctx 1).mbx = [] &&
      (Tab.get (t.ctx 1).timers {} 0).target = 1000000000 &&
      ok (.recvMessageTaken (.ctx 1)) (role 1 (.timer 0) t) (fun u => u.readS 0x200 1 = [4]))) : Bool) = true := by decide +kernel

/-- R300: |e| of 25,600 ns at MISMATCH = 256 is no mismatch and one more is; the sixtieth near e locks; a loss leads to Holdover or Free. -/
theorem witness_ServoStates : ((
    let s := (up.wr Fld.TB_STATUS_SETDONE 1).wr Fld.TT_SERVO_THR_LOCKTHR 50; let lim : Int := 25600 * up.rd Fld.TT_SERVO_THR_MISMATCH;
      let at_ := fun (st run : Nat) => (s.wr Fld.TT_SERVO_STATUS_STATE st).putServo { run := run };
      let st := fun (t : State) => (t.rd Fld.TT_SERVO_STATUS_STATE, t.base.servo.run); st ((at_ 0 0).servoValid lim) = (1, 0) &&
      st ((at_ 0 0).servoValid (lim + 1)) = (4, 0) && st ((at_ 1 59).servoValid 12800) = (2, 0) &&
      st (((at_ 1 59).wr Fld.TB_STATUS_SETDONE 0).servoValid (lim + 1)) = (1, 0) && st ((at_ 1 58).servoValid (-12800)) = (1, 59) &&
      st ((at_ 1 58).servoValid 12801) = (1, 0) && st ((at_ 2 9).servoValid 12801) = (1, 0) && st ((at_ 4 9).servoValid (lim + 1)) = (4, 0) &&
      st ((at_ 4 9).servoValid lim) = (1, 0) && st ((at_ 3 0).servoValid 0) = (1, 0) &&
      (let l := later ((at_ 1 0).putServo { seenAt := 5, locked := true }) (5 + up.rd Fld.TT_SERVO_CFG_LOSS * 1000000000); l.servoLost.rd Fld.TT_SERVO_STATUS_STATE = 3 &&
      (l.putServo { seenAt := 5 }).servoLost.rd Fld.TT_SERVO_STATUS_STATE = 0 &&
      (l.putServo { seenAt := 6, locked := true }).servoLost.rd Fld.TT_SERVO_STATUS_STATE = 1)) : Bool) = true := by decide +kernel

/-- R286: the worked example, "$BNTOD,001871520043,037,0,L,006,000012,2C*084E". -/
theorem witness_SentencesAreWellFormed : ((
    let s := { ((((up.wr Fld.TT_SERVO_STATUS_STATE 2).wr Fld.TT_SERVO_STATUS_CLASS 6).wr Fld.TT_SERVO_UTC_UTCOFF 37).wr Fld.TT_SERVO_TEEST_NS 12) with base := { up.base with ioSeq := 0x2C } }; s.sentence 1871520043 = ("$BNTOD,001871520043,037,0,L,006,000012,2C*084E\r\n".toList.map fun c => BitVec.ofNat 8 c.toNat) &&
      todLineOk (s.sentence 1871520043)) : Bool) = true := by decide +kernel

/-- R315: the worked example of chapter 9: TE0 = 5 ns, a qualified model, 1, 3 and 8 hours after the last valid e. -/
theorem test_teest : ((
    let s := ((up.wr Fld.TT_SERVO_STATUS_STATE 3).wr Fld.TT_HO_STATUS_QUAL 1).putServo { te0 := 5 };
      let at_ := fun (h : Nat) => (later s (h * 3600000000000)).teest false; up.rd Fld.TT_HO_CFG_SPEC = 1100 &&
      [1, 2, 3, 4, 5, 6, 7, 8].map at_ = [22, 72, 156, 273, 423, 607, 825, 1075]) : Bool) = true := by decide +kernel

/-- R247: steady traffic, and one cycle that differs. -/
theorem witness_PredictionFollowsTraffic : ((predBytes (List.replicate 16 1000) = 16 && predBytes (List.replicate 16 0) = 0 &&
      predBytes (1600 :: List.replicate 15 0) = 11) : Bool) = true := by decide +kernel

/-- R507: the worked example of chapter 16: 49.9 ms, 4.001 ms and 81 us before the event, at MAXDEPTH 3 and GUARD 1 us. -/
theorem test_pick_depth : ((up.pickDepth 49900000 = 3 && up.pickDepth 4001000 = 2 && up.pickDepth 81000 = 1 && up.pickDepth 24001000 = 3 &&
      up.pickDepth 24000999 = 2 && up.pickDepth 12999 = 0) : Bool) = true := by decide +kernel

/-- R507, R508: the picker at a message, with one domain's event and with none. -/
theorem witness_PickerTargets : ((
    let n := role 32 (.block 0x301); let s := (n.wr Fld.PW_DOM_NEXT_VALID 1 9).wr Fld.PW_DOM_NEXT_NS 50000000 9; s.roleRuns 32 &&
      ok (.recvMessageTaken (.ctx 32)) n (fun t => t.rd Fld.PW_DOM_TARGET_DEPTH 4 = 1 && !t.on Fld.PW_DOM_TARGET_WVALID 4 && (t.ctx 32).mbx = []) &&
      ok (.recvMessageTaken (.ctx 32)) s (fun t => [1, 4, 9, 12].all fun d => t.rd Fld.PW_DOM_TARGET_DEPTH d = 3 && t.on Fld.PW_DOM_TARGET_WVALID d &&
      t.rd Fld.PW_DOM_WAKE_NS d = 45999000)) : Bool) = true := by decide +kernel

/-- R109: with two restarts within the hour a Trapped context is started again, with three it is left. -/
theorem witness_ThreeRestartsAnHour : ((
    let s := fun (l : List (Nat × Nat)) => let x := up.setCtx 8 { st := .trapped, loader := 3, tcause := 4 }; { x with base := { x.base with restarts := l } };
      ((s [(8, 0), (8, 0), (9, 0)]).restart 8).base.restarts.length = 4 &&
      (((s [(8, 0), (8, 0), (8, 0)]).restart 8).ctx 8).st = .trapped && ((s [(8, 0), (8, 0), (8, 0)]).restart 8).base.left = [8] &&
      (let r := (s [(8, 0), (8, 0)]).restart 8; (r.ctx 8).st = .waiting && r.base.restarts.contains (8, 0)) &&
      (let h := s []; (({ h with base := { h.base with left := [8] } }).command 8 1).base.left = [])) : Bool) = true := by decide +kernel

/-! ## Registers at every offset -/

/-- R10, R21: a register without an effect of its own, a reserved offset, and a value out of range. -/
theorem witness_RegisterWriteCompletes : ((let a : Word := BitVec.ofNat 32 (Reg.addr .PW_CFG 0 0); decide (Accepted up .serial a.toNat 60000) &&
      !effectRegs.contains .PW_CFG && ok (.registerWrite .serial a 60000) up (fun t => t.rdReg .PW_CFG = 60000 && onlyB up t [.PW_CFG] &&
      unitsB up t) && ok (.registerWrite .serial a 60001) up (fun t => t = up) && decide (Accepted up .serial 0x0A000FFC 1) &&
      Loc.find 0x0A000FFC = none && ok (.registerWrite .serial 0x0A000FFC 1) up (fun t => onlyB up t [] &&
      unitsB up t)) : Bool) = true := by decide +kernel

/-- R10: RW, W1C and RO bits of one merge. -/
theorem witness_RegisterWriteByAccessCode : ((Reg.merged .PW_CFG false false 0xFFFF 0x12345678 = 0x5678 &&
      Reg.merged .LN_STATUS false false 7 0 = 7) : Bool) = true := by decide +kernel

/-- R9, R543: a reserved offset, an RC register of 32 bits, a slot that is not ready. R9: each word of a 64-bit register without clear-on-read fields answers as it stands. -/
theorem test_wide_read : ((let s := up.wrReg .TT_SERVO_BASE 0x500000006; let a := Reg.addr .TT_SERVO_BASE 0 0; !viewRegs.contains .TT_SERVO_BASE &&
      decide (Readable s .serial a) && ok (.clearOnReadRead .serial (BitVec.ofNat 32 a)) s (fun t => t.outs = [.regRead .serial 6] && onlyB s t []) &&
      ok (.clearOnReadRead .serial (BitVec.ofNat 32 (a + 4))) s (fun t => t.outs = [.regRead .serial 5])) : Bool) = true := by decide +kernel

theorem witness_RegisterReadCompletes : ((
    let a : Word := BitVec.ofNat 32 (Reg.addr .LN_BOL_CNT 5 0); let s := up.wrReg .LN_BOL_CNT 0x30004 5; decide (Readable s .serial a.toNat) &&
      !viewRegs.contains .LN_BOL_CNT && ok (.counterLowWordRead .serial a) s (fun t => t.outs = [.regRead .serial 0x30004] &&
      t.rdReg .LN_BOL_CNT 5 = 0) && decide (Readable up .serial 0x0A000FFC) &&
      ok (.resultSlotStatusRead .serial 0x0A000FFC) up (fun t => t.outs = [.regRead .serial 0]) && !viewRegs.contains .LD_LOOK_STAT &&
      ok (.resultSlotStatusRead .serial (BitVec.ofNat 32 (Reg.addr .LD_LOOK_STAT 0 0))) (up.wrReg .LD_LOOK_STAT 0xFF04) (fun t => t.outs = [.regRead .serial (BitVec.ofNat 32 (Reg.noData .LD_LOOK_STAT 0xFF04))])) : Bool) = true := by decide +kernel

/-- R6, R7: rows at their registers' offsets, at the highest instance. -/
theorem witness_RegisterRows : ((
    ok (.voteSerialWrite .serial 0x1002) up (fun t => ok (.registerWrite .serial 0x0003001C 0x1002) up (fun u => t = u)) &&
      ok (.scPnWrite .serial 1023 true 5) up (fun t => ok (.registerWrite .serial (0x08100010 + 0x40 * 1023 + 4) 5) up (fun u => t = u)) &&
      ok (.contextStart .serial 1023) up (fun t => ok (.registerWrite .serial (BitVec.ofNat 32 (contextBlock 1023)) 0x10) up (fun u => t = u)) &&
      ok (.saveDataAccess .serial none) up (fun t => ok (.clearOnReadRead .serial 0x44) up (fun u => t = u))) : Bool) = true := by decide +kernel

/-- R566. -/
theorem witness_AttentionFollowsState : ((let r : EvRecord := { ev := 1, count := 1, tsv := false, ns := 0, payload := 0 }; !up.attn &&
      (up.wr Fld.PW_THERM_TRIPPED 1).attn && (up.wr Fld.KT_BOOT_STATUS_FAIL 1).attn &&
      { up with cp := { up.cp with latch := [r] } }.attn) : Bool) = true := by decide +kernel


end Sys2Proof.Tests
end

/-! SUPPORT. The rotation of an engine's issue slot (R50): what the search for the next place answers, and the turns that pass before a
place issues. -/
namespace Sys2Proof.Machine

/-! ## Places counted from the last to issue -/

/-- The `k`-th place of a rotation of eight after `last`. -/
def placeAfter (last k : Nat) : Nat := (last + 1 + k) % 8

theorem placeAfter_lt (last k : Nat) : placeAfter last k < 8 := Nat.mod_lt _ (by decide)

theorem placeAfter_ne (last : Nat) {i j : Nat} (hi : i < 8) (hj : j < 8) (h : i ≠ j) : placeAfter last i ≠ placeAfter last j := by
  unfold placeAfter
  omega

/-- Counted from one of the places, the others follow in the same order. -/
theorem placeAfter_placeAfter (last i k : Nat) : placeAfter (placeAfter last i) k = placeAfter last (i + 1 + k) := by
  unfold placeAfter
  omega

theorem placeAfter_mod (last k : Nat) : placeAfter last (k % 8) = placeAfter last k := by
  unfold placeAfter
  omega

/-! ## The next place that takes part -/

theorem nextPlace_eq_none {part : Nat → Bool} {last : Nat} (h : ∀ k, k < 8 → ¬ part (placeAfter last k) = true) :
    nextPlace part last = none := by
  simpa [nextPlace, List.find?_eq_none, placeAfter] using h

theorem nextPlace_eq_some {part : Nat → Bool} {last j : Nat} (hj : j < 8) (hp : part (placeAfter last j) = true)
    (hn : ∀ k, k < j → ¬ part (placeAfter last k) = true) : nextPlace part last = some (placeAfter last j) := by
  have hfind : (List.range 8).find? (part ∘ placeAfter last) = some j :=
    List.find?_range_eq_some.2 ⟨hp, List.mem_range.2 hj, fun k hk => by simpa using hn k hk⟩
  exact List.find?_map.trans (hfind ▸ rfl)

theorem part_of_nextPlace {part : Nat → Bool} {last k : Nat} (h : nextPlace part last = some k) : part k = true ∧ k < 8 := by
  refine ⟨List.find?_some h, ?_⟩
  obtain ⟨n, -, rfl⟩ := List.mem_map.1 (List.mem_of_find?_eq_some h)
  exact Nat.mod_lt _ (by decide)

/-! ## Turns that pass -/

theorem passTurns_of_nextPlace_none {part : Nat → Bool} {last : Nat} (n : Nat) (turns : Tab Nat) (h : nextPlace part last = none) :
    passTurns part n last turns = none := by
  cases n <;> simp [passTurns, h]

/-- A place whose latest instruction has no turn left to take issues. -/
theorem passTurns_of_owed_le {part : Nat → Bool} {last k n : Nat} {turns : Tab Nat} (h : nextPlace part last = some k)
    (ho : Tab.get turns 0 k ≤ 1) : passTurns part (n + 1) last turns = some (k, Tab.set turns 0 k 0) := by
  simp [passTurns, h, ho]

/-- A place whose latest instruction takes further turns takes one, and the slot passes on from it. -/
theorem passTurns_of_lt_owed {part : Nat → Bool} {last k n : Nat} {turns : Tab Nat} (h : nextPlace part last = some k)
    (ho : 1 < Tab.get turns 0 k) :
    passTurns part (n + 1) last turns = passTurns part n k (Tab.set turns 0 k (Tab.get turns 0 k - 1)) := by
  simp [passTurns, h, Nat.not_le.2 ho]

/-- Only a place that takes part issues. -/
theorem part_of_passTurns {part : Nat → Bool} {n last k : Nat} {turns t : Tab Nat} (h : passTurns part n last turns = some (k, t)) :
    part k = true ∧ k < 8 := by
  induction n generalizing last turns with
  | zero => simp [passTurns] at h
  | succ n ih =>
    cases hp : nextPlace part last with
    | none => simp [passTurns_of_nextPlace_none _ _ hp] at h
    | some p =>
      by_cases ho : Tab.get turns 0 p ≤ 1
      · obtain ⟨rfl, -⟩ : p = k ∧ _ := by simpa [passTurns_of_owed_le hp ho] using h
        exact part_of_nextPlace hp
      · exact ih (passTurns_of_lt_owed hp (Nat.not_le.1 ho) ▸ h)

/-- A place that the slot always comes back to issues once its turns are taken. -/
theorem passTurns_of_nextPlace_self {part : Nat → Bool} {p : Nat} (hself : nextPlace part p = some p) (n : Nat) {last : Nat}
    {turns : Tab Nat} (hlast : nextPlace part last = some p) (hn : Tab.get turns 0 p ≤ n) :
    ∃ t, passTurns part (n + 1) last turns = some (p, t) := by
  induction n generalizing last turns with
  | zero => exact ⟨_, passTurns_of_owed_le hlast (by omega)⟩
  | succ n ih =>
    by_cases ho : Tab.get turns 0 p ≤ 1
    · exact ⟨_, passTurns_of_owed_le hlast ho⟩
    · rw [passTurns_of_lt_owed hlast (Nat.not_le.1 ho)]
      exact ih hself (by rw [Tab.get_set_self]; omega)

/-- Of two places that alone take part, the first takes one of its further turns, and the second issues. -/
theorem passTurns_of_pair {part : Nat → Bool} {last i j n : Nat} {turns : Tab Nat} (hij : i < j) (hj : j < 8)
    (hpi : part (placeAfter last i) = true) (hpj : part (placeAfter last j) = true)
    (hothers : ∀ k, k < 8 → k ≠ i → k ≠ j → ¬ part (placeAfter last k) = true)
    (hoi : 1 < Tab.get turns 0 (placeAfter last i)) (hoj : Tab.get turns 0 (placeAfter last j) ≤ 1)
    (hn : Tab.get turns 0 (placeAfter last i) ≤ n) :
    passTurns part (n + 1) last turns = some (placeAfter last j,
      Tab.set (Tab.set turns 0 (placeAfter last i) (Tab.get turns 0 (placeAfter last i) - 1)) 0 (placeAfter last j) 0) := by
  have hi1 : nextPlace part last = some (placeAfter last i) :=
    nextPlace_eq_some (by omega) hpi (fun m hm => hothers m (by omega) (by omega) (by omega))
  have hstep : i + 1 + (j - i - 1) = j := by omega
  have hj1 : nextPlace part (placeAfter last i) = some (placeAfter last j) := by
    have hthere : placeAfter (placeAfter last i) (j - i - 1) = placeAfter last j := by rw [placeAfter_placeAfter, hstep]
    rw [← hthere]
    refine nextPlace_eq_some (by omega) (hthere.symm ▸ hpj) (fun m hm => ?_)
    rw [placeAfter_placeAfter]
    exact hothers _ (by omega) (by omega) (by omega)
  obtain ⟨n, rfl⟩ : ∃ m, n = m + 1 := Nat.exists_eq_succ_of_ne_zero (by omega)
  rw [passTurns_of_lt_owed hi1 hoi, passTurns_of_owed_le hj1]
  rwa [Tab.get_set_other _ _ _ (placeAfter_ne last hj (by omega) (by omega))]

/-- A place that alone takes part issues once its turns are taken. -/
theorem passTurns_of_alone {part : Nat → Bool} {last i n : Nat} {turns : Tab Nat} (hi : i < 8) (hp : part (placeAfter last i) = true)
    (hothers : ∀ k, k < 8 → k ≠ i → ¬ part (placeAfter last k) = true) (hn : Tab.get turns 0 (placeAfter last i) ≤ n) :
    ∃ t, passTurns part (n + 1) last turns = some (placeAfter last i, t) := by
  have hlast : nextPlace part last = some (placeAfter last i) := nextPlace_eq_some hi hp (fun m hm => hothers m (by omega) (by omega))
  have hround : placeAfter (placeAfter last i) 7 = placeAfter last i := by
    rw [placeAfter_placeAfter, ← placeAfter_mod last i, ← placeAfter_mod]
    congr 1
    omega
  have hself : nextPlace part (placeAfter last i) = some (placeAfter last i) := by
    have hnext := nextPlace_eq_some (part := part) (last := placeAfter last i) (j := 7) (by decide) (hround.symm ▸ hp) (fun m hm => by
      rw [placeAfter_placeAfter, ← placeAfter_mod]
      exact hothers _ (Nat.mod_lt _ (by decide)) (by omega))
    rwa [hround] at hnext
  exact passTurns_of_nextPlace_self hself n hlast hn

/-! ## The turn of an engine -/

/-- The turns still to be taken in an engine: the fuel of `passTurns`, less one. -/
def owedTurns (turns : Tab Nat) : Nat := ((List.range 8).map (Tab.get turns 0)).sum

theorem State.nextTurn_eq (s : State) (e : Nat) :
    s.nextTurn e = (passTurns (fun k => s.inRotation (8 * e + k)) (owedTurns (s.eng e).turns + 1) (s.eng e).last (s.eng e).turns).map
      (fun x => (8 * e + x.1, x.2)) := by
  have hfuel : (List.range 8).foldl (fun n k => n + Tab.get (s.eng e).turns 0 k) 1 = owedTurns (s.eng e).turns + 1 := by
    simp only [owedTurns, List.range_succ, List.range_zero, List.nil_append, List.cons_append, List.foldl_cons, List.foldl_nil,
      List.map_cons, List.map_nil, List.sum_cons, List.sum_nil]
    omega
  rw [← hfuel]
  rfl

theorem owed_le_owedTurns (turns : Tab Nat) {p : Nat} (hp : p < 8) : Tab.get turns 0 p ≤ owedTurns turns :=
  List.le_sum_of_mem (List.mem_map.2 ⟨p, List.mem_range.2 hp, rfl⟩)

/-- The turn of an engine, from the search over its places. -/
theorem State.nextTurn_of_passTurns {s : State} {e k : Nat} {t : Tab Nat}
    (h : passTurns (fun k => s.inRotation (8 * e + k)) (owedTurns (s.eng e).turns + 1) (s.eng e).last (s.eng e).turns = some (k, t)) :
    s.nextTurn e = some (8 * e + k, t) := by
  rw [State.nextTurn_eq, h, Option.map_some]

/-- The context whose turn it is takes part in the rotation of its engine. -/
theorem State.inRotation_of_nextTurn {s : State} {e c : Nat} {t : Tab Nat} (h : s.nextTurn e = some (c, t)) : s.inRotation c = true := by
  rw [State.nextTurn_eq, Option.map_eq_some_iff] at h
  obtain ⟨⟨k, t'⟩, hpass, heq⟩ := h
  obtain ⟨rfl, -⟩ := Prod.mk.inj heq
  exact (part_of_passTurns hpass).1

theorem State.ready_of_nextTurn {s : State} {e c : Nat} {t : Tab Nat} (h : s.nextTurn e = some (c, t)) : (s.ctx c).st = .ready := by
  have hrot := State.inRotation_of_nextTurn h
  simp only [State.inRotation, Bool.and_eq_true, decide_eq_true_eq] at hrot
  obtain ⟨⟨⟨hst, -⟩, -⟩, -⟩ := hrot
  exact hst

/-- The turns of an engine pass in rotating order (R50). -/
theorem turnsRotate : Spec.TurnsRotate := by
  intro s e j _ hj place part owed
  have hplace : ∀ k, place k = placeAfter (s.eng e).last k := fun _ => rfl
  simp only [part, owed, hplace]
  clear part owed hplace place
  let takesPart : Nat → Bool := fun k => s.inRotation (8 * e + k)
  refine ⟨fun hnone => ?_, fun hp hn ho => ?_, fun i hi hij hpi hpj hothers hoi hoj => ?_, fun i hi hp hothers => ?_⟩
  case refine_1 => rw [State.nextTurn_eq, passTurns_of_nextPlace_none _ _ (nextPlace_eq_none hnone), Option.map_none]
  case refine_2 => exact ⟨_, State.nextTurn_of_passTurns (passTurns_of_owed_le (nextPlace_eq_some hj hp hn) ho)⟩
  case refine_3 =>
    rcases Nat.lt_or_gt_of_ne hij with hlt | hgt
    · refine ⟨_, State.nextTurn_of_passTurns (passTurns_of_pair (part := takesPart) hlt hj hpi hpj hothers hoi hoj
        (owed_le_owedTurns _ (placeAfter_lt _ i))), fun _ => ?_⟩
      rw [Tab.get_set_other _ _ _ (placeAfter_ne _ hi hj hij), Tab.get_set_self]
    · have hfirst : nextPlace takesPart (s.eng e).last = some (placeAfter (s.eng e).last j) :=
        nextPlace_eq_some hj hpj (fun m hm => hothers m (by omega) (by omega) (by omega))
      exact ⟨_, State.nextTurn_of_passTurns (passTurns_of_owed_le hfirst hoj), fun h => absurd h (by omega)⟩
  case refine_4 =>
    obtain ⟨t, ht⟩ := passTurns_of_alone (part := takesPart) hi hp hothers (owed_le_owedTurns (s.eng e).turns (placeAfter_lt _ i))
    exact ⟨t, State.nextTurn_of_passTurns ht⟩

end Sys2Proof.Machine

/-! SUPPORT. The issue of an instruction whose agent has the slot (R50, R65): what `issue` comes to, the state in which the instruction's
effect begins, and the completion of an instruction as `Spec.done` states it. -/
namespace Sys2Proof.Machine

open Sys2Proof.Spec

/-! ## Updates that follow one another -/

@[simp] theorem State.setCtx_setCtx (s : State) (c : Nat) (x y : Ctx) : (s.setCtx c x).setCtx c y = s.setCtx c y := by
  simp [State.setCtx]

@[simp] theorem State.setEng_setEng (s : State) (e : Nat) (x y : Eng) : (s.setEng e x).setEng e y = s.setEng e y := by
  simp [State.setEng]

@[simp] theorem State.setGate_setGate (s : State) (p : Nat) (x y : GateSeq) : (s.setGate p x).setGate p y = s.setGate p y := by
  simp [State.setGate]

/-- Updates of an engine are written before those of a context. -/
@[simp] theorem State.setEng_setCtx (s : State) (c e : Nat) (x : Ctx) (y : Eng) :
    (s.setCtx c x).setEng e y = (s.setEng e y).setCtx c x := rfl

/-! ## Registers of an agent -/

@[simp] theorem State.cpu_ctx (s : State) (c : Nat) : s.cpu (.ctx c) = (s.ctx c).cpu := rfl

@[simp] theorem State.cpu_gate (s : State) (p : Nat) : s.cpu (.gate p) = (s.gate p).cpu := rfl

theorem Cpu.advance_eq_onward (x : Cpu) (a : Agent) : x.advance a = onward a x := by cases a <;> rfl

theorem lastAddr_add_four (a : Agent) : lastAddr a + 4 = codeSize a := by cases a <;> rfl

/-! ## When an instruction issues -/

theorem agentExists_of_turn {s : State} {a : Agent} (h : Turn s a) : agentExists a = true := by
  cases a with
  | ctx c =>
    obtain ⟨-, hc, -⟩ := h
    exact decide_eq_true hc
  | gate p =>
    obtain ⟨-, hp, -⟩ := h
    exact decide_eq_true hp

theorem ranOff_of_turn {s : State} {a : Agent} (h : Turn s a) : (s.cpu a).ranOff = false := h.1

theorem mayIssue_of_turn {s : State} {a : Agent} (h : Turn s a) : s.mayIssue a = true := by
  cases a with
  | ctx c =>
    obtain ⟨-, -, t, ht⟩ := h
    simp [State.mayIssue, ctxEngine, ht]
  | gate p =>
    obtain ⟨-, -, hst, hawake⟩ := h
    simp [State.mayIssue, hst, hawake]

theorem ready_of_turn {s : State} {a : Agent} (h : Turn s a) : s.agentState a = .ready := by
  cases a with
  | ctx c =>
    obtain ⟨-, -, t, ht⟩ := h
    exact State.ready_of_nextTurn ht
  | gate p =>
    obtain ⟨-, -, hst, -⟩ := h
    exact hst

theorem overLimit_of_withinLimit {s : State} {a : Agent} {cost : Nat} (h : WithinLimit s a cost) : s.overLimit a cost = false := by
  cases a with
  | gate p => rfl
  | ctx c =>
    simp only [State.overLimit, ctxEngine, Bool.and_eq_false_imp, Bool.and_eq_true]
    exact fun ⟨⟨hp, hc⟩, hlim⟩ => decide_eq_false (Nat.not_lt.2 (h c rfl hp hc (of_decide_eq_true hlim)))

/-- An instruction that may issue takes the slot, and its effect begins. -/
theorem State.issue_of_canIssue {s : State} {a : Agent} {cost : Nat} (h : CanIssue s a cost) (word : Quad) (listed permitted : Bool)
    (body : State → State) : s.issue a cost word listed permitted body = .next ((s.noteIssue a).begin a word listed permitted body) := by
  obtain ⟨hturn, hfetch, hlimit⟩ := h
  simp [State.issue, agentExists_of_turn hturn, mayIssue_of_turn hturn, ranOff_of_turn hturn, hfetch, overLimit_of_withinLimit hlimit]

@[simp] theorem State.begin_listed (s : State) (a : Agent) (word : Quad) (body : State → State) :
    s.begin a word true true body = body s := rfl

@[simp] theorem State.begin_unlisted (s : State) (a : Agent) (word : Quad) (permitted : Bool) (body : State → State) :
    s.begin a word false permitted body = s.trapNow a 1 word := rfl

/-! ## The state in which an effect begins -/

/-- Where a context has the turn, its issue sets the rotation of its engine, and the pc it last issued at. -/
theorem State.noteIssue_ctx {s : State} {c : Nat} {t : Tab Nat} (h : s.nextTurn (c / 8) = some (c, t)) :
    s.noteIssue (.ctx c) = (s.setEng (c / 8) { s.eng (c / 8) with turns := t, last := c % 8, stepDue := false }).setCtx c
      { s.ctx c with lastPc := (s.ctx c).cpu.pc } := by
  simp [State.noteIssue, State.takeTurns, ctxEngine, h]

theorem State.noteIssue_gate (s : State) (p : Nat) :
    s.noteIssue (.gate p) = s.setGate p { s.gate p with lastPc := (s.gate p).cpu.pc } := rfl

theorem State.cpu_noteIssue {s : State} {a : Agent} (h : Turn s a) : (s.noteIssue a).cpu a = s.cpu a := by
  cases a with
  | ctx c =>
    obtain ⟨-, -, t, ht⟩ := h
    simp [State.noteIssue_ctx ht]
  | gate p => simp [State.noteIssue_gate]

@[simp] theorem State.noteIssue_regs (s : State) (a : Agent) : (s.noteIssue a).regs = s.regs := by
  cases a with
  | ctx c =>
    simp only [State.noteIssue, State.takeTurns]
    split <;> rfl
  | gate p => rfl

@[simp] theorem State.noteIssue_tb (s : State) (a : Agent) : (s.noteIssue a).tb = s.tb := by
  cases a with
  | ctx c =>
    simp only [State.noteIssue, State.takeTurns]
    split <;> rfl
  | gate p => rfl

/-- Once an instruction's steps are charged, the state is the one `done` states with the registers as they were. -/
theorem State.charge_noteIssue {s : State} {a : Agent} (h : Turn s a) (cost : Nat) :
    (s.noteIssue a).charge a cost = done s a cost (s.cpu a) := by
  cases a with
  | ctx c =>
    obtain ⟨-, -, t, ht⟩ := h
    simp [State.noteIssue_ctx ht, State.charge, State.setTurns, State.turnsOf, done, charged, turnsAfter, ht, ctxEngine]
  | gate p => rfl

/-! ## What `done` holds -/

theorem ctx_done (s : State) (a : Agent) (cost : Nat) (x : Cpu) (d : Nat) :
    (done s a cost x).ctx d = if a = .ctx d then { charged (s.ctx d) cost with cpu := x } else s.ctx d := by
  cases a with
  | ctx c => by_cases h : d = c <;> simp [done, State.ctx_setCtx, h, eq_comm]
  | gate p => simp [done]

theorem gate_done (s : State) (a : Agent) (cost : Nat) (x : Cpu) (q : Nat) :
    (done s a cost x).gate q = if a = .gate q then { s.gate q with cpu := x, lastPc := (s.gate q).cpu.pc } else s.gate q := by
  cases a with
  | ctx c => simp [done]
  | gate p => by_cases h : q = p <;> simp [done, State.gate_setGate, h, eq_comm]

theorem cpu_done (s : State) (a : Agent) (cost : Nat) (x : Cpu) (b : Agent) :
    (done s a cost x).cpu b = if b = a then x else s.cpu b := by
  cases b with
  | ctx d => by_cases h : a = .ctx d <;> simp [ctx_done, h, eq_comm]
  | gate q => by_cases h : a = .gate q <;> simp [gate_done, h, eq_comm]

theorem agentState_done (s : State) (a : Agent) (cost : Nat) (x : Cpu) (b : Agent) :
    (done s a cost x).agentState b = s.agentState b := by
  cases b with
  | ctx d => by_cases h : a = .ctx d <;> simp [State.agentState, ctx_done, h, charged]
  | gate q => by_cases h : a = .gate q <;> simp [State.agentState, gate_done, h]

theorem State.setCpu_done (s : State) (a : Agent) (cost : Nat) (x y : Cpu) : (done s a cost x).setCpu a y = done s a cost y := by
  cases a <;> simp [State.setCpu, done]

/-! ## Completion -/

theorem State.retire_noteIssue {s : State} {a : Agent} (h : Turn s a) (cost : Nat) (f : Cpu → Cpu) :
    (s.noteIssue a).retire a cost f = done s a cost (onward a (f (s.cpu a))) := by
  rw [State.retire, State.charge_noteIssue h, State.setCpu_done, cpu_done, if_pos rfl, Cpu.advance_eq_onward]

theorem State.jumpTo_noteIssue {s : State} {a : Agent} (h : Turn s a) (cost target : Nat) (f : Cpu → Cpu) :
    (s.noteIssue a).jumpTo a cost target f = done s a cost (at_ (f (s.cpu a)) target) := by
  rw [State.jumpTo, State.charge_noteIssue h, State.setCpu_done, cpu_done, if_pos rfl, at_]

/-- A jump or a taken branch whose target lies inside instruction memory (R60). -/
theorem State.jumpRel_noteIssue {s : State} {a : Agent} (h : Turn s a) {off dest : Int} (hdest : (s.cpu a).pc.toNat + 4 * off = dest)
    (h0 : 0 ≤ dest) (hend : dest + 4 ≤ codeSize a) (f : Cpu → Cpu) :
    (s.noteIssue a).jumpRel a off f = done s a 2 (at_ (f (s.cpu a)) dest.toNat) := by
  have hlast := lastAddr_add_four a
  rw [State.jumpRel, State.cpu_noteIssue h, targetOf, hdest, if_neg (by omega), State.jumpTo_noteIssue h]

/-- An instruction that only computes completes with the registers that its function gives. -/
theorem State.compute_of_canIssue {s : State} {a : Agent} {cost : Nat} (h : CanIssue s a cost) (i : Instr) (f : Cpu → Cpu) :
    s.compute a cost i true f = .next (done s a cost (onward a (f (s.cpu a)))) := by
  rw [State.compute, State.issue_of_canIssue h, State.begin_listed, State.retire_noteIssue h.1]

theorem State.branch_taken {s : State} {a : Agent} (h : CanIssue s a 2) {off : BitVec 16} {dest : Int}
    (hdest : (s.cpu a).pc.toNat + 4 * off.toInt = dest) (h0 : 0 ≤ dest) (hend : dest + 4 ≤ codeSize a) (i : Instr) :
    s.branch a i true true off = .next (done s a 2 (at_ (s.cpu a) dest.toNat)) := by
  refine (State.issue_of_canIssue h ..).trans ?_
  rw [State.begin_listed, if_pos rfl, State.jumpRel_noteIssue h.1 hdest h0 hend, id]

theorem State.branch_not_taken {s : State} {a : Agent} (h : CanIssue s a 1) (i : Instr) (off : BitVec 16) :
    s.branch a i true false off = .next (done s a 1 (onward a (s.cpu a))) := by
  refine (State.issue_of_canIssue h ..).trans ?_
  rw [State.begin_listed, if_neg Bool.false_ne_true, State.retire_noteIssue h.1, id]

end Sys2Proof.Machine

/-! SUPPORT. What traps, halts and the packets that they discard leave alone: the memories, the registers of the machines, and all of a machine but
its mailbox. -/
namespace Sys2Proof.Spec

theorem SameMemory.trans {s t u : Machine.State} (h : SameMemory s t) (h' : SameMemory t u) : SameMemory s u := by
  obtain ⟨hl, hs, hh⟩ := h
  obtain ⟨hl', hs', hh'⟩ := h'
  exact ⟨fun a n => (hl' a n).trans (hl a n), fun n => (hs' n).trans (hs n), fun p n => (hh' p n).trans (hh p n)⟩

end Sys2Proof.Spec

namespace Sys2Proof.Machine

open Sys2Proof.Spec

/-! ## Memory -/

/-- Every byte reads as before where the L of every machine, S and HBM are as before. -/
theorem sameMemory_of_parts {s t : State} (heng : ∀ e, (t.eng e).lmem = (s.eng e).lmem) (hgate : ∀ p, (t.gate p).lmem = (s.gate p).lmem)
    (hshared : t.pre.shared = s.pre.shared) (hhbm : t.hbm = s.hbm) : SameMemory s t := by
  refine ⟨fun a n => ?_, fun n => ?_, fun p n => ?_⟩
  · cases a <;> simp [State.readL, heng, hgate]
  · rw [State.readS, State.readS, hshared]
  · rw [State.hbmRead, State.hbmRead, hhbm]

theorem sameMemory_of_pre {s t : State} (hpre : t.pre = s.pre) (hhbm : t.hbm = s.hbm) : SameMemory s t :=
  sameMemory_of_parts (fun e => by rw [State.eng, State.eng, hpre]) (fun p => by rw [State.gate, State.gate, hpre]) (by rw [hpre]) hhbm

theorem sameMemory_setCtx (s : State) (c : Nat) (x : Ctx) : SameMemory s (s.setCtx c x) :=
  sameMemory_of_parts (fun _ => rfl) (fun _ => rfl) rfl rfl

theorem sameMemory_setEng {s : State} {e : Nat} {x : Eng} (h : x.lmem = (s.eng e).lmem) : SameMemory s (s.setEng e x) :=
  sameMemory_of_parts (fun d => by rw [State.eng_setEng]; split <;> simp_all) (fun _ => rfl) rfl rfl

theorem sameMemory_setGate {s : State} {p : Nat} {x : GateSeq} (h : x.lmem = (s.gate p).lmem) : SameMemory s (s.setGate p x) :=
  sameMemory_of_parts (fun _ => rfl) (fun q => by rw [State.gate_setGate]; split <;> simp_all) rfl rfl

theorem sameMemory_settle (s : State) : SameMemory s s.settle := sameMemory_of_pre s.settle_pre s.settle_hbm

theorem sameMemory_raise (s : State) (n : Nat) (items : List (Nat × Nat)) (limit obj cnt : Nat) :
    SameMemory s (s.raise n items limit obj cnt) := sameMemory_of_pre (s.raise_pre ..) (s.raise_hbm ..)

theorem sameMemory_place (s : State) (a : Agent) (st : CtxState) (w : Option Wait) : SameMemory s (s.place a st w) := by
  cases a with
  | ctx c => exact sameMemory_setCtx s c _
  | gate p => exact sameMemory_setGate rfl

theorem sameMemory_goTo (s : State) (a : Agent) (st : CtxState) (w : Option Wait) : SameMemory s (s.goTo a st w) :=
  (sameMemory_place s a st w).trans (sameMemory_settle _)

theorem sameMemory_setTurns (s : State) (c n : Nat) : SameMemory s (s.setTurns c n) := sameMemory_setEng rfl

theorem sameMemory_turnsPassed (s : State) (a : Agent) : SameMemory s (s.turnsPassed a) := by
  cases a with
  | ctx c => exact sameMemory_setTurns s c 1
  | gate p => exact sameMemory_of_pre rfl rfl

theorem sameMemory_charge (s : State) (a : Agent) (n : Nat) : SameMemory s (s.charge a n) := by
  cases a with
  | ctx c => exact (sameMemory_setTurns s c _).trans (sameMemory_setCtx _ c _)
  | gate p => exact sameMemory_of_pre rfl rfl

theorem sameMemory_done (s : State) (a : Agent) (cost : Nat) (x : Cpu) : SameMemory s (done s a cost x) := by
  cases a with
  | ctx c =>
    refine SameMemory.trans (sameMemory_setEng ?_) (sameMemory_setCtx _ c _)
    rfl
  | gate p => exact sameMemory_setGate rfl

/-! ## Registers, states and waits of the agents -/

theorem State.cpu_of_pre {s t : State} (h : t.pre = s.pre) (b : Agent) : t.cpu b = s.cpu b := by
  cases b <;> simp [State.ctx, State.gate, h]

theorem State.agentState_of_pre {s t : State} (h : t.pre = s.pre) (b : Agent) : t.agentState b = s.agentState b := by
  cases b <;> simp [State.agentState, State.ctx, State.gate, h]

theorem State.agentWait_of_pre {s t : State} (h : t.pre = s.pre) (b : Agent) : t.agentWait b = s.agentWait b := by
  cases b <;> simp [State.agentWait, State.ctx, State.gate, h]

theorem State.cpu_place (s : State) (a : Agent) (st : CtxState) (w : Option Wait) (b : Agent) : (s.place a st w).cpu b = s.cpu b := by
  cases a with
  | ctx c =>
    cases b with
    | ctx d => by_cases h : d = c <;> simp [State.place, State.ctx_setCtx, h]
    | gate q => rfl
  | gate p =>
    cases b with
    | ctx d => rfl
    | gate q => by_cases h : q = p <;> simp [State.place, State.gate_setGate, h]

theorem State.agentState_place (s : State) (a : Agent) (st : CtxState) (w : Option Wait) : (s.place a st w).agentState a = st := by
  cases a <;> simp [State.place, State.agentState]

theorem State.agentWait_place (s : State) (a : Agent) (st : CtxState) (w : Option Wait) : (s.place a st w).agentWait a = w := by
  cases a <;> simp [State.place, State.agentWait]

@[simp] theorem State.cpu_goTo (s : State) (a : Agent) (st : CtxState) (w : Option Wait) (b : Agent) : (s.goTo a st w).cpu b = s.cpu b :=
  (State.cpu_of_pre (State.settle_pre _) b).trans (s.cpu_place a st w b)

@[simp] theorem State.agentState_goTo (s : State) (a : Agent) (st : CtxState) (w : Option Wait) : (s.goTo a st w).agentState a = st :=
  (State.agentState_of_pre (State.settle_pre _) a).trans (s.agentState_place a st w)

@[simp] theorem State.agentWait_goTo (s : State) (a : Agent) (st : CtxState) (w : Option Wait) : (s.goTo a st w).agentWait a = w :=
  (State.agentWait_of_pre (State.settle_pre _) a).trans (s.agentWait_place a st w)

@[simp] theorem State.cpu_turnsPassed (s : State) (a b : Agent) : (s.turnsPassed a).cpu b = s.cpu b := by cases a <;> rfl

@[simp] theorem State.cpu_setTurns (s : State) (c n : Nat) (b : Agent) : (s.setTurns c n).cpu b = s.cpu b := by cases b <;> rfl

/-- An instruction that waits: its agent is Waiting with its registers as they were (R52). -/
theorem State.waitFor_noteIssue {s : State} {a : Agent} (h : Turn s a) (cost : Nat) (w : Wait) :
    let t := (s.noteIssue a).waitFor a cost w
    t.agentState a = .waiting ∧ t.agentWait a = some w ∧ t.cpu a = s.cpu a ∧ SameMemory s t := by
  refine ⟨State.agentState_goTo .., State.agentWait_goTo .., ?_, ?_⟩
  · rw [State.waitFor, State.cpu_goTo, State.cpu_turnsPassed, State.charge_noteIssue h, cpu_done, if_pos rfl]
  · rw [State.waitFor, State.charge_noteIssue h]
    exact ((sameMemory_done ..).trans (sameMemory_turnsPassed ..)).trans (sameMemory_goTo ..)

/-! ## All but the mailboxes -/

/-- Every context and gate sequencer is as before but for its mailbox, and so are the engines, S and HBM. -/
structure SameButMail (s t : State) : Prop where
  ctx : ∀ c, ({ t.ctx c with mbx := [] } : Ctx) = { s.ctx c with mbx := [] }
  gate : ∀ p, ({ t.gate p with mbx := [] } : GateSeq) = { s.gate p with mbx := [] }
  eng : ∀ e, t.eng e = s.eng e
  shared : t.pre.shared = s.pre.shared
  hbm : t.hbm = s.hbm

theorem SameButMail.trans {s t u : State} (h : SameButMail s t) (h' : SameButMail t u) : SameButMail s u where
  ctx c := (h'.ctx c).trans (h.ctx c)
  gate p := (h'.gate p).trans (h.gate p)
  eng e := (h'.eng e).trans (h.eng e)
  shared := h'.shared.trans h.shared
  hbm := h'.hbm.trans h.hbm

theorem sameButMail_of_pre {s t : State} (hpre : t.pre = s.pre) (hhbm : t.hbm = s.hbm) : SameButMail s t where
  ctx c := by rw [State.ctx, State.ctx, hpre]
  gate p := by rw [State.gate, State.gate, hpre]
  eng e := by rw [State.eng, State.eng, hpre]
  shared := by rw [hpre]
  hbm := hhbm

theorem SameButMail.sameMemory {s t : State} (h : SameButMail s t) : SameMemory s t :=
  sameMemory_of_parts (fun e => by rw [h.eng]) (fun p => (congrArg GateSeq.lmem (h.gate p) : _)) h.shared h.hbm

theorem SameButMail.cpu {s t : State} (h : SameButMail s t) (b : Agent) : t.cpu b = s.cpu b := by
  cases b with
  | ctx c => exact (congrArg Ctx.cpu (h.ctx c) : _)
  | gate p => exact (congrArg GateSeq.cpu (h.gate p) : _)

theorem sameButMail_setMailbox (s : State) (a : Agent) (l : List Msg) : SameButMail s (s.setMailbox a l) := by
  cases a with
  | ctx c =>
    refine ⟨fun d => ?_, fun _ => rfl, fun _ => rfl, rfl, rfl⟩
    by_cases h : d = c <;> simp [State.setMailbox, State.ctx_setCtx, h]
  | gate p =>
    refine ⟨fun _ => rfl, fun q => ?_, fun _ => rfl, rfl, rfl⟩
    by_cases h : q = p <;> simp [State.setMailbox, State.gate_setGate, h]

theorem sameButMail_pushMail (s : State) (a : Agent) (m : Msg) : SameButMail s (s.pushMail a m) := sameButMail_setMailbox _ _ _

/-! ## Messages of hardware blocks (R88, R93) -/

theorem sameButMail_raise (s : State) (n : Nat) (items : List (Nat × Nat)) (limit obj cnt : Nat) :
    SameButMail s (s.raise n items limit obj cnt) := sameButMail_of_pre (s.raise_pre ..) (s.raise_hbm ..)

theorem sameButMail_count (s : State) (f : Fld) (i k n : Nat) : SameButMail s (s.count f i k n) :=
  sameButMail_of_pre (s.count_pre ..) (s.count_hbm ..)

theorem sameButMail_wr (s : State) (f : Fld) (v i k : Nat) : SameButMail s (s.wr f v i k) :=
  sameButMail_of_pre (s.wr_pre ..) (s.wr_hbm ..)

theorem sameButMail_flag (s : State) (f : Fld) (b : Bool) (i k : Nat) : SameButMail s (s.flag f b i k) :=
  sameButMail_of_pre (s.flag_pre ..) (s.flag_hbm ..)

theorem sameButMail_bounceLost (s : State) (m : Msg) (a : Agent) : SameButMail s (s.bounceLost m a) := by
  refine SameButMail.trans ?_ (sameButMail_raise ..)
  split
  · exact sameButMail_count ..
  · exact sameButMail_count ..
  · exact sameButMail_count ..
  · exact sameButMail_of_pre rfl rfl

theorem sameButMail_bounce (s : State) (m : Msg) (a : Agent) (g : Nat) (bport : Bool) : SameButMail s (s.bounce m a g bport) := by
  unfold State.bounce
  dsimp only
  split
  · next c _ _ _ =>
      refine SameButMail.trans (sameButMail_count s Fld.PR_ENG_BOUNCE_BOUNCED (ctxEngine c) 0 1) ?_
      split
      · exact sameButMail_pushMail ..
      · exact sameButMail_bounceLost ..
  · exact (((sameButMail_count ..).trans (sameButMail_flag ..)).trans (sameButMail_wr ..)).trans (sameButMail_raise ..)
  · split
    · exact sameButMail_pushMail _ _ _
    · exact sameButMail_bounceLost s m a
  · exact sameButMail_bounceLost s m a

theorem sameButMail_tryBlock {s t : State} {kind : Nat} {m : Msg} (h : s.tryBlock kind m = some t) : SameButMail s t := by
  unfold State.tryBlock at h
  dsimp only at h
  split at h
  · cases h
  split at h
  · cases h
  split at h
  · split at h
    · obtain rfl := Option.some.inj h
      exact sameButMail_of_pre rfl rfl
    · cases h
  split at h
  · obtain rfl := Option.some.inj h
    exact sameButMail_bounce _ _ _ _ _
  · split at h
    · obtain rfl := Option.some.inj h
      exact sameButMail_pushMail _ _ _
    · cases h

theorem sameButMail_sendBlock (s : State) (kind : Nat) (m : Msg) : SameButMail s (s.sendBlock kind m) := by
  have hheld : ∀ l, SameButMail s { s with pre := { s.pre with held := l } } :=
    fun _ => ⟨fun _ => rfl, fun _ => rfl, fun _ => rfl, rfl, rfl⟩
  unfold State.sendBlock
  split
  · exact hheld _
  · split
    · next t ht => exact (sameButMail_tryBlock ht).trans (sameButMail_of_pre t.settle_pre t.settle_hbm)
    · exact hheld _

/-! ## Packets that are discarded (R426, R427) -/

theorem sameButMail_poolLow (s : State) (p : Nat) : SameButMail s (s.poolLow p) := by
  unfold State.poolLow
  dsimp only
  split
  · exact sameButMail_of_pre rfl rfl
  · exact SameButMail.trans (sameButMail_flag ..) (sameButMail_raise ..)

theorem sameButMail_release (s : State) (h : Nat) : SameButMail s (s.release h) := by
  unfold State.release
  exact SameButMail.trans (sameButMail_of_pre (by simp) (by simp)) (sameButMail_poolLow _ _)

theorem sameButMail_freeBuffer (s : State) (r h : Nat) : SameButMail s (s.freeBuffer r h).1 := by
  unfold State.freeBuffer
  split
  · exact sameButMail_release s h
  · exact (sameButMail_count ..).trans (sameButMail_raise ..)

theorem sameButMail_freePacket (s : State) (p : Packet) : SameButMail s (s.freePacket p) := by
  unfold State.freePacket
  split
  · exact sameButMail_of_pre rfl rfl
  · exact sameButMail_freeBuffer s _ _

theorem sameButMail_stampMessage (s : State) (p : Packet) (port ts : Nat) (valid onestep dropped : Bool) :
    SameButMail s (s.stampMessage p port ts valid onestep dropped) := by
  unfold State.stampMessage
  split
  · exact sameButMail_of_pre rfl rfl
  · exact sameButMail_sendBlock s _ _

theorem sameButMail_discard (s : State) (p : Packet) : SameButMail s (s.discard p) :=
  (sameButMail_freePacket s p).trans (sameButMail_stampMessage ..)

/-! ## The packet that a context holds (R70, R100) -/

/-- A context lets go of the packet it holds. -/
def State.unhold (s : State) (c : Nat) : State := (s.setCtx c { s.ctx c with pkt := none, win := [], counting := false }).leaveOrder c

/-- A context without its mailbox and what concerns the packet it holds. -/
def Ctx.machine (x : Ctx) : Ctx := { x with mbx := [], pkt := none, win := [], counting := false }

/-- Discarding the packet that a context holds: nothing where it holds none, else the context lets go of it, and mailboxes may change. -/
theorem State.dropHeld_cases (s : State) (c : Nat) (f : Fld) :
    (s.dropHeld c f = s ∧ ((s.ctx c).packet = true → (s.ctx c).pkt = none)) ∨ SameButMail (s.unhold c) (s.dropHeld c f) := by
  unfold State.dropHeld
  split
  · next hnone => exact .inl ⟨rfl, fun _ => hnone⟩
  · next p _ =>
    cases hpacket : (s.ctx c).packet with
    | false => exact .inl ⟨rfl, fun h => by cases h⟩
    | true => exact .inr ((sameButMail_discard (s.unhold c) p).trans (sameButMail_count ..))

theorem State.ctx_unhold (s : State) (c d : Nat) :
    (s.unhold c).ctx d = if d = c then { s.ctx c with pkt := none, win := [], counting := false } else s.ctx d := by
  simp [State.unhold, State.leaveOrder, State.ctx_setCtx]

theorem sameMemory_dropHeld (s : State) (c : Nat) (f : Fld) : SameMemory s (s.dropHeld c f) := by
  rcases s.dropHeld_cases c f with ⟨heq, -⟩ | h
  · rw [heq]
    exact sameMemory_of_pre rfl rfl
  · refine SameMemory.trans ?_ h.sameMemory
    refine (sameMemory_setCtx s c _).trans (sameMemory_setEng ?_)
    rfl

theorem State.machine_dropHeld (s : State) (c : Nat) (f : Fld) (d : Nat) : ((s.dropHeld c f).ctx d).machine = (s.ctx d).machine := by
  rcases s.dropHeld_cases c f with ⟨heq, -⟩ | h
  · rw [heq]
  · have hlet : ((s.unhold c).ctx d).machine = (s.ctx d).machine := by
      rw [State.ctx_unhold]
      split
      · next hd => rw [hd]; rfl
      · rfl
    exact (congrArg Ctx.machine (h.ctx d)).trans hlet

@[simp] theorem State.cpu_dropHeld (s : State) (c : Nat) (f : Fld) (b : Agent) : (s.dropHeld c f).cpu b = s.cpu b := by
  cases b with
  | ctx d => exact (congrArg Ctx.cpu (s.machine_dropHeld c f d) : _)
  | gate p =>
    rcases s.dropHeld_cases c f with ⟨heq, -⟩ | h
    · rw [heq]
    · exact h.cpu (.gate p)

/-- A packet-profile context holds no packet once it has been discarded. -/
theorem State.pkt_dropHeld {s : State} {c : Nat} (hpacket : (s.ctx c).packet = true) (f : Fld) : ((s.dropHeld c f).ctx c).pkt = none := by
  rcases s.dropHeld_cases c f with ⟨heq, hnone⟩ | h
  · rw [heq]
    exact hnone hpacket
  · refine (congrArg Ctx.pkt (h.ctx c) : _).trans ?_
    simp [State.ctx_unhold]

end Sys2Proof.Machine

/-! SUPPORT. Traps (R64 to R70, R106): what a context or a gate sequencer that traps holds, and what the trap leaves alone. -/
namespace Sys2Proof.Machine

open Sys2Proof.Spec

/-! ## Entry into a handler, or Trapped -/

theorem State.ctx_charge_self (s : State) (c n : Nat) :
    (s.charge (.ctx c) n).ctx c = { s.ctx c with
      steps := (s.ctx c).steps + BitVec.ofNat 64 n, stepsReg := (s.ctx c).stepsReg + BitVec.ofNat 64 n
      pktSteps := if (s.ctx c).packet && (s.ctx c).counting then (s.ctx c).pktSteps + n else (s.ctx c).pktSteps } := by
  simp [State.charge]

theorem State.cpu_charge (s : State) (a b : Agent) (n : Nat) : (s.charge a n).cpu b = s.cpu b := by
  cases a with
  | gate p => rfl
  | ctx c =>
    cases b with
    | ctx d => by_cases h : d = c <;> simp [State.charge, State.setTurns, State.ctx_setCtx, h]
    | gate q => rfl

/-- A write of a context that keeps its general registers keeps everyone's. -/
theorem State.g_setCtx {s : State} {c : Nat} {x : Ctx} (h : x.cpu.g = (s.ctx c).cpu.g) (b : Agent) :
    ((s.setCtx c x).cpu b).g = (s.cpu b).g := by
  cases b with
  | ctx d => by_cases hd : d = c <;> simp [State.ctx_setCtx, hd, h]
  | gate q => rfl

/-- A context whose trap is recorded. -/
def Ctx.withTrap (x : Ctx) (tpc : BitVec 16) (cause : Nat) (tval : Quad) (stops : Bool) : Ctx :=
  { x with tpc := tpc, tcause := BitVec.ofNat 8 cause, tval := tval, tvalid := true, wait := none, after := .go
           counting := x.counting && !stops }

/-- A context that enters its handler. -/
def Ctx.inHandler (x : Ctx) (tpc : BitVec 16) (cause : Nat) (tval : Quad) (stops : Bool) : Ctx :=
  { x.withTrap tpc cause tval stops with
    st := .ready, hmode := true, lastPc := tpc, cpu := { x.cpu with pc := x.vec, ranOff := false } }

/-- A context that is parked in Trapped. -/
def Ctx.parked (x : Ctx) (tpc : BitVec 16) (cause : Nat) (tval : Quad) (stops : Bool) : Ctx :=
  { x.withTrap tpc cause tval stops with st := .trapped, cpu := { x.cpu with pc := tpc, ranOff := false } }

theorem State.trapEntry_handler {s : State} {c : Nat} (hvec : ((s.ctx c).vecValid && !(s.ctx c).hmode) = true) (tpc : BitVec 16)
    (cause : Nat) (tval : Quad) (stops : Bool) :
    s.trapEntry c tpc cause tval stops = ((s.setCtx c ((s.ctx c).inHandler tpc cause tval stops)).charge (.ctx c) 4).settle :=
  if_pos hvec

theorem State.trapEntry_parked {s : State} {c : Nat} (hvec : ¬ ((s.ctx c).vecValid && !(s.ctx c).hmode) = true) (tpc : BitVec 16)
    (cause : Nat) (tval : Quad) (stops : Bool) :
    s.trapEntry c tpc cause tval stops = (((s.setCtx c ((s.ctx c).parked tpc cause tval stops)).dropHeld c Fld.PR_ENG_TRAPDROP_COUNT).raise
      (if (s.ctx c).hmode then 898 else 896) [(16, c), (8, cause)]).settle :=
  if_neg hvec

/-- What a trap saves does not concern the mailbox and the packet. -/
theorem trapSaved_of_machine {x y z : Ctx} {tpc : BitVec 16} {cause : Nat} {tval : Quad} {issued : Nat} (h : y.machine = z.machine)
    (hz : TrapSaved x z tpc cause tval issued) : TrapSaved x y tpc cause tval issued := by
  have hm : TrapSaved x z.machine tpc cause tval issued := hz
  rw [← h] at hm
  exact hm

theorem trapSaved_trapEntry (s : State) (c : Nat) (tpc : BitVec 16) (cause : Nat) (tval : Quad) (stops : Bool) :
    TrapSaved (s.ctx c) ((s.trapEntry c tpc cause tval stops).ctx c) tpc cause tval 0 := by
  by_cases hvec : ((s.ctx c).vecValid && !(s.ctx c).hmode) = true
  · obtain ⟨hv, hm⟩ : (s.ctx c).vecValid = true ∧ (s.ctx c).hmode = false := by simpa using hvec
    rw [State.trapEntry_handler hvec, State.settle_ctx, State.ctx_charge_self, State.ctx_setCtx_self]
    simp [TrapSaved, Ctx.inHandler, Ctx.withTrap, hv, hm]
  · have hpark : ¬ ((s.ctx c).vecValid = true ∧ (s.ctx c).hmode = false) := by simpa using hvec
    rw [State.trapEntry_parked hvec, State.settle_ctx, State.raise_ctx]
    refine trapSaved_of_machine (State.machine_dropHeld _ _ _ _) ?_
    simp [TrapSaved, Ctx.parked, Ctx.withTrap, hpark]

theorem g_trapEntry (s : State) (c : Nat) (tpc : BitVec 16) (cause : Nat) (tval : Quad) (stops : Bool) (b : Agent) :
    ((s.trapEntry c tpc cause tval stops).cpu b).g = (s.cpu b).g := by
  by_cases hvec : ((s.ctx c).vecValid && !(s.ctx c).hmode) = true
  · rw [State.trapEntry_handler hvec, State.cpu_of_pre (State.settle_pre _), State.cpu_charge]
    refine State.g_setCtx ?_ b
    rfl
  · rw [State.trapEntry_parked hvec, State.cpu_of_pre (State.settle_pre _), State.cpu_of_pre (State.raise_pre ..), State.cpu_dropHeld]
    refine State.g_setCtx ?_ b
    rfl

theorem sameMemory_trapEntry (s : State) (c : Nat) (tpc : BitVec 16) (cause : Nat) (tval : Quad) (stops : Bool) :
    SameMemory s (s.trapEntry c tpc cause tval stops) := by
  by_cases hvec : ((s.ctx c).vecValid && !(s.ctx c).hmode) = true
  · rw [State.trapEntry_handler hvec]
    exact ((sameMemory_setCtx ..).trans (sameMemory_charge ..)).trans (sameMemory_settle _)
  · rw [State.trapEntry_parked hvec]
    exact (((sameMemory_setCtx ..).trans (sameMemory_dropHeld ..)).trans (sameMemory_raise ..)).trans (sameMemory_settle _)

/-! ## The trap of an instruction just issued -/

/-- The step charged for the issue is part of what the trap shows. -/
theorem trapSaved_of_charged {x y : Ctx} {tpc : BitVec 16} {cause : Nat} {tval : Quad} {n : Nat}
    (h : TrapSaved (charged x n) y tpc cause tval 0) : TrapSaved x y tpc cause tval n := by
  simpa [TrapSaved, charged, BitVec.add_assoc, BitVec.ofNat_add] using h

/-- A gate sequencer that traps is left in Trapped with its cause (R106). -/
theorem gate_trap (s : State) (p cause : Nat) (tval : Quad) :
    (s.trap (.gate p) cause tval).gate p =
      { s.gate p with st := .trapped, wait := none, after := .go, tcause := BitVec.ofNat 8 cause } := by
  rw [State.trap, State.settle_gate, State.raise_gate, State.gate_setGate_self]

theorem ctxs_trap_gate (s : State) (p cause : Nat) (tval : Quad) : (s.trap (.gate p) cause tval).pre.ctxs = s.pre.ctxs := by
  rw [State.trap, State.settle_pre, State.raise_pre]
  rfl

theorem cpu_trap_gate (s : State) (p cause : Nat) (tval : Quad) (b : Agent) : (s.trap (.gate p) cause tval).cpu b = s.cpu b := by
  rw [State.trap, State.cpu_of_pre (State.settle_pre _), State.cpu_of_pre (State.raise_pre ..)]
  cases b with
  | ctx d => rfl
  | gate q => by_cases h : q = p <;> simp [State.gate_setGate, h]

theorem sameMemory_trap_gate (s : State) (p cause : Nat) (tval : Quad) : SameMemory s (s.trap (.gate p) cause tval) := by
  refine SameMemory.trans (sameMemory_setGate ?_) ((sameMemory_raise ..).trans (sameMemory_settle _))
  rfl

theorem g_done (s : State) (a b : Agent) (cost : Nat) : ((done s a cost (s.cpu a)).cpu b).g = (s.cpu b).g := by
  rw [cpu_done]
  split
  · next h => rw [h]
  · rfl

theorem traps_of_trapNow {s : State} {a : Agent} {i : Instr} {cause : Nat} {tval : Quad} (hturn : Turn s a)
    (hexec : exec i s = .next ((s.noteIssue a).trapNow a cause tval)) : Traps s a i cause tval := by
  rw [State.trapNow, State.charge_noteIssue hturn] at hexec
  refine ⟨_, hexec, ?_⟩
  cases a with
  | ctx c =>
    refine ⟨fun b => (g_trapEntry ..).trans (g_done ..), (sameMemory_done ..).trans (sameMemory_trapEntry ..), ?_⟩
    have hsaved := trapSaved_trapEntry (done s (.ctx c) 1 (s.ctx c).cpu) c (s.ctx c).cpu.pc cause tval false
    rw [ctx_done, if_pos rfl] at hsaved
    simpa only [State.trap, State.cpu_ctx, ctx_done, if_true] using trapSaved_of_charged hsaved
  | gate p =>
    refine ⟨fun b => ?_, (sameMemory_done ..).trans (sameMemory_trap_gate ..), ?_, ?_, ?_, ctxs_trap_gate ..⟩
    · rw [cpu_trap_gate, g_done]
    · rw [gate_trap]
    · rw [gate_trap]
    · rw [gate_trap, gate_done, if_pos rfl]
      rfl

/-- A word that the table does not list traps ILLOP with the word, before anything else (R59, R65). -/
theorem traps_of_unlisted {s : State} {a : Agent} {i : Instr} {cost : Nat} {permitted : Bool} {body : State → State}
    (h : CanIssue s a cost) (hexec : exec i s = s.issue a cost (wordOf i) false permitted body) : Traps s a i 1 (wordOf i) := by
  refine traps_of_trapNow h.1 ?_
  rw [hexec, State.issue_of_canIssue h, State.begin_unlisted]

end Sys2Proof.Machine

/-! SUPPORT. What `settle` writes among the control registers: those that follow the votes of the domains (R496, R502 to R505). -/
namespace Sys2Proof.Spec

theorem SameRegisters.refl (s : Machine.State) (except_ : List Machine.Reg) : SameRegisters s s except_ := fun _ _ _ _ _ _ => rfl

theorem SameRegisters.trans {s t u : Machine.State} {except_ : List Machine.Reg} (h : SameRegisters s t except_) (h' : SameRegisters t u except_) :
    SameRegisters s u except_ := fun r i k hr hi hk => (h' r i k hr hi hk).trans (h r i k hr hi hk)

end Sys2Proof.Spec

namespace Sys2Proof.Machine

open Sys2Proof.Spec

theorem Reg.eq_of_ctorIdx {r q : Reg} (h : r.ctorIdx = q.ctorIdx) : r = q := by
  rw [← Reg.ofNat_ctorIdx r, h, Reg.ofNat_ctorIdx]

theorem sameRegisters_of_regs {s t : State} (h : t.regs = s.regs) (except_ : List Reg) : SameRegisters s t except_ :=
  fun r i k _ _ _ => by rw [State.rdReg, State.rdReg, h]

/-- A write of a register that a list excepts keeps all the others. -/
theorem sameRegisters_wrReg (s : State) {q : Reg} {except_ : List Reg} (hq : q ∈ except_) (v : Quad) {j m : Nat} (hj : j < 4096) (hm : m < 4096) :
    SameRegisters s (s.wrReg q v j m) except_ := by
  intro r i k hr hi hk
  refine State.rdReg_wrReg_other _ _ _ _ _ _ _ _ (fun hkey => hr ?_)
  obtain ⟨hctor, -, -⟩ := Reg.key_inj hi hk hj hm hkey
  rwa [Reg.eq_of_ctorIdx hctor]

theorem sameRegisters_wr (s : State) {f : Fld} {except_ : List Reg} (hf : f.reg ∈ except_) (v : Nat) {j : Nat} (hj : j < 4096) :
    SameRegisters s (s.wr f v j) except_ := sameRegisters_wrReg s hf _ hj (by decide)

theorem sameRegisters_flag (s : State) {f : Fld} {except_ : List Reg} (hf : f.reg ∈ except_) (b : Bool) {j : Nat} (hj : j < 4096) :
    SameRegisters s (s.flag f b j) except_ := sameRegisters_wr s hf _ hj

theorem sameRegisters_pickCause (s : State) (d k : Nat) (except_ : List Reg) : SameRegisters s (s.pickCause d k) except_ := by
  unfold State.pickCause
  split <;> exact sameRegisters_of_regs rfl _

theorem sameRegisters_ite {s t u : State} {except_ : List Reg} {p : Prop} [Decidable p] (ht : SameRegisters s t except_)
    (hu : SameRegisters s u except_) : SameRegisters s (if p then t else u) except_ := by
  split
  · exact ht
  · exact hu

theorem sameRegisters_ite_trans {s t u : State} {except_ : List Reg} {p : Prop} [Decidable p] (ht : SameRegisters s t except_)
    (hu : SameRegisters t u except_) : SameRegisters s (if p then t else u) except_ := sameRegisters_ite ht (ht.trans hu)

theorem sameRegisters_pow (s : State) (p : Power) (except_ : List Reg) : SameRegisters s { s with pow := p } except_ :=
  sameRegisters_of_regs rfl _

theorem sameRegisters_moveDomain (s : State) {d : Nat} (hd : d < 4096) : SameRegisters s (s.moveDomain d) voteRegs := by
  have hentering : ∀ (t : State) (b : Bool), SameRegisters t (t.flag Fld.PW_DOM_STATUS_ENTERING b d) voteRegs :=
    fun t b => sameRegisters_flag t List.mem_cons_self b hd
  have hexiting : ∀ (t : State) (b : Bool), SameRegisters t (t.flag Fld.PW_DOM_STATUS_EXITING b d) voteRegs :=
    fun t b => sameRegisters_flag t List.mem_cons_self b hd
  have hstay := SameRegisters.refl s voteRegs
  unfold State.moveDomain
  refine sameRegisters_ite hstay (sameRegisters_ite (sameRegisters_ite ?_ hstay) (sameRegisters_ite (sameRegisters_ite ?_ hstay)
    (sameRegisters_ite ?_ (sameRegisters_ite ?_ hstay))))
  · exact ((hentering s false).trans (hexiting _ true)).trans (sameRegisters_pow _ _ _)
  · exact sameRegisters_pow _ _ _
  · exact (hentering s true).trans (sameRegisters_pow _ _ _)
  · exact (hexiting s true).trans (sameRegisters_pow _ _ _)

theorem sameRegisters_settleDomain (s : State) {d : Nat} (hd : d < 4096) : SameRegisters s (s.settleDomain d) voteRegs := by
  have hcap : ∀ (t : State) (v : Nat), SameRegisters t (t.wr Fld.PW_DOM_STATUS_CAP v d) voteRegs :=
    fun t v => sameRegisters_wr t List.mem_cons_self v hd
  have hnext : ∀ (t : State) (v : Quad), SameRegisters t (t.wrReg .PW_DOM_NEXT v d) voteRegs :=
    fun t v => sameRegisters_wrReg t (List.mem_cons_of_mem _ List.mem_cons_self) v hd (by decide)
  unfold State.settleDomain
  refine SameRegisters.trans ?_ (sameRegisters_moveDomain _ hd)
  refine sameRegisters_ite_trans ?_ ((sameRegisters_pow _ _ _).trans (sameRegisters_pickCause _ _ _ _))
  refine sameRegisters_ite_trans ?_ (((hnext _ _).trans (sameRegisters_pow _ _ _)).trans (sameRegisters_pickCause _ _ _ _))
  exact sameRegisters_ite_trans (SameRegisters.refl _ _) ((hcap _ _).trans (sameRegisters_pickCause _ _ _ _))

theorem sameRegisters_settle (s : State) : SameRegisters s s.settle voteRegs := by
  unfold State.settle
  have hl : ∀ d ∈ List.range' 1 12, d < 4096 := by decide
  generalize List.range' 1 12 = l at hl
  induction l generalizing s with
  | nil => exact SameRegisters.refl s _
  | cons d r ih =>
    exact (sameRegisters_settleDomain s (hl d List.mem_cons_self)).trans (ih _ fun e he => hl e (List.mem_cons_of_mem _ he))

/-- Where a context is changed and the votes settle, nothing else changes. -/
theorem onlyContext_settle_setCtx (s : State) (c : Nat) (x : Ctx) : OnlyContext s (s.setCtx c x).settle c x := by
  refine ⟨?_, fun d hd => ?_, fun p => ?_, ?_, ?_, ?_⟩
  · rw [State.settle_ctx, State.ctx_setCtx_self]
  · rw [State.settle_ctx, State.ctx_setCtx, if_neg hd]
  · rw [State.settle_gate, State.gate_setCtx]
  · exact (sameMemory_setCtx s c x).trans (sameMemory_settle _)
  · simp [SameUnits]
  · exact (sameRegisters_of_regs (s.setCtx_regs c x) _).trans (sameRegisters_settle _)

end Sys2Proof.Machine

/-! SUPPORT. Comparison, selection and the branch on a condition (R38, R62), and time, yield, halt and twait (R50, R52, R56, R57). -/
namespace Sys2Proof.Machine

open Sys2Proof.Spec

/-! ## Comparison and selection (R38, R62) -/

/-- The flags of a comparison, as R38 states them. -/
theorem Cpu.compare_eq (x : Cpu) (a b : Quad) :
    x.compare a b = { x with
      z := decide (a.toNat = b.toNat), n := decide (2 ^ 63 ≤ (a - b).toNat), c := decide (a.toNat < b.toNat)
      v := decide (¬ (-2 ^ 63 ≤ a.toInt - b.toInt ∧ a.toInt - b.toInt ≤ 2 ^ 63 - 1)) } := by
  have hz : decide (a = b) = decide (a.toNat = b.toNat) := decide_eq_decide.2 BitVec.toNat_inj.symm
  have hn : (a - b).msb = decide (2 ^ 63 ≤ (a - b).toNat) := BitVec.msb_eq_decide _
  have hv : subOverflows a b = decide (¬ (-2 ^ 63 ≤ a.toInt - b.toInt ∧ a.toInt - b.toInt ≤ 2 ^ 63 - 1)) :=
    decide_eq_decide.2 (by omega)
  rw [Cpu.compare, hz, hn, hv]

theorem comparisonSetsFlags : Spec.ComparisonSetsFlags := by
  intro s a ra rb imm h x flags
  have hcompare : ∀ b, (s.cpu a).compare x b = flags b := fun b => (s.cpu a).compare_eq x b
  refine ⟨?_, ?_, State.compute_of_canIssue h (.nop a) id⟩
  · rw [← hcompare]
    exact State.compute_of_canIssue h (.cmp a ra rb) _
  · rw [← hcompare]
    exact State.compute_of_canIssue h (.cmpi a ra imm) _

/-- The condition that R62 gives a code is the model's, where the code is listed. -/
theorem condition_eq (x : Cpu) (k : BitVec 4) :
    condition x.z x.n x.c x.v k.toNat = if condListed k = true then some (x.holds k) else none := by
  have hlisted : condListed k = (decide (k.toNat ≤ 9) || decide (k.toNat = 14)) := by
    simp [condListed, ← BitVec.toNat_inj]
  have hk : k.toNat < 16 := k.isLt
  rw [hlisted, Cpu.holds]
  generalize k.toNat = n at hk
  interval_cases n <;> rfl

theorem listed_of_condition {x : Cpu} {k : BitVec 4} {b : Bool} (h : condition x.z x.n x.c x.v k.toNat = some b) :
    condListed k = true ∧ x.holds k = b := by
  rw [condition_eq] at h
  split at h
  · next hl => exact ⟨hl, Option.some.inj h⟩
  · cases h

theorem unlisted_of_condition {x : Cpu} {k : BitVec 4} (h : condition x.z x.n x.c x.v k.toNat = none) : condListed k = false := by
  rw [condition_eq] at h
  split at h
  · cases h
  · next hl => exact Bool.not_eq_true _ ▸ hl

theorem selectionByCondition : Spec.SelectionByCondition := by
  intro s a rd ra rb k h x
  have hexec : exec (.sel a rd ra rb k) s = s.compute a 1 (.sel a rd ra rb k) (condListed k)
      (fun x => x.put rd (if x.holds k then x.get ra else x.get rb)) := rfl
  split
  case h_1 hcond =>
    obtain ⟨hl, hh⟩ := listed_of_condition hcond
    rw [Writes, hexec, hl, State.compute_of_canIssue h, hh, if_pos rfl]
  case h_2 hcond =>
    obtain ⟨hl, hh⟩ := listed_of_condition hcond
    rw [Writes, hexec, hl, State.compute_of_canIssue h, hh, if_neg Bool.false_ne_true]
  case h_3 hcond =>
    rw [unlisted_of_condition hcond] at hexec
    exact traps_of_unlisted h hexec

theorem branchOnCondition : Spec.BranchOnCondition := by
  intro s a k off x dest
  have hexec : exec (.bc a k off) s = s.branch a (.bc a k off) (condListed k) (x.holds k) off := rfl
  refine ⟨fun hcond h h0 hend => ?_, fun hcond h => ?_, fun hcond h => ?_⟩
  · obtain ⟨hl, hh⟩ := listed_of_condition hcond
    rw [hexec, hl, hh, State.branch_taken h rfl h0 hend]
  · obtain ⟨hl, hh⟩ := listed_of_condition hcond
    rw [Leaves, hexec, hl, hh, State.branch_not_taken h]
  · rw [unlisted_of_condition hcond] at hexec
    exact traps_of_unlisted h hexec

/-- Settles O8: cmp and cmpi, sel and bc, each from what its issue comes to. -/
theorem comparisonAndSelection : Obligations.ComparisonAndSelection :=
  ⟨comparisonSetsFlags, selectionByCondition, branchOnCondition⟩

/-! ## Time, yield, halt and twait (R50, R52, R56, R57) -/

theorem stamp40_noteIssue (s : State) (a : Agent) : (s.noteIssue a).stamp40 = s.ns.toNat * 256 + s.frac.toNat := by
  rw [State.stamp40, State.ns, State.frac, State.noteIssue_tb]
  rfl

theorem tsValid_noteIssue (s : State) (a : Agent) : (s.noteIssue a).tsValid = s.tsValid := by
  simp only [State.tsValid, State.on, State.rd, State.rdReg, State.noteIssue_regs]

theorem ns_noteIssue (s : State) (a : Agent) : (s.noteIssue a).ns = s.ns := by
  rw [State.ns, State.noteIssue_tb]
  rfl

/-- yield of a context: the instruction completes, and the next turn counts as taken too (R50). -/
theorem exec_yield_ctx {s : State} {c : Nat} (h : CanIssue s (.ctx c) 1) :
    exec (.yield (.ctx c)) s = .next ((done s (.ctx c) 1 (onward (.ctx c) (s.ctx c).cpu)).setTurns c 2) := by
  refine (State.issue_of_canIssue h ..).trans ?_
  rw [State.begin_listed, State.retire_noteIssue h.1]
  rfl

theorem exec_yield_gate {s : State} {p : Nat} (h : CanIssue s (.gate p) 1) :
    exec (.yield (.gate p)) s = .next (done s (.gate p) 1 (onward (.gate p) (s.gate p).cpu)) := by
  refine (State.issue_of_canIssue h ..).trans ?_
  rw [State.begin_listed, State.retire_noteIssue h.1]
  rfl

/-- A state that differs from `done` in the turns of the context's engine alone is `done` once they are set back. -/
theorem setEng_setTurns_done (s : State) (c cost n : Nat) (x : Cpu) :
    let t := (done s (.ctx c) cost x).setTurns c n
    t.setEng (c / 8) { t.eng (c / 8) with turns := turnsAfter s c cost } = done s (.ctx c) cost x := by
  simp [State.setTurns, done, ctxEngine]

theorem yieldAndTime : Spec.YieldAndTime := by
  intro s a rd h
  refine ⟨?_, ?_⟩
  · refine (State.issue_of_canIssue h ..).trans ?_
    rw [State.begin_listed, State.retire_noteIssue h.1, stamp40_noteIssue, tsValid_noteIssue]
    cases s.tsValid <;> rfl
  · have hready : (done s a 1 (onward a (s.cpu a))).agentState a = .ready := by rw [agentState_done, ready_of_turn h.1]
    cases a with
    | ctx c =>
      refine ⟨_, exec_yield_ctx h, ?_, hready, (sameMemory_done ..).trans (sameMemory_setTurns ..), fun d hd => ?_⟩
      · rw [State.cpu_setTurns, cpu_done, if_pos rfl]
        rfl
      · obtain rfl : c = d := Agent.ctx.inj hd
        exact ⟨by simp [State.setTurns, ctxEngine], setEng_setTurns_done s c 1 2 _⟩
    | gate p => exact ⟨_, exec_yield_gate h, (cpu_done ..).trans (if_pos rfl), hready, sameMemory_done .., fun _ hd => nomatch hd⟩

theorem exec_halt_ctx {s : State} {c : Nat} (h : CanIssue s (.ctx c) 1) :
    exec (.halt (.ctx c)) s = .next ((((done s (.ctx c) 1 (onward (.ctx c) (s.ctx c).cpu)).dropHeld c Fld.PR_ENG_PROGDROP_COUNT).goTo
      (.ctx c) .halted none).raise 897 [(16, c)]) := by
  refine (State.issue_of_canIssue h ..).trans ?_
  rw [State.begin_listed, State.retire_noteIssue h.1]
  rfl

theorem exec_halt_gate {s : State} {p : Nat} (h : CanIssue s (.gate p) 1) :
    exec (.halt (.gate p)) s = .next ((done s (.gate p) 1 (onward (.gate p) (s.gate p).cpu)).goTo (.gate p) .halted none) := by
  refine (State.issue_of_canIssue h ..).trans ?_
  rw [State.begin_listed, State.retire_noteIssue h.1]
  rfl

theorem haltStopsTheAgent : Spec.HaltStopsTheAgent := by
  intro s a h
  cases a with
  | ctx c =>
    refine ⟨_, exec_halt_ctx h, ?_, ?_, ?_, fun b => ?_, ?_, fun d hd hpacket => ?_⟩
    · rw [State.agentState_of_pre (State.raise_pre ..), State.agentState_goTo]
    · rw [State.agentWait_of_pre (State.raise_pre ..), State.agentWait_goTo]
    · rw [State.cpu_of_pre (State.raise_pre ..), State.cpu_goTo, State.cpu_dropHeld, cpu_done, if_pos rfl, State.cpu_ctx]
    · rw [State.cpu_of_pre (State.raise_pre ..), State.cpu_goTo, State.cpu_dropHeld, cpu_done, State.cpu_ctx]
    · exact (((sameMemory_done ..).trans (sameMemory_dropHeld ..)).trans (sameMemory_goTo ..)).trans (sameMemory_raise ..)
    · obtain rfl : c = d := Agent.ctx.inj hd
      rw [State.raise_ctx, State.goTo, State.settle_ctx, State.place, State.ctx_setCtx_self]
      refine State.pkt_dropHeld ?_ _
      rwa [ctx_done, if_pos rfl]
  | gate p =>
    refine ⟨_, exec_halt_gate h, State.agentState_goTo .., State.agentWait_goTo .., ?_, fun b => ?_,
      (sameMemory_done ..).trans (sameMemory_goTo ..), fun _ hd => nomatch hd⟩
    · rw [State.cpu_goTo, cpu_done, if_pos rfl, State.cpu_gate]
    · rw [State.cpu_goTo, cpu_done, State.cpu_gate]

/-! ## twait and its end (R57) -/

theorem timeField_eq (v : Quad) : timeField v = BitVec.ofNat 32 (v.toNat / 2 ^ 8) := by
  rw [timeField, BitVec.extractLsb', Nat.shiftRight_eq_div_pow]

theorem exec_twait {s : State} {a : Agent} (ra : GReg) (h : CanIssue s a 1) (hpacket : s.isPacket a = false) :
    exec (.twait a ra) s = .next (if reached s.ns (timeField ((s.cpu a).get ra)) = true then done s a 1 (onward a (s.cpu a))
      else (s.noteIssue a).waitFor a 1 (.twait (timeField ((s.cpu a).get ra)))) := by
  refine (State.issue_of_canIssue h ..).trans ?_
  rw [hpacket, Bool.not_false, State.begin_listed, State.cpu_noteIssue h.1, ns_noteIssue, State.retire_noteIssue h.1, id]

theorem reached_iff (now target : BitVec 32) : reached now target = true ↔ (target - now).toInt ≤ 0 := decide_eq_true_iff

theorem reached_eq_false {now target : BitVec 32} (h : 0 < (target - now).toInt) : reached now target = false :=
  decide_eq_false (Int.not_le.2 h)

/-- The wait of a context ends, where no STOP or RESET came meanwhile (R52). -/
theorem finish_ctx {s : State} {c : Nat} (hafter : (s.ctx c).after = .go) :
    s.finish (.ctx c) = (s.setCtx c { s.ctx c with cpu := onward (.ctx c) (s.ctx c).cpu, st := .ready, wait := none }).settle := by
  simp [State.finish, hafter, State.goTo, State.place, Cpu.advance_eq_onward]

theorem finish_gate {s : State} {p : Nat} (hafter : (s.gate p).after = .go) :
    s.finish (.gate p) = (s.setGate p { s.gate p with cpu := onward (.gate p) (s.gate p).cpu, st := .ready, wait := none }).settle := by
  simp [State.finish, hafter, State.goTo, State.place, Cpu.advance_eq_onward]

theorem exec_twaitExpiry {s : State} {a : Agent} {target : BitVec 32} (hexists : agentExists a = true)
    (hwait : s.agentWait a = some (.twait target)) :
    exec (.twaitExpiry a) s = .next (if (reached s.ns target && !s.asleep (agentDomain a)) = true then s.finish a else s) := by
  change execTwaitExpiry a s = _
  rw [execTwaitExpiry, hexists, hwait]
  rfl

theorem exec_twaitExpiry_reached {s : State} {a : Agent} {target : BitVec 32} (hexists : agentExists a = true)
    (hwait : s.agentWait a = some (.twait target)) (hawake : s.asleep (agentDomain a) = false) (hreached : (target - s.ns).toInt ≤ 0) :
    exec (.twaitExpiry a) s = .next (s.finish a) := by
  rw [exec_twaitExpiry hexists hwait, (reached_iff _ _).2 hreached, hawake]
  rfl

theorem exec_twaitExpiry_early {s : State} {a : Agent} {target : BitVec 32} (hexists : agentExists a = true)
    (hwait : s.agentWait a = some (.twait target)) (hearly : 0 < (target - s.ns).toInt) : exec (.twaitExpiry a) s = .next s := by
  rw [exec_twaitExpiry hexists hwait, reached_eq_false hearly]
  rfl

theorem timedWait : Spec.TimedWait := by
  intro s a ra target
  refine ⟨fun h hprofile => ?_, fun c hc hwait hafter => ?_, fun p hp hwait hafter => ?_⟩
  · intro g
    have hpacket : s.isPacket a = false := by
      cases a with
      | ctx c => exact hprofile c rfl
      | gate p => rfl
    have hexec := exec_twait ra h hpacket
    rw [timeField_eq] at hexec
    refine ⟨fun hle => ?_, fun hlt => ⟨_, hexec.trans ?_, State.waitFor_noteIssue h.1 1 (.twait g)⟩⟩
    · rw [Leaves, hexec, if_pos ((reached_iff _ _).2 hle)]
    · rw [reached_eq_false hlt, if_neg Bool.false_ne_true]
  · have hexists : agentExists (.ctx c) = true := decide_eq_true hc
    refine ⟨fun hawake hle => ?_, exec_twaitExpiry_early hexists hwait⟩
    rw [exec_twaitExpiry_reached hexists hwait hawake hle, finish_ctx hafter]
    exact ⟨_, rfl, onlyContext_settle_setCtx ..⟩
  · have hexists : agentExists (.gate p) = true := decide_eq_true hp
    refine ⟨fun hawake hle => ?_, exec_twaitExpiry_early hexists hwait⟩
    rw [exec_twaitExpiry_reached hexists hwait hawake hle, finish_gate hafter]
    refine ⟨_, rfl, ?_, ?_, fun c => ?_, fun q hq => ?_⟩
    · rw [State.settle_gate, State.gate_setGate_self]
    · refine SameMemory.trans (sameMemory_setGate ?_) (sameMemory_settle _)
      rfl
    · rw [State.settle_ctx, State.ctx_setGate]
    · rw [State.settle_gate, State.gate_setGate, if_neg hq]

/-- Settles O12: yield, time, halt and twait, each from what its issue comes to, and the rotation by the search for the next place. -/
theorem yieldTimeHaltAndWait : Obligations.YieldTimeHaltAndWait :=
  ⟨yieldAndTime, haltStopsTheAgent, timedWait, turnsRotate⟩

end Sys2Proof.Machine
